-- ==== Sys2Proof/Word.lean ====
section
/-! DEFINITION. The words that travel on the ports: bytes and 16-bit checks (R156). -/

namespace Sys2Proof

/-- One byte of a frame (R156). -/
abbrev Byte := BitVec 8

/-- A 16-bit word of a frame: a check, a mask or a two-byte field (R156, R163). -/
abbrev Check := BitVec 16

end Sys2Proof
end

