-- ==== Sys2Proof/Config.lean ====
section
/-! DEFINITION. What is fixed for the part: the capacities of section 0.8 and the free values that the manual leaves open. -/

namespace Sys2Proof.Config

/-- The hardware revision that IDENTIFY reports, "a value from 00h to FFh set when the part is made" (R165).
A free value, log 18. -/
opaque hardwareRevision : Byte

/-- Whether an averaged analog input, in millivolts, that lies exactly half-way between two tenths of a dB is
rounded upward; R148 says "rounded to the nearest whole number" and no more. A free value, log 17. -/
opaque analogHalfUp : Int → Bool

/-- Whether a yield due mark set before MANUAL PENDING outlives a withdrawal of the crank request that returns the state to
MOVING: R151 says that the mark "stays set for the rest of the scan", R82 that the scan then "continues". A free value, log 23. -/
opaque yieldMarkOutlives : Bool

/-- Segment queue, entries (0.8, R46). -/
def queueCapacity : Nat := 16
/-- Locked group and moves of one QUEUE MOVES request (0.8, R49). -/
def groupCapacity : Nat := 8
/-- Site table slots (0.8, R104). -/
def slotCount : Nat := 48
/-- Solution cache entries (0.8, R124). -/
def cacheCapacity : Nat := 12
/-- Greatest number of scan steps (0.8). -/
def scanSteps : Nat := 256
/-- Greatest scan report block (0.8). -/
def reportBlock : Nat := 32
/-- Frames of a port's receive list (0.8, R159). -/
def receiveCapacity : Nat := 4
/-- Greatest count that a notice field carries (R35, R67, R68, R121, R134, R161). -/
def countLimit : Nat := 255

end Sys2Proof.Config
end

