-- ==== Sys2Proof/Syntax.lean ====
section
/-! DEFINITION. The commands of the MDC-40: one constructor of `Instr` per row of spec/opcode_table.json, and the types of
their operands. A request's parameters are kept as the frame carries them, so that every check of the owning block can fail. -/

namespace Sys2Proof

/-- The three ports, each with its master (0.4, 0.7). -/
inductive Port where
  | cab
  | rack
  | link
deriving DecidableEq, Repr

/-- One item for each port. -/
structure Ports (α : Type) where
  cab : α
  rack : α
  link : α
deriving DecidableEq, Repr

def Ports.get {α : Type} (m : Ports α) : Port → α
  | .cab => m.cab
  | .rack => m.rack
  | .link => m.link

def Ports.set {α : Type} (m : Ports α) (p : Port) (x : α) : Ports α :=
  match p with
  | .cab => { m with cab := x }
  | .rack => { m with rack := x }
  | .link => { m with link := x }

/-- The four axes (1.1). -/
inductive Axis where
  | mast
  | pan
  | tilt
  | pol
deriving DecidableEq, Repr

/-- One item for each axis, in the order of the STATUS record. -/
structure Axes (α : Type) where
  mast : α
  pan : α
  tilt : α
  pol : α
deriving DecidableEq, Repr

def Axes.get {α : Type} (m : Axes α) : Axis → α
  | .mast => m.mast
  | .pan => m.pan
  | .tilt => m.tilt
  | .pol => m.pol

def Axes.set {α : Type} (m : Axes α) (a : Axis) (x : α) : Axes α :=
  match a with
  | .mast => { m with mast := x }
  | .pan => { m with pan := x }
  | .tilt => { m with tilt := x }
  | .pol => { m with pol := x }

/-- A reading of the four encoders and the four at-rest lines (R4). -/
structure Reading where
  counts : Axes Int
  atRest : Axes Bool
deriving DecidableEq, Repr

/-- Pitch and roll in centidegrees (R8). -/
structure Level where
  pitch : Int
  roll : Int
deriving DecidableEq, Repr

/-- One move of a QUEUE MOVES request as carried: kind, axis, value, rate (R157). -/
structure RawMove where
  kind : Byte
  axis : Byte
  value : Int
  rate : Byte
deriving DecidableEq, Repr

/-- The 31 bytes of a site record as carried (9.5): the name length, the 16 places of the name and the other fields. -/
structure SiteFields where
  nameLength : Byte
  name : List Byte
  bearing : BitVec 16
  elevation : BitVec 16
  polarisation : BitVec 16
  height : BitVec 16
  pattern : Byte
  stepSize : Byte
  defaultSteps : Byte
  rowLength : Byte
  learn : Byte
  levelSource : Byte
deriving DecidableEq, Repr

/-- The seven parameters of PEAK, each present or absent (R143); a pattern travels with its row length byte (R157). -/
structure PeakParams where
  slot : Option Nat
  pattern : Option (Byte × Nat)
  stepSize : Option Nat
  steps : Option Nat
  source : Option Byte
  dwell : Option Nat
  block : Option Nat
deriving DecidableEq, Repr

/-- The nine configured values of R170, each in the unit carried. -/
structure SettingValues where
  idleTimeout : Int
  levelSource : Int
  dwell : Int
  block : Int
  learnThreshold : Int
  pulses : Int
  ceiling : Int
  tolerance : Int
  suspension : Int
deriving DecidableEq, Repr

/-- What the read-back of a slot write finds (R113): the record as written, or contents whose check differs from
the right one by `error`. -/
inductive ReadBack where
  | good
  | bad (site : SiteFields) (redirection : Byte) (error : Check)
deriving DecidableEq, Repr

/-- The inputs that a start finds (R167 to R169): the full reading, the first inclinometer sample (used by a cold start),
the lines at the end of the start, whether PARK was seen negated at any moment during it (R88), and the read-back of a
slot write that a warm start waits for (R123). -/
structure StartInputs where
  reading : Reading
  level : Level
  park : Bool
  estop : Bool
  supplyOk : Bool
  manualReq : Bool
  resetLine : Bool
  faultLine : Axes Bool
  ready : Ports Bool
  parkNegatedDuring : Bool
  readBack : ReadBack
deriving DecidableEq, Repr

/-- How an erase stopped by a power loss leaves the slot being erased (R113): FREE, as it was, or damaged, with the
contents then found. -/
inductive EdgeSlot where
  | free
  | asItWas
  | damaged (site : SiteFields) (redirection : Byte) (check : Check)
deriving DecidableEq, Repr

/-- What a power loss leaves in nonvolatile memory when it stops a slot write, an erase or a settings write (R113, R171).
Each part is read only if that operation was in flight. -/
structure PowerLoss where
  /-- the contents of the slot being written, which stays recorded as WRITING -/
  slotSite : SiteFields
  slotRedirection : Byte
  slotCheck : Check
  /-- the number of slots that the erase had reached, and how the next one is left -/
  erased : Nat
  edge : EdgeSlot
  /-- the stored settings: none if the old set is whole, else values and the difference of the check from the right one -/
  settings : Option (SettingValues × Check)
deriving DecidableEq, Repr

/-- The requests of the catalogue (R159), with the parameters their frames carry. -/
inductive Request where
  | claim
  | withdraw
  | release
  | queueMoves (lock : Byte) (moves : List RawMove)
  | aim (slot : Nat) (heading : Option Int) (flag : Byte)
  | stow
  | peak (params : PeakParams)
  | halt
  | clearAxis (axis : Byte)
  | setHeading (value : Int)
  | readSite (slot : Nat)
  | stageSite (slot : Nat) (fields : SiteFields)
  | commitSite (slot : Nat) (check : Check)
  | retireSite (slot : Nat) (redirection : Option Nat)
  | eraseTable
  | invalidateSite (slot : Nat)
  | flushCache
  | readCache
  | levelReport (level : Int)
  | status
  | identify
  | scanResult
  | clearLatches
  | clearLockout
  | setNotices (mask : BitVec 16)
  | configure (feature : Byte) (value : Int)
  | revert
  | restart
deriving DecidableEq, Repr

/-- The commands: one constructor per row of spec/opcode_table.json. -/
inductive Instr where
  | powerApplied (inputs : StartInputs)
  | reset (inputs : StartInputs)
  | restart (p : Port) (inputs : StartInputs)
  | frameReceived (p : Port) (last : Byte)
  | frameByteTimeout (p : Port)
  | takeFrame (p : Port)
  | readyChange (p : Port) (asserted : Bool)
  | transmitBegin (p : Port)
  | frameSent (p : Port)
  | claim (p : Port)
  | withdraw (p : Port)
  | release (p : Port)
  | queueMoves (p : Port) (lock : Byte) (moves : List RawMove)
  | aim (p : Port) (slot : Nat) (heading : Option Int) (flag : Byte)
  | stow (p : Port)
  | peak (p : Port) (params : PeakParams)
  | halt (p : Port)
  | clearAxis (p : Port) (axis : Byte)
  | setHeading (p : Port) (value : Int)
  | readSite (p : Port) (slot : Nat)
  | stageSite (p : Port) (slot : Nat) (fields : SiteFields)
  | commitSite (p : Port) (slot : Nat) (check : Check)
  | retireSite (p : Port) (slot : Nat) (redirection : Option Nat)
  | eraseTable (p : Port)
  | slotWriteEnd (readBack : ReadBack)
  | eraseEnd
  | invalidateSite (p : Port) (slot : Nat)
  | flushCache (p : Port)
  | readCache (p : Port)
  | levelReport (p : Port) (level : Int)
  | status (p : Port)
  | identify (p : Port)
  | scanResult (p : Port)
  | clearLatches (p : Port)
  | clearLockout (p : Port)
  | setNotices (p : Port) (mask : BitVec 16)
  | configure (p : Port) (feature : Byte) (value : Int)
  | revert (p : Port)
  | settingsWriteEnd
  | estopAsserted
  | estopNegated
  | parkNegated
  | parkAsserted
  | supplyOkNegated
  | supplyOkAsserted
  | settleTimerExpiry (suspended : Nat)
  | suspensionLimitExpiry
  | manualReqAsserted
  | manualReqNegated (reading : Reading)
  | faultLineAsserted (a : Axis)
  | obstructionEdge
  | poseReading (reading : Reading)
  | stallWindowExpiry (a : Axis)
  | settlingTimeout (a : Axis)
  | restWatchExpiry
  | idleTimerExpiry
  | inclinometerSample (sample : Level)
  | anemometerPulse
  | windSample
  | dwellEnd (millivolts : Int)
  | levelWaitExpiry
  | faultLineNegated (a : Axis)
  | resetNegated
  | powerLoss (left : PowerLoss)
  | byteReceived (p : Port) (b : Byte)
deriving DecidableEq, Repr

end Sys2Proof
end

