-- ==== Sys2Proof/WellFormed.lean ====
section
/-! DEFINITION. The commands that a frame, a line or a sensor of the controller can bring: each numeric operand fits the bytes
that carry it (R156, R157), and a check said to be bad is bad. A meaning is total and gives every command an effect; the checks
of the owning blocks, which answer OUT OF RANGE and the like, are in the meanings and not here. -/

namespace Sys2Proof

/-- A value that one unsigned byte carries. -/
def fitsByte (n : Nat) : Bool := n < 256

/-- A value that two unsigned bytes carry. -/
def fitsWord (i : Int) : Bool := 0 ≤ i && i < 65536

/-- A value that two bytes carry in two's complement (R156). -/
def fitsSigned (i : Int) : Bool := -32768 ≤ i && i < 32768

def RawMove.wf (m : RawMove) : Bool := fitsSigned m.value

/-- The name has its 16 places (9.5). -/
def SiteFields.wf (f : SiteFields) : Bool := f.name.length == 16

def PeakParams.wf (q : PeakParams) : Bool :=
  q.slot.all fitsByte && q.pattern.all (fun x => fitsByte x.2) && q.stepSize.all fitsByte
    && q.steps.all (· < 65536) && q.dwell.all (· < 65536) && q.block.all fitsByte

/-- A bad read-back is bad: its check differs from the right one (R113). -/
def ReadBack.wf : ReadBack → Bool
  | .good => true
  | .bad site _ error => site.wf && error != 0

def EdgeSlot.wf : EdgeSlot → Bool
  | .free => true
  | .asItWas => true
  | .damaged site _ _ => site.wf

/-- A settings write cut short leaves the old set whole or a check that does not match (R171). -/
def PowerLoss.wf (l : PowerLoss) : Bool :=
  l.slotSite.wf && l.erased < 48 && l.edge.wf && l.settings.all (fun x => x.2 != 0)

def StartInputs.wf (i : StartInputs) : Bool := i.readBack.wf

/-- The request fits a frame: 11 moves of five bytes are the most that 62 body bytes hold beside the code, the lock flag and
the count (R156, R157). -/
def Request.wf : Request → Bool
  | .queueMoves _ moves => moves.length ≤ 11 && moves.all RawMove.wf
  | .aim slot heading _ => fitsByte slot && heading.all fitsWord
  | .peak q => q.wf
  | .setHeading value => fitsWord value
  | .readSite slot => fitsByte slot
  | .stageSite slot fields => fitsByte slot && fields.wf
  | .commitSite slot _ => fitsByte slot
  | .retireSite slot redirection => fitsByte slot && redirection.all (· < 255)
  | .invalidateSite slot => fitsByte slot
  | .levelReport level => fitsSigned level
  | .configure feature value => feature != 0x7F && fitsSigned value
  | _ => true

/-- The port and the request that a request command brings to its owning block. -/
def Instr.request? : Instr → Option (Port × Request)
  | .restart p _ => some (p, .restart)
  | .claim p => some (p, .claim)
  | .withdraw p => some (p, .withdraw)
  | .release p => some (p, .release)
  | .queueMoves p lock moves => some (p, .queueMoves lock moves)
  | .aim p slot heading flag => some (p, .aim slot heading flag)
  | .stow p => some (p, .stow)
  | .peak p params => some (p, .peak params)
  | .halt p => some (p, .halt)
  | .clearAxis p axis => some (p, .clearAxis axis)
  | .setHeading p value => some (p, .setHeading value)
  | .readSite p slot => some (p, .readSite slot)
  | .stageSite p slot fields => some (p, .stageSite slot fields)
  | .commitSite p slot check => some (p, .commitSite slot check)
  | .retireSite p slot redirection => some (p, .retireSite slot redirection)
  | .eraseTable p => some (p, .eraseTable)
  | .invalidateSite p slot => some (p, .invalidateSite slot)
  | .flushCache p => some (p, .flushCache)
  | .readCache p => some (p, .readCache)
  | .levelReport p level => some (p, .levelReport level)
  | .status p => some (p, .status)
  | .identify p => some (p, .identify)
  | .scanResult p => some (p, .scanResult)
  | .clearLatches p => some (p, .clearLatches)
  | .clearLockout p => some (p, .clearLockout)
  | .setNotices p mask => some (p, .setNotices mask)
  | .configure p feature value => some (p, .configure feature value)
  | .revert p => some (p, .revert)
  | _ => none

/-- A command that the controller can be brought. -/
def Instr.wf (i : Instr) : Bool :=
  match i with
  | .powerApplied inputs => inputs.wf
  | .reset inputs => inputs.wf
  | .restart _ inputs => inputs.wf
  | .slotWriteEnd readBack => readBack.wf
  | .powerLoss left => left.wf
  | _ => i.request?.all (fun x => x.2.wf)

end Sys2Proof
end

