-- ==== Sys2Proof/Machine/State.lean ====
section
/-! DEFINITION. The state of the MDC-40 as plain data, block by block in the order of section 0.3, and the state at reset. -/

namespace Sys2Proof.Machine

/-- The part has no condition in which a command stops it: every command answers a next state. No constructor, so no
meaning can raise one: safe. -/
inductive Fault where
deriving DecidableEq, Repr

/-- What a command may be refused for. -/
inductive Refusal where
  /-- Raised by an arm of `exec` whose command has no meaning yet; no meaning raises it. Safe: it claims nothing. -/
  | notModelled (mnemonic : String)
deriving DecidableEq, Repr

/-! ### Names used by several blocks -/

/-- The parties that may hold motion authority (0.7). -/
inductive Party where
  | port (p : Port)
  | safety
deriving DecidableEq, Repr

/-- The authority states (R20). -/
inductive AuthState where
  | free
  | held
  | moving
  | yielding
  | manualPending
  | manual
  | lockout
deriving DecidableEq, Repr

/-- The lockout reasons (R42). -/
inductive LockReason where
  | estop
  | interlock
  | stowBlocked
  | stowFailed
deriving DecidableEq, Repr

/-- The lockout reason set (R42). -/
structure Reasons where
  estop : Bool
  interlock : Bool
  stowBlocked : Bool
  stowFailed : Bool
deriving DecidableEq, Repr

/-- The rates of moves (R2). -/
inductive Rate where
  | slow
  | normal
  | fast
deriving DecidableEq, Repr

/-- The purposes of entries (R47). -/
inductive Purpose where
  | plain
  | aim
  | stow
  | lower
  | scan
deriving DecidableEq, Repr

/-- Entry and scan end reasons, in the order of their values (R157). -/
inductive EndReason where
  | complete
  | yielded
  | endedManual
  | halted
  | safety
  | estop
  | lockout
  | levelLost
  | limit
  | stalled
  | driveFault
  | envelope
  | abandonedSupply
  | axisFaulted
  | wind
  | obstructed
  | outOfLevel
  | interlock
deriving DecidableEq, Repr

/-- The wind classes (R90). -/
inductive WindClass where
  | normal
  | caution
  | limit
deriving DecidableEq, Repr

/-- The slot states (R104). -/
inductive SlotState where
  | free
  | writing
  | committed
  | retired
  | damaged
deriving DecidableEq, Repr

/-- The causes of a CACHE FLUSHED notice (R134). -/
inductive FlushCause where
  | flush
  | level
  | park
  | erase
  | invalidate
  | retire
deriving DecidableEq, Repr

/-- The status values of responses, in the order of their values (R160). -/
inductive Status where
  | done
  | granted
  | pending
  | wait
  | alreadyHolder
  | notHolder
  | noClaim
  | queueFull
  | outOfRange
  | badRequest
  | notPermitted
  | lockedOut
  | manual
  | aimed
  | noSite
  | redirected
  | gone
  | noHeading
  | stowBlocked
  | tableBusy
  | slotTaken
  | notCommitted
  | badRedirection
  | checkMismatch
  | nothingStaged
  | accepted
  | faultPresent
  | unsupported
deriving DecidableEq, Repr

/-! ### The segment queue and the motion executor (sections 3 and 4) -/

/-- The two level sources of a scan (R144). -/
inductive LevelSource where
  | analog
  | link
deriving DecidableEq, Repr

/-- The scan patterns (R106). -/
inductive ScanPattern where
  | spiral
  | raster
deriving DecidableEq, Repr

/-- The parameters of a SCAN entry, fixed when it is built (R144). The row length is kept, and unused, for SPIRAL. -/
structure ScanParams where
  pattern : ScanPattern
  rowLength : Nat
  stepSize : Nat
  steps : Nat
  source : LevelSource
  dwell : Int
  block : Nat
deriving DecidableEq, Repr

/-- The kind of an entry with what the kind carries (3.1): its axis and value, or the scan parameters. -/
inductive Motion where
  | moveTo (a : Axis) (value : Int)
  | moveBy (a : Axis) (offset : Int)
  | scan (params : ScanParams)
deriving DecidableEq, Repr

/-- The entry record (3.1). -/
structure Entry where
  tag : Nat
  group : Option Nat
  motion : Motion
  rate : Rate
  origin : Party
  purpose : Purpose
  slot : Option Nat
  target : Option Int
deriving DecidableEq, Repr

/-- RUNNING or SUSPENDED (R71). -/
inductive Execution where
  | running
  | suspended
deriving DecidableEq, Repr

/-- The class of a MAST entry at its start (R13). -/
inductive MastClass where
  | raising
  | lowering
  | holding
deriving DecidableEq, Repr

/-- The phase of an axis (R56): no running move, driving with the encoder count at the start of the 2 s stall window (R58),
or settling. -/
inductive AxisPhase where
  | idle
  | driving (window : Int)
  | settling
deriving DecidableEq, Repr

/-- What the executor holds of the active entry, which is the head of the queue: execution state, class, the phase of each
axis, and the marks passed on to its scan (R145, R151). -/
structure Active where
  execution : Execution
  mastClass : Option MastClass
  phases : Axes AxisPhase
  yieldDue : Bool
  crankDue : Bool
deriving DecidableEq, Repr

/-- The two safety groups (R87). -/
inductive SafetyGroup where
  | parkStow
  | windLowering
deriving DecidableEq, Repr

/-- An ending as reported to the arbiter (R31): whether it is a boundary, whether the entry completed, the halted tag and the
discarded count of a halt or an abandonment, which R82 carries and which are 0 for any other ending (R61), and the safety group
that the entry's failure ended, of which the Safety Monitor heard at the failure (R61, log 54). -/
structure Ending where
  boundary : Bool
  completed : Bool
  halted : Nat
  discarded : Nat
  failed : Option SafetyGroup := none
deriving DecidableEq, Repr

/-- An ended entry whose ending report is held (R62): the axes that it drove. Its presence is the 2 s rest watch running. -/
structure Closing where
  axes : Axes Bool
  ending : Ending
deriving DecidableEq, Repr

/-- The supply condition (R70). -/
inductive Supply where
  | available
  | absent
  | settling
deriving DecidableEq, Repr

/-- The rate line (R3). -/
inductive RateLine where
  | stop
  | run (r : Rate)
deriving DecidableEq, Repr

/-- The lines that the controller drives of one axis drive interface (R3). -/
structure Drive where
  enable : Bool
  increasing : Bool
  rate : RateLine
  brake : Bool
deriving DecidableEq, Repr

structure Executor where
  queue : List Entry
  active : Option Active
  closing : Option Closing
  nextTag : Nat
  supply : Supply
  /-- the suspension timer: stopped, or running toward this limit in seconds (R71) -/
  suspension : Option Int
  /-- the settle timer runs (R70) -/
  settle : Bool
  drives : Axes Drive
deriving DecidableEq, Repr

/-! ### The authority arbiter (section 2) -/

/-- A handover that waits for the at-rest confirmation, named by the rule that called for it (R34): R24, R29, R33, R37, R41. -/
inductive Deferral where
  | preempt
  | release
  | yield
  | idle
  | safetyEnd
deriving DecidableEq, Repr

structure Arbiter where
  auth : AuthState
  holder : Option Party
  claims : List Port
  releaseMark : Bool
  /-- the idle timer: stopped, or running toward this limit in units of 10 s; a limit of 0 does not expire (R36) -/
  idle : Option Int
  reasons : Reasons
  grant : Bool
  deferred : Option Deferral
  /-- the wait at the end of a crank, with the positions of its full reading (R85 steps 2 and 3) -/
  crankEnd : Option (Axes Int)
deriving DecidableEq, Repr

/-! ### The pose monitor (section 1) -/

structure PoseMonitor where
  counts : Axes Int
  position : Axes Int
  atRest : Axes Bool
  faulted : Axes Bool
  latch : Bool
  level : Level
  lamp : Bool
  faultLine : Axes Bool
deriving DecidableEq, Repr

/-! ### The safety monitor (section 5) and the lines -/

/-- The pulse counts of the current 1 s interval and of the two closed before it (R87, R89). -/
structure Pulses where
  current : Nat
  last : Nat
  beforeLast : Nat
deriving DecidableEq, Repr

structure SafetyMonitor where
  pulses : Pulses
  speed : Nat
  windClass : WindClass
  calm : Nat
  ease : Nat
  park : Bool
  estop : Bool
  supplyOk : Bool
  manualReq : Bool
  resetLine : Bool
  group : Option SafetyGroup
  alarmPark : Bool
  alarmWind : Bool
  alarm : Bool
deriving DecidableEq, Repr

/-! ### The site table store (section 6) -/

/-- The slot state as recorded in nonvolatile memory; `other` is a state that is none of the rest (R122). -/
inductive Recorded where
  | free
  | writing
  | committed
  | retired
  | other
deriving DecidableEq, Repr

/-- The contents of a slot in nonvolatile memory: the record as carried, the redirection byte (FFh when absent) and the
record check (R107). -/
structure Contents where
  site : SiteFields
  redirection : Byte
  check : Check
deriving DecidableEq, Repr

/-- One slot: its slot state, the state recorded, and its contents, absent exactly when it holds no record (R104, R107). -/
structure Slot where
  state : SlotState
  recorded : Recorded
  contents : Option Contents
deriving DecidableEq, Repr

/-- A FREE slot (R104). -/
def Slot.free : Slot := { state := .free, recorded := .free, contents := none }

/-- A candidate in a staging area: target slot, record and staged check (R108). -/
structure Candidate where
  slot : Nat
  site : SiteFields
  check : Check
deriving DecidableEq, Repr

/-- The write engine (R113): idle, or one slot write with the port that began it, or the erase with the port that asked and
the number of slots that were not FREE (R118). -/
inductive Engine where
  | idle
  | commit (slot : Nat) (writer : Port)
  | retire (slot : Nat) (writer : Port)
  | erase (requester : Port) (notFree : Nat)
deriving DecidableEq, Repr

structure Store where
  slots : List Slot
  staging : Ports (Option Candidate)
  engine : Engine
deriving DecidableEq, Repr

/-! ### The solution cache (section 7), the aim planner and the scan engine (section 8) -/

structure CacheEntry where
  slot : Nat
  bearing : Int
  elevation : Int
  polarisation : Int
  height : Int
  peak : Int
deriving DecidableEq, Repr

structure Cache where
  entries : List CacheEntry
  reference : Option Level
deriving DecidableEq, Repr

/-- The phases of a scan (8.6). -/
inductive ScanPhase where
  | stepMove
  | dwell
  | levelWait
  | finalMove
deriving DecidableEq, Repr

/-- A pan and a tilt (8.6). -/
structure PanTilt where
  pan : Int
  tilt : Int
deriving DecidableEq, Repr

/-- The running scan (8.6). Its tag, slot and parameters are those of the active SCAN entry; its steps done, best level and
best pose are those of the last scan result, which is its record (R145). -/
structure Scan where
  start : PanTilt
  index : Nat
  phase : ScanPhase
  target : PanTilt
deriving DecidableEq, Repr

/-- The last scan result (R154). The steps not done are the steps requested less the steps done. -/
structure ScanResult where
  tag : Nat
  slot : Option Nat
  requested : Nat
  done : Nat
  bestLevel : Option Int
  bestPose : Option PanTilt
  endReason : Option EndReason
  learned : Bool
deriving DecidableEq, Repr

/-- The last LINK report (R149). Of the moment of its arrival the rules ask one thing, kept here: whether it came after the
current dwell began (log 16). -/
structure LinkReport where
  level : Int
  sinceDwell : Bool
deriving DecidableEq, Repr

structure ScanEngine where
  scan : Option Scan
  result : Option ScanResult
  report : Option LinkReport
deriving DecidableEq, Repr

/-! ### The settings store (section 10) -/

/-- The stored set with its check (R171). -/
structure StoredSettings where
  values : SettingValues
  check : Check
deriving DecidableEq, Repr

structure Settings where
  inForce : SettingValues
  defaulted : Bool
  stored : StoredSettings
  /-- the settings write in flight: the feature code and the value that its DONE carries (R170) -/
  writing : Option (Byte × Int)
deriving DecidableEq, Repr

/-! ### Notices and the port interfaces (section 9) -/

/-- A start's cause: COLD, or WARM by RESET or RESTART (R168). -/
inductive StartCause where
  | cold
  | warmReset
  | warmRestart
deriving DecidableEq, Repr

/-- AUTHORITY events (R35). -/
inductive AuthEvent where
  | granted
  | lost
  | yieldDue
  | retained
deriving DecidableEq, Repr

/-- AUTHORITY reasons (R35). -/
inductive AuthReason where
  | preempted
  | released
  | idle
  | safety
  | manual
  | estop
  | lockout
deriving DecidableEq, Repr

/-- The event of a condition notice (R162). -/
inductive ConditionEvent where
  | lockout
  | latch
  | settings
  | alarm
deriving DecidableEq, Repr

/-- SITE WRITTEN operations (R121). -/
inductive SiteOperation where
  | commit
  | retire
deriving DecidableEq, Repr

/-- The content of a notice, one constructor per kind in the order of R162; kind 13 has one for each event. -/
inductive NoticeBody where
  | started (cause : StartCause) (mastUp : Bool) (damaged : Nat) (reasons : Reasons)
  | authority (event : AuthEvent) (reason : Option AuthReason) (halted discarded : Nat)
  | claimRefused
  | segmentDone (tag completed depth : Nat)
  | segmentFailed (tag : Nat) (axis : Option Axis) (purpose : Purpose) (slot : Option Nat) (reason : EndReason)
      (discarded failures : Nat)
  | scanProgress (tag done requested : Nat) (best : Int) (pose : PanTilt)
  | scanEnd (result : ScanResult)
  | siteWritten (slot : Nat) (state : SlotState) (operation : SiteOperation) (writer : Port) (redirection : Byte)
      (writes : Nat)
  | tableErased (requester : Port) (notFree : Nat)
  | cacheFlushed (cause : FlushCause) (slot : Option Nat) (requester : Option Port) (removed remaining : Nat)
  | wind (now previous : WindClass) (speed : Nat) (ceiling mast : Int)
  | condition (event : ConditionEvent) (reasons : Reasons) (latch alarmPark alarmWind defaulted : Bool)
  | manualBegun (state : AuthState) (previous : Option Party) (halted discarded : Nat)
  | manualEnded (granted : Bool) (state : AuthState) (holder : Option Party) (pose : Axes Int) (reasons : Reasons)
  | supplySuspended (tag : Nat) (origin : Party) (purpose : Purpose) (limit : Int)
  | supplyResumed (tag : Nat) (origin : Party) (purpose : Purpose) (seconds : Nat)
deriving DecidableEq, Repr

/-- A response: the request code plus 80h, the status, and the fields of each of its frames; only READ CACHE has more than
one (R160). -/
structure Response where
  code : Byte
  status : Status
  parts : List (List Byte)
deriving DecidableEq, Repr

/-- An item of an output list (R161); a notice with its merged count. -/
inductive OutItem where
  | response (r : Response)
  | notice (body : NoticeBody) (merged : Nat)
deriving DecidableEq, Repr

/-- The receiver's condition (R158): HUNTING; COUNTING, before and after the LENGTH; CHECKING, before and after the first
check byte. Body bytes stand latest first. -/
inductive Receiver where
  | hunting
  | length
  | counting (length : Nat) (body : List Byte)
  | checking (body : List Byte) (high : Option Byte)
deriving DecidableEq, Repr

/-- The request taken from a port that awaits its answer (R159): passed to its block, or in the block's hands until the
settings write ends (R170). -/
inductive InHand where
  | nothing
  | passed (r : Request)
  | working
deriving DecidableEq, Repr

/-- A transmission (R161): whether it is a response, the bytes of the frame on the line, and the frames of the same response
still to go (R160). -/
structure Transmission where
  response : Bool
  frame : List Byte
  rest : List (List Byte)
deriving DecidableEq, Repr

structure PortState where
  rx : Receiver
  /-- the bodies of the frames received, oldest first (R159) -/
  receive : List (List Byte)
  inHand : InHand
  output : List OutItem
  mask : BitVec 16
  ready : Bool
  tx : Option Transmission
deriving DecidableEq, Repr

/-! ### The whole state -/

structure State where
  pending : List Instr
  powered : Bool
  ports : Ports PortState
  arb : Arbiter
  exe : Executor
  pose : PoseMonitor
  safe : SafetyMonitor
  store : Store
  cache : Cache
  /-- the van heading, known or unknown (R135) -/
  heading : Option Int
  scan : ScanEngine
  settings : Settings
deriving DecidableEq, Repr

def State.setPending (s : State) (x : List Instr) : State := { s with pending := x }
def State.setPowered (s : State) (x : Bool) : State := { s with powered := x }
def State.setPorts (s : State) (x : Ports PortState) : State := { s with ports := x }
def State.setArb (s : State) (x : Arbiter) : State := { s with arb := x }
def State.setExe (s : State) (x : Executor) : State := { s with exe := x }
def State.setPose (s : State) (x : PoseMonitor) : State := { s with pose := x }
def State.setSafe (s : State) (x : SafetyMonitor) : State := { s with safe := x }
def State.setStore (s : State) (x : Store) : State := { s with store := x }
def State.setCache (s : State) (x : Cache) : State := { s with cache := x }
def State.setHeading (s : State) (x : Option Int) : State := { s with heading := x }
def State.setScan (s : State) (x : ScanEngine) : State := { s with scan := x }
def State.setSettings (s : State) (x : Settings) : State := { s with settings := x }

/-! ### Values at a cold start (R20, R46, R87, R167, R170) -/

def Reasons.empty : Reasons := { estop := false, interlock := false, stowBlocked := false, stowFailed := false }

/-- Every axis the same. -/
def Axes.all {α : Type} (x : α) : Axes α := { mast := x, pan := x, tilt := x, pol := x }

/-- Every port the same. -/
def Ports.all {α : Type} (x : α) : Ports α := { cab := x, rack := x, link := x }

/-- The stopped condition (R3); the direction line, which the rule does not name, stands at decreasing (log 42). -/
def Drive.stopped : Drive := { enable := false, increasing := false, rate := .stop, brake := true }

/-- The defaults of R170. -/
def SettingValues.defaults : SettingValues :=
  { idleTimeout := 30, levelSource := 0, dwell := 500, block := 8, learnThreshold := -700, pulses := 10, ceiling := 8000,
    tolerance := 30, suspension := 120 }

/-- Every notice kind on: one place for each of the kinds 1 to 14 (R163, log 32). -/
def allKinds : BitVec 16 := 0x3FFF

def PortState.start : PortState :=
  { rx := .hunting, receive := [], inHand := .nothing, output := [], mask := allKinds, ready := true, tx := none }

def Arbiter.start : Arbiter :=
  { auth := .free, holder := none, claims := [], releaseMark := false, idle := none, reasons := Reasons.empty,
    grant := false, deferred := none, crankEnd := none }

def Executor.start : Executor :=
  { queue := [], active := none, closing := none, nextTag := 1, supply := .available, suspension := none, settle := false,
    drives := Axes.all Drive.stopped }

/-- The parked pose, at rest, in which the reset state finds the mechanism (log 1). -/
def PoseMonitor.start : PoseMonitor :=
  { counts := { mast := 0, pan := 0, tilt := -1000, pol := 0 }
    position := { mast := 0, pan := 0, tilt := -1000, pol := 0 }
    atRest := Axes.all true
    faulted := Axes.all false
    latch := false
    level := { pitch := 0, roll := 0 }
    lamp := true
    faultLine := Axes.all false }

def SafetyMonitor.start : SafetyMonitor :=
  { pulses := { current := 0, last := 0, beforeLast := 0 }, speed := 0, windClass := .normal, calm := 0, ease := 0,
    park := true, estop := false, supplyOk := true, manualReq := false, resetLine := false, group := none,
    alarmPark := false, alarmWind := false, alarm := false }

def Store.start : Store :=
  { slots := List.replicate Config.slotCount Slot.free, staging := Ports.all none, engine := .idle }

def Cache.start : Cache := { entries := [], reference := none }

def ScanEngine.start : ScanEngine := { scan := none, result := none, report := none }

/-- The check of the default settings as stored (R171, log 11); Tests/Slice0.lean computes it. -/
def defaultsCheck : Check := 0x5CFC

def Settings.start : Settings :=
  { inForce := SettingValues.defaults, defaulted := false,
    stored := { values := SettingValues.defaults, check := defaultsCheck }, writing := none }

/-- A controller without power whose nonvolatile memory holds these slots and this stored set (R113, R167). What every other
field shows while the power is off is the model's choice (log 6): the cold start values, and the parked pose of the reset state
with the STOWED lamp asserted, so that the lamp agrees with the positions; the next start replaces both (R19). -/
def State.off (slots : List Slot) (stored : StoredSettings) : State :=
  { pending := [], powered := false, ports := Ports.all PortState.start, arb := Arbiter.start, exe := Executor.start,
    pose := PoseMonitor.start, safe := SafetyMonitor.start,
    store := { slots := slots, staging := Ports.all none, engine := .idle },
    cache := Cache.start, heading := none, scan := ScanEngine.start,
    settings := { inForce := SettingValues.defaults, defaulted := false, stored := stored, writing := none } }

/-- The machine right after reset: a cold start of a part whose site table is empty and whose stored settings are the
defaults, which finds the mechanism stowed and parked, the van level, PARK and SUPPLY OK asserted and every other line
negated (log 1). STARTED waits on each output list (R168). -/
def State.reset : State :=
  { pending := []
    powered := true
    ports := Ports.all { PortState.start with output := [.notice (.started .cold false 0 Reasons.empty) 0] }
    arb := Arbiter.start
    exe := Executor.start
    pose := PoseMonitor.start
    safe := SafetyMonitor.start
    store := Store.start
    cache := Cache.start
    heading := none
    scan := ScanEngine.start
    settings := Settings.start }

end Sys2Proof.Machine
end

