-- ==== Sys2Proof/Machine/Operands.lean ====
section
/-! DEFINITION. How values travel (R156, R157): byte order, the CRC-16, the values of enumerated fields, the site record as
carried (9.5), and the frames of requests, encoded and decoded (R157, R159). -/

namespace Sys2Proof.Machine

/-! ### Bytes and byte order (R156) -/

/-- A one-byte field. -/
def byteOf (n : Nat) : Byte := BitVec.ofNat 8 n

/-- The two bytes of a word, high byte first (R156). -/
def wordBytes (w : BitVec 16) : List Byte := [w.extractLsb' 8 8, w.extractLsb' 0 8]

/-- A two-byte field, in two's complement where it is signed (R156). -/
def intBytes (i : Int) : List Byte := wordBytes (BitVec.ofInt 16 i)

/-- The word of a high and a low byte (R156). -/
def wordOf (high low : Byte) : BitVec 16 := high ++ low

/-- Two bytes read as an unsigned value. -/
def unsignedOf (high low : Byte) : Nat := (wordOf high low).toNat

/-- Two bytes read in two's complement. -/
def signedOf (high low : Byte) : Int := (wordOf high low).toInt

/-- A two-byte field that may be absent: a presence byte, then the value, zero when absent (R156, log 28). -/
def optionBytes (i : Option Int) : List Byte :=
  match i with
  | some v => 0x01 :: intBytes v
  | none => 0x00 :: intBytes 0

/-- A one-byte field that may be absent carries FFh when absent (R156). -/
def optionByte (n : Option Nat) : Byte :=
  match n with
  | some v => byteOf v
  | none => 0xFF

def boolByte (b : Bool) : Byte := if b then 0x01 else 0x00

/-! ### CRC-16 (R156) -/

/-- One bit of the check, high bit first: polynomial x^16 + x^12 + x^5 + 1. -/
def crcBit (c : Check) : Check :=
  if c.getLsbD 15 then (c <<< 1) ^^^ 0x1021 else c <<< 1

/-- One byte of the check. -/
def crcByte (c : Check) (b : Byte) : Check :=
  crcBit (crcBit (crcBit (crcBit (crcBit (crcBit (crcBit (crcBit (c ^^^ (b.zeroExtend 16 <<< 8)))))))))

/-- The CRC-16 of a list of bytes: initial value FFFFh, nothing reflected, no final exclusive-or (R156). -/
def crc16 (bytes : List Byte) : Check := bytes.foldl crcByte 0xFFFF

/-! ### Values of enumerated fields (R157) -/

def axisOf? (b : Byte) : Option Axis :=
  if b = 0x00 then some .mast else if b = 0x01 then some .pan else if b = 0x02 then some .tilt
  else if b = 0x03 then some .pol else none

def axisCode : Axis → Byte
  | .mast => 0x00
  | .pan => 0x01
  | .tilt => 0x02
  | .pol => 0x03

def Rate.ofByte? (b : Byte) : Option Rate :=
  if b = 0x00 then some .slow else if b = 0x01 then some .normal else if b = 0x02 then some .fast else none

def ScanPattern.ofByte? (b : Byte) : Option ScanPattern :=
  if b = 0x00 then some .spiral else if b = 0x01 then some .raster else none

def ScanPattern.code : ScanPattern → Byte
  | .spiral => 0x00
  | .raster => 0x01

def LevelSource.ofByte? (b : Byte) : Option LevelSource :=
  if b = 0x00 then some .analog else if b = 0x01 then some .link else none

def LevelSource.code : LevelSource → Byte
  | .analog => 0x00
  | .link => 0x01

def portCode : Port → Byte
  | .cab => 0x01
  | .rack => 0x02
  | .link => 0x03

def Party.code : Party → Byte
  | .port p => portCode p
  | .safety => 0x04

/-- A port field that may be absent, in a notice (R156). -/
def partyByte (h : Option Party) : Byte :=
  match h with
  | some x => x.code
  | none => 0xFF

def portByte (p : Option Port) : Byte :=
  match p with
  | some x => portCode x
  | none => 0xFF

def Purpose.code : Purpose → Byte
  | .plain => 0x00
  | .aim => 0x01
  | .stow => 0x02
  | .lower => 0x03
  | .scan => 0x04

def AuthState.code : AuthState → Byte
  | .free => 0x00
  | .held => 0x01
  | .moving => 0x02
  | .yielding => 0x03
  | .manualPending => 0x04
  | .manual => 0x05
  | .lockout => 0x06

def WindClass.code : WindClass → Byte
  | .normal => 0x00
  | .caution => 0x01
  | .limit => 0x02

def SlotState.code : SlotState → Byte
  | .free => 0x00
  | .writing => 0x01
  | .committed => 0x02
  | .retired => 0x03
  | .damaged => 0x04

def AuthEvent.code : AuthEvent → Byte
  | .granted => 0x00
  | .lost => 0x01
  | .yieldDue => 0x02
  | .retained => 0x03

def AuthReason.code : AuthReason → Byte
  | .preempted => 0x00
  | .released => 0x01
  | .idle => 0x02
  | .safety => 0x03
  | .manual => 0x04
  | .estop => 0x05
  | .lockout => 0x06

def authReasonByte (r : Option AuthReason) : Byte :=
  match r with
  | some x => x.code
  | none => 0xFF

def EndReason.code : EndReason → Byte
  | .complete => 0x00
  | .yielded => 0x01
  | .endedManual => 0x02
  | .halted => 0x03
  | .safety => 0x04
  | .estop => 0x05
  | .lockout => 0x06
  | .levelLost => 0x07
  | .limit => 0x08
  | .stalled => 0x09
  | .driveFault => 0x0A
  | .envelope => 0x0B
  | .abandonedSupply => 0x0C
  | .axisFaulted => 0x0D
  | .wind => 0x0E
  | .obstructed => 0x0F
  | .outOfLevel => 0x10
  | .interlock => 0x11

def endReasonByte (r : Option EndReason) : Byte :=
  match r with
  | some x => x.code
  | none => 0xFF

def FlushCause.code : FlushCause → Byte
  | .flush => 0x00
  | .level => 0x01
  | .park => 0x02
  | .erase => 0x03
  | .invalidate => 0x04
  | .retire => 0x05

def ConditionEvent.code : ConditionEvent → Byte
  | .lockout => 0x00
  | .latch => 0x01
  | .settings => 0x02
  | .alarm => 0x03

def SiteOperation.code : SiteOperation → Byte
  | .commit => 0x00
  | .retire => 0x01

/-- The status values (R160). -/
def Status.code : Status → Byte
  | .done => 0x00
  | .granted => 0x01
  | .pending => 0x02
  | .wait => 0x03
  | .alreadyHolder => 0x04
  | .notHolder => 0x05
  | .noClaim => 0x06
  | .queueFull => 0x07
  | .outOfRange => 0x08
  | .badRequest => 0x09
  | .notPermitted => 0x0A
  | .lockedOut => 0x0B
  | .manual => 0x0C
  | .aimed => 0x0D
  | .noSite => 0x0E
  | .redirected => 0x0F
  | .gone => 0x10
  | .noHeading => 0x11
  | .stowBlocked => 0x12
  | .tableBusy => 0x13
  | .slotTaken => 0x14
  | .notCommitted => 0x15
  | .badRedirection => 0x16
  | .checkMismatch => 0x17
  | .nothingStaged => 0x18
  | .accepted => 0x19
  | .faultPresent => 0x1A
  | .unsupported => 0x1B

/-! ### The site record as carried (9.5) -/

/-- The 16 places of a name. -/
def namePlaces (name : List Byte) : List Byte := (name ++ List.replicate 16 0x00).take 16

/-- The 31 bytes of a site record (9.5). -/
def siteBytes (f : SiteFields) : List Byte :=
  f.nameLength :: namePlaces f.name ++ wordBytes f.bearing ++ wordBytes f.elevation ++ wordBytes f.polarisation
    ++ wordBytes f.height ++ [f.pattern, f.stepSize, f.defaultSteps, f.rowLength, f.learn, f.levelSource]

/-- The record as stored: bytes past the name length are not stored and are returned as 00h (R166). -/
def siteStored (f : SiteFields) : SiteFields :=
  { f with name := namePlaces (f.name.take f.nameLength.toNat) }

/-- The record check: the CRC-16 over the record's fields in the order of R106, the redirection included (R107, log 10). -/
def recordCheck (site : SiteFields) (redirection : Byte) : Check := crc16 (siteBytes site ++ [redirection])

/-- Whether the stored check matches the fields (R107). -/
def Contents.good (c : Contents) : Bool := c.check == recordCheck c.site c.redirection

/-- A check that does not match: the right one changed by a difference, which a difference of zero leaves changed in its
lowest bit (R113, R171). -/
def badCheck (right error : Check) : Check := right ^^^ (if error = 0 then 0x0001 else error)

def siteBearing (f : SiteFields) : Int := f.bearing.toNat
def siteElevation (f : SiteFields) : Int := f.elevation.toInt
def sitePolarisation (f : SiteFields) : Int := f.polarisation.toInt
def siteHeight (f : SiteFields) : Int := f.height.toNat

/-- Default steps, carried as 0 for 256 (R106). -/
def siteSteps (f : SiteFields) : Nat := if f.defaultSteps = 0x00 then 256 else f.defaultSteps.toNat

def sitePattern (f : SiteFields) : ScanPattern := if f.pattern = 0x01 then .raster else .spiral

/-- Whether a name is within R106: 1 to 16 characters, each from 20h to 7Eh (R166). -/
def nameInRange (f : SiteFields) : Bool :=
  1 ≤ f.nameLength.toNat && f.nameLength.toNat ≤ 16
    && (f.name.take f.nameLength.toNat).all (fun c => 0x20 ≤ c.toNat && c.toNat ≤ 0x7E)

/-- The position of the first field outside its range, 1 to 11 (R106). -/
def siteFirstOutOfRange (f : SiteFields) : Option Nat :=
  if nameInRange f = false then some 1
  else if 35999 < siteBearing f then some 2
  else if siteElevation f < -1000 ∨ 9000 < siteElevation f then some 3
  else if sitePolarisation f < -9000 ∨ 9000 < sitePolarisation f then some 4
  else if siteHeight f < 1200 ∨ 15000 < siteHeight f ∨ siteHeight f % 10 ≠ 0 then some 5
  else if 0x01 < f.pattern.toNat then some 6
  else if f.stepSize.toNat < 5 ∨ 200 < f.stepSize.toNat then some 7
  else if f.rowLength.toNat < 2 ∨ 16 < f.rowLength.toNat then some 9
  else if 0x01 < f.learn.toNat then some 10
  else if 0x02 < f.levelSource.toNat then some 11
  else none

/-- The stored set as bytes: each value in the order of the table of R170, two bytes each (log 11). -/
def settingBytes (v : SettingValues) : List Byte :=
  intBytes v.idleTimeout ++ intBytes v.levelSource ++ intBytes v.dwell ++ intBytes v.block ++ intBytes v.learnThreshold
    ++ intBytes v.pulses ++ intBytes v.ceiling ++ intBytes v.tolerance ++ intBytes v.suspension

/-- The CRC-16 over the whole set (R171). -/
def settingsCheck (v : SettingValues) : Check := crc16 (settingBytes v)

/-! ### Frames -/

/-- A frame around a body: SYNC, LENGTH, body, check over LENGTH and body (R156). -/
def frameOf (body : List Byte) : List Byte :=
  0x7E :: byteOf body.length :: body ++ wordBytes (crc16 (byteOf body.length :: body))

/-- The request codes (R159). REVERT is CONFIGURE with feature code 7Fh (R170). -/
def requestCode : Request → Byte
  | .claim => 0x01
  | .withdraw => 0x02
  | .release => 0x03
  | .queueMoves _ _ => 0x10
  | .aim _ _ _ => 0x11
  | .stow => 0x12
  | .peak _ => 0x13
  | .halt => 0x14
  | .clearAxis _ => 0x15
  | .setHeading _ => 0x16
  | .readSite _ => 0x20
  | .stageSite _ _ => 0x21
  | .commitSite _ _ => 0x22
  | .retireSite _ _ => 0x23
  | .eraseTable => 0x24
  | .invalidateSite _ => 0x28
  | .flushCache => 0x29
  | .readCache => 0x2A
  | .levelReport _ => 0x30
  | .status => 0x38
  | .identify => 0x39
  | .scanResult => 0x3A
  | .clearLatches => 0x40
  | .clearLockout => 0x41
  | .setNotices _ => 0x48
  | .configure _ _ => 0x50
  | .revert => 0x50
  | .restart => 0x51

/-- The five bytes of one move: kind, axis, value, rate (R157). -/
def moveBytes (m : RawMove) : List Byte := m.kind :: m.axis :: intBytes m.value ++ [m.rate]

/-- The presence set of PEAK, the first parameter in the lowest bit (R157). -/
def peakPresence (q : PeakParams) : Byte :=
  byteOf ((if q.slot.isSome then 1 else 0) + (if q.pattern.isSome then 2 else 0) + (if q.stepSize.isSome then 4 else 0)
    + (if q.steps.isSome then 8 else 0) + (if q.source.isSome then 16 else 0) + (if q.dwell.isSome then 32 else 0)
    + (if q.block.isSome then 64 else 0))

/-- The parameters of PEAK, present or not, after the presence set (R157, log 29). -/
def peakBytes (q : PeakParams) : List Byte :=
  peakPresence q :: byteOf (q.slot.getD 0) :: (q.pattern.getD (0x00, 0)).1 :: byteOf (q.pattern.getD (0x00, 0)).2
    :: byteOf (q.stepSize.getD 0) :: intBytes (q.steps.getD 0)
    ++ (q.source.getD 0x00) :: intBytes (q.dwell.getD 0) ++ [byteOf (q.block.getD 0)]

/-- The parameter bytes of a request; 00h where it takes none (R156, R157). -/
def requestParams : Request → List Byte
  | .queueMoves lock moves => lock :: byteOf moves.length :: moves.flatMap moveBytes
  | .aim slot heading flag => byteOf slot :: optionBytes heading ++ [flag]
  | .peak q => peakBytes q
  | .clearAxis axis => [axis]
  | .setHeading value => intBytes value
  | .readSite slot => [byteOf slot]
  | .stageSite slot fields => byteOf slot :: siteBytes fields
  | .commitSite slot check => byteOf slot :: wordBytes check
  | .retireSite slot redirection => [byteOf slot, optionByte redirection]
  | .invalidateSite slot => [byteOf slot]
  | .levelReport level => intBytes level
  | .setNotices mask => wordBytes mask
  | .configure feature value => feature :: intBytes value
  | .revert => 0x7F :: intBytes 0
  | _ => [0x00]

/-- The body of a request frame (R156). -/
def requestBody (r : Request) : List Byte := requestCode r :: requestParams r

/-- A presence byte: 01h is present, 00h absent; any other value is read as present (log 28). -/
def presentByte (b : Byte) : Bool := b != 0x00

/-- The moves of a QUEUE MOVES request, five bytes each; none if a move is cut short. -/
def movesOf : List Byte → Option (List RawMove)
  | [] => some []
  | kind :: axis :: high :: low :: rate :: rest =>
    (movesOf rest).map (fun ms => { kind := kind, axis := axis, value := signedOf high low, rate := rate } :: ms)
  | _ => none

/-- The 31 bytes of a site record read as its fields (9.5). -/
def siteOf (bytes : List Byte) : Option SiteFields :=
  match bytes with
  | nameLength :: rest =>
    match rest.drop 16 with
    | [b1, b0, e1, e0, p1, p0, h1, h0, pattern, stepSize, steps, row, learn, source] =>
      some
        { nameLength := nameLength, name := rest.take 16, bearing := wordOf b1 b0, elevation := wordOf e1 e0,
          polarisation := wordOf p1 p0, height := wordOf h1 h0, pattern := pattern, stepSize := stepSize,
          defaultSteps := steps, rowLength := row, learn := learn, levelSource := source }
    | _ => none
  | [] => none

/-- The parameters of PEAK: those whose place in the presence set is clear are absent, and their bytes are not examined
(R157). Bit 7 of the set, of which the rule says nothing, is ignored, which is the model's choice (log 53). -/
def peakOf (bytes : List Byte) : Option PeakParams :=
  match bytes with
  | [presence, slot, pattern, row, stepSize, s1, s0, source, d1, d0, block] =>
    some
      { slot := if presence.getLsbD 0 then some slot.toNat else none
        pattern := if presence.getLsbD 1 then some (pattern, row.toNat) else none
        stepSize := if presence.getLsbD 2 then some stepSize.toNat else none
        steps := if presence.getLsbD 3 then some (unsignedOf s1 s0) else none
        source := if presence.getLsbD 4 then some source else none
        dwell := if presence.getLsbD 5 then some (unsignedOf d1 d0) else none
        block := if presence.getLsbD 6 then some block.toNat else none }
  | _ => none

/-- The slot number of a one-byte field that may be absent. -/
def slotOf (b : Byte) : Option Nat := if b = 0xFF then none else some b.toNat

/-- The request of a code and parameter bytes; none when the code names no request or the length is not the one the code
requires (R159). A request that takes no parameters has one parameter byte, which is not examined (log 33). -/
def requestOf (code : Byte) (params : List Byte) : Option Request :=
  let plain (r : Request) : Option Request :=
    match params with
    | [_] => some r
    | _ => none
  if code = 0x01 then plain .claim
  else if code = 0x02 then plain .withdraw
  else if code = 0x03 then plain .release
  else if code = 0x10 then
    match params with
    | lock :: count :: rest =>
      match movesOf rest with
      | some moves => if moves.length = count.toNat then some (.queueMoves lock moves) else none
      | none => none
    | _ => none
  else if code = 0x11 then
    match params with
    | [slot, presence, high, low, flag] =>
      some (.aim slot.toNat (if presentByte presence then some (unsignedOf high low : Nat) else none) flag)
    | _ => none
  else if code = 0x12 then plain .stow
  else if code = 0x13 then (peakOf params).map .peak
  else if code = 0x14 then plain .halt
  else if code = 0x15 then
    match params with
    | [axis] => some (.clearAxis axis)
    | _ => none
  else if code = 0x16 then
    match params with
    | [high, low] => some (.setHeading (unsignedOf high low : Nat))
    | _ => none
  else if code = 0x20 then
    match params with
    | [slot] => some (.readSite slot.toNat)
    | _ => none
  else if code = 0x21 then
    match params with
    | slot :: rest => (siteOf rest).map (.stageSite slot.toNat)
    | _ => none
  else if code = 0x22 then
    match params with
    | [slot, high, low] => some (.commitSite slot.toNat (wordOf high low))
    | _ => none
  else if code = 0x23 then
    match params with
    | [slot, redirection] => some (.retireSite slot.toNat (slotOf redirection))
    | _ => none
  else if code = 0x24 then plain .eraseTable
  else if code = 0x28 then
    match params with
    | [slot] => some (.invalidateSite slot.toNat)
    | _ => none
  else if code = 0x29 then plain .flushCache
  else if code = 0x2A then plain .readCache
  else if code = 0x30 then
    match params with
    | [high, low] => some (.levelReport (signedOf high low))
    | _ => none
  else if code = 0x38 then plain .status
  else if code = 0x39 then plain .identify
  else if code = 0x3A then plain .scanResult
  else if code = 0x40 then plain .clearLatches
  else if code = 0x41 then plain .clearLockout
  else if code = 0x48 then
    match params with
    | [high, low] => some (.setNotices (wordOf high low))
    | _ => none
  else if code = 0x50 then
    match params with
    | [feature, high, low] => if feature = 0x7F then some .revert else some (.configure feature (signedOf high low))
    | _ => none
  else if code = 0x51 then plain .restart
  else none

end Sys2Proof.Machine
end

