-- ==== Sys2Proof/Machine/Flags.lean ====
section
/-! DEFINITION. Sets of places and flags: the lockout reason set, the alarm cause set, the per-axis flags, the line states and
the notice mask, each with its byte form, the first place named in the lowest bit (R157, R164). -/

namespace Sys2Proof.Machine

/-- Whether a reason is in the set (R42). -/
def Reasons.has (r : Reasons) : LockReason → Bool
  | .estop => r.estop
  | .interlock => r.interlock
  | .stowBlocked => r.stowBlocked
  | .stowFailed => r.stowFailed

/-- The set with a reason in it or not (R42, R43). -/
def Reasons.put (r : Reasons) (k : LockReason) (present : Bool) : Reasons :=
  match k with
  | .estop => { r with estop := present }
  | .interlock => { r with interlock := present }
  | .stowBlocked => { r with stowBlocked := present }
  | .stowFailed => { r with stowFailed := present }

def Reasons.isEmpty (r : Reasons) : Bool := !(r.estop || r.interlock || r.stowBlocked || r.stowFailed)

/-- A byte whose places are the given flags, the first in the lowest bit (R157). -/
def placesByte (flags : List Bool) : Byte :=
  byteOf (flags.foldr (fun b n => (if b then 1 else 0) + 2 * n) 0)

/-- The lockout reason set: one place each for ESTOP, INTERLOCK, STOW BLOCKED, STOW FAILED (R164). -/
def Reasons.byte (r : Reasons) : Byte := placesByte [r.estop, r.interlock, r.stowBlocked, r.stowFailed]

/-- The alarm cause set: PARK, WIND (R100). -/
def alarmByte (park wind : Bool) : Byte := placesByte [park, wind]

/-- One place per axis (R164). -/
def axisFlags (f : Axes Bool) : Byte := placesByte [f.mast, f.pan, f.tilt, f.pol]

/-- The line states: PARK, SUPPLY OK, ESTOP, MANUAL REQ (R164). -/
def SafetyMonitor.lineByte (m : SafetyMonitor) : Byte := placesByte [m.park, m.supplyOk, m.estop, m.manualReq]

/-- Whether every axis has a flag. -/
def everyAxis (f : Axes Bool) : Bool := f.mast && f.pan && f.tilt && f.pol

/-- The axes with a flag set for one axis alone. -/
def onlyAxis (a : Axis) : Axes Bool := (Axes.all false).set a true

/-- Pan and tilt, the axes of a SCAN entry (R31). -/
def panAndTilt : Axes Bool := { mast := false, pan := true, tilt := true, pol := false }

/-- Whether each of the axes named is at rest or FAULTED (R31, R34, R62). -/
def PoseMonitor.restedOrFaulted (m : PoseMonitor) (axes : Axes Bool) : Bool :=
  (!axes.mast || m.atRest.mast || m.faulted.mast) && (!axes.pan || m.atRest.pan || m.faulted.pan)
    && (!axes.tilt || m.atRest.tilt || m.faulted.tilt) && (!axes.pol || m.atRest.pol || m.faulted.pol)

/-- The kind number of a notice, 1 to 14 (R162). -/
def NoticeBody.kind : NoticeBody → Nat
  | .started .. => 1
  | .authority .. => 2
  | .claimRefused => 3
  | .segmentDone .. => 4
  | .segmentFailed .. => 5
  | .scanProgress .. => 6
  | .scanEnd .. => 7
  | .siteWritten .. => 8
  | .tableErased .. => 9
  | .cacheFlushed .. => 10
  | .wind .. => 11
  | .condition .. => 12
  | .manualBegun .. => 13
  | .manualEnded .. => 13
  | .supplySuspended .. => 14
  | .supplyResumed .. => 14

/-- Whether a mask has a kind on (R163). -/
def kindOn (mask : BitVec 16) (kind : Nat) : Bool := mask.getLsbD (kind - 1)

/-- Whether a notice is placed under a mask: kinds 1 to 3 ignore it (R162, R163). -/
def admits (mask : BitVec 16) (kind : Nat) : Bool := kind ≤ 3 || kindOn mask kind

/-- Whether a status is a success for the holder's idle timer (R36). -/
def Status.success : Status → Bool
  | .done => true
  | .alreadyHolder => true
  | .aimed => true
  | .accepted => true
  | _ => false

end Sys2Proof.Machine
end

