-- ==== Sys2Proof/Machine/Ops.lean ====
section
/-! DEFINITION. The operations that the blocks share: notices and responses on the output lists (R160 to R163), the idle
timer (R36), the axes and the drives (R1 to R5), the STOWED lamp and the alarm output (R19, R100), the wind ceiling and the
envelope (R12 to R16, R91), stowability (R18), and the solution cache's removals (R131, R132, R134). -/

namespace Sys2Proof.Machine

/-! ### Notices -/

/-- Counts of notices stop at 255 (R35, R67, R68, R121, R134, R161). -/
def capCount (n : Nat) : Nat := min n Config.countLimit

/-- How a notice combines with a pending one of its kind: counts as the placing rule gives, every other field new
(R35, R67, R68, R121, R134, R161). A count gathers only notices that were placed (R67, R163; for SITE WRITTEN log 51). -/
def mergeBody (old new : NoticeBody) : NoticeBody :=
  match new, old with
  | .authority event reason halted discarded, .authority _ _ oldHalted oldDiscarded =>
    .authority event reason (if halted = 0 then oldHalted else halted) (capCount (discarded + oldDiscarded))
  | .segmentDone tag completed depth, .segmentDone _ oldCompleted _ =>
    .segmentDone tag (capCount (completed + oldCompleted)) depth
  | .segmentFailed tag axis purpose slot reason discarded failures, .segmentFailed _ _ _ _ _ oldDiscarded oldFailures =>
    .segmentFailed tag axis purpose slot reason (capCount (discarded + oldDiscarded)) (capCount (failures + oldFailures))
  | .siteWritten slot state operation writer redirection writes, .siteWritten _ _ _ _ _ oldWrites =>
    .siteWritten slot state operation writer redirection (capCount (writes + oldWrites))
  | .cacheFlushed cause slot requester removed remaining, .cacheFlushed _ _ _ oldRemoved _ =>
    .cacheFlushed cause slot requester (capCount (removed + oldRemoved)) remaining
  | _, _ => new

/-- A notice placed on an output list: it replaces a pending one of its kind, which keeps its place and counts one more
merge, or stands at the end (R161). -/
def placeItem (body : NoticeBody) : List OutItem → List OutItem
  | [] => [.notice body 0]
  | .response r :: rest => .response r :: placeItem body rest
  | .notice old merged :: rest =>
    if old.kind = body.kind then .notice (mergeBody old body) (capCount (merged + 1)) :: rest
    else .notice old merged :: placeItem body rest

/-- Changes one port's interface. -/
def updatePort (p : Port) (f : PortState → PortState) (s : State) : State :=
  s.setPorts (s.ports.set p (f (s.ports.get p)))

/-- Places a notice on a port whatever its mask. -/
def placeAlways (p : Port) (body : NoticeBody) (s : State) : State :=
  updatePort p (fun q => { q with output := placeItem body q.output }) s

/-- Places a notice on a port whose mask admits its kind (R162). -/
def placeOn (p : Port) (body : NoticeBody) (s : State) : State :=
  if admits (s.ports.get p).mask body.kind then placeAlways p body s else s

/-- Places a notice on every port whose mask admits its kind. -/
def placeAll (body : NoticeBody) (s : State) : State := placeOn .link body (placeOn .rack body (placeOn .cab body s))

/-- Places a notice on the origin port of an entry; an origin of SAFETY places none (R162). -/
def placeOrigin (origin : Party) (body : NoticeBody) (s : State) : State :=
  match origin with
  | .port p => placeOn p body s
  | .safety => s

/-- The full condition fields as they stand (R162). -/
def conditionBody (event : ConditionEvent) (s : State) : NoticeBody :=
  .condition event s.arb.reasons s.pose.latch s.safe.alarmPark s.safe.alarmWind s.settings.defaulted

/-- Places the condition notice (R9, R45, R100, R168). -/
def placeCondition (event : ConditionEvent) (s : State) : State := placeAll (conditionBody event s) s

/-- The AUTHORITY notice to a party: a port gets it whatever its mask, SAFETY has no port (R35). -/
def placeAuthority (h : Option Party) (event : AuthEvent) (reason : Option AuthReason) (halted discarded : Nat)
    (s : State) : State :=
  match h with
  | some (.port p) => placeAlways p (.authority event reason halted discarded) s
  | _ => s

/-! ### The idle timer and responses -/

/-- The idle timer starts or restarts from zero toward the timeout now held (R36). -/
def startIdle (s : State) : State := s.setArb { s.arb with idle := some s.settings.inForce.idleTimeout }

/-- A success answered to the holder's port restarts the idle timer in HELD, unless a handover is deferred (R36). -/
def restartIdle (p : Port) (status : Status) (s : State) : State :=
  if status.success = true ∧ s.arb.holder = some (.port p) ∧ s.arb.auth = .held ∧ s.arb.deferred = none then startIdle s
  else s

/-- Whether an item is a response. -/
def OutItem.isResponse : OutItem → Bool
  | .response _ => true
  | .notice _ _ => false

/-- Places the response to a request, of one or more frames, on the port that sent it (R160), and ends the wait for the
answer. A request is taken only while no response is listed, so the list then holds one (R159, R161). -/
def respondParts (p : Port) (r : Request) (status : Status) (parts : List (List Byte)) (s : State) : State :=
  restartIdle p status
    (updatePort p
      (fun q =>
        { q with
          inHand := .nothing
          output := q.output ++ [.response { code := requestCode r + 0x80, status := status, parts := parts }] })
      s)

/-- A response of one frame. -/
def respond (p : Port) (r : Request) (status : Status) (fields : List Byte) (s : State) : State :=
  respondParts p r status [fields] s

/-- Whether the port may take its next frame: no request awaits its answer, and no response is on the output list or being
transmitted (R159). -/
def PortState.mayTake (q : PortState) : Bool :=
  q.inHand == .nothing && q.output.all (fun i => !i.isResponse) && q.tx.all (fun t => !t.response)

/-- A request command of a port, when its block may take it: the controller runs, and the request was passed by TAKE_FRAME, or
it comes directly while the port may take a frame and none waits before it (R159, log 5). Otherwise nothing happens. -/
def onRequest (p : Port) (r : Request) (f : State → State) (s : State) : State :=
  if s.powered = true ∧ ((s.ports.get p).inHand = .passed r
      ∨ ((s.ports.get p).mayTake = true ∧ (s.ports.get p).receive = [])) then f s
  else s

/-- An event, when the controller runs; without power nothing happens (log 6). -/
def whenPowered (f : State → State) (s : State) : State := if s.powered = true then f s else s

/-! ### Axes (R1, R5) -/

/-- The arrival tolerance (R1). -/
def tolerance : Axis → Nat
  | .mast => 10
  | _ => 5

/-- The least position (R1). -/
def leastOf : Axis → Int
  | .mast => 0
  | .pan => -27000
  | .tilt => -1000
  | .pol => -9000

/-- The greatest position (R1). -/
def greatestOf : Axis → Int
  | .mast => 15000
  | .pan => 27000
  | .tilt => 9000
  | .pol => 9000

/-- The park value (R1). -/
def parkValue : Axis → Int
  | .mast => 0
  | .pan => 0
  | .tilt => -1000
  | .pol => 0

/-- Whether a value lies in the range of an axis (R1). -/
def inRange (a : Axis) (v : Int) : Bool := leastOf a ≤ v && v ≤ greatestOf a

/-- Within the arrival tolerance of a value (R5). -/
def within (a : Axis) (position target : Int) : Bool := (position - target).natAbs ≤ tolerance a

/-- Parked (R5). -/
def parked (a : Axis) (position : Int) : Bool := within a position (parkValue a)

/-- The mast is stowed at 20 mm or less (R5). -/
def mastStowed (position : Axes Int) : Bool := position.mast ≤ 20

/-- The STOWED lamp's condition, from the positions alone (R19). -/
def lampOf (position : Axes Int) : Bool := mastStowed position && parked .pan position.pan && parked .tilt position.tilt

/-- The nearest end of a range for a value outside it (R4, R8). -/
def clamp (least greatest v : Int) : Int := if v < least then least else if greatest < v then greatest else v

/-- The mast height of a count: the nearest multiple of 10, a count ending in 5 upward, limited to the range (R4). -/
def mastHeight (count : Int) : Int := clamp 0 15000 ((count + 5) / 10 * 10)

/-- The positions of a reading (R4). -/
def positionsOf (counts : Axes Int) : Axes Int :=
  { mast := mastHeight counts.mast
    pan := clamp (leastOf .pan) (greatestOf .pan) counts.pan
    tilt := clamp (leastOf .tilt) (greatestOf .tilt) counts.tilt
    pol := clamp (leastOf .pol) (greatestOf .pol) counts.pol }

/-- A sample limited to its range (R8). -/
def limitLevel (l : Level) : Level := { pitch := clamp (-3000) 3000 l.pitch, roll := clamp (-3000) 3000 l.roll }

/-- Clearance height (R14, R15, R18). -/
def clearance : Int := 1200

/-! ### The alarm output (R100) -/

/-- Sets the alarm causes; a change of the output places a condition notice (R100). -/
def setAlarmCauses (park wind : Bool) (s : State) : State :=
  let s1 := s.setSafe { s.safe with alarmPark := park, alarmWind := wind, alarm := park || wind }
  if s.safe.alarm = (park || wind) then s1 else placeCondition .alarm s1

/-- The PARK cause, set only while the STOWED lamp is negated (R96, R100). -/
def raiseParkAlarm (s : State) : State :=
  if s.pose.lamp then s else setAlarmCauses true s.safe.alarmWind s

def clearParkAlarm (s : State) : State := setAlarmCauses false s.safe.alarmWind s

/-- The WIND cause (R93, R94, R100). -/
def raiseWindAlarm (s : State) : State := setAlarmCauses s.safe.alarmPark true s

def clearWindAlarm (s : State) : State := setAlarmCauses s.safe.alarmPark false s

/-! ### Readings (R4, R19) -/

/-- A reading replaces the counts, the positions and the at-rest flags, and the STOWED lamp follows (R4, R19). -/
def recordReading (r : Reading) (s : State) : State :=
  s.setPose
    { s.pose with
      counts := r.counts, position := positionsOf r.counts, atRest := r.atRest, lamp := lampOf (positionsOf r.counts) }

/-- The alarm causes that a reading clears: PARK while the lamp is asserted, WIND with the mast at 3,000 mm or less (R100). -/
def alarmAfterReading (s : State) : State :=
  setAlarmCauses (s.safe.alarmPark && !s.pose.lamp) (s.safe.alarmWind && !(decide (s.pose.position.mast ≤ 3000))) s

/-- A reading with its effect on the alarm. -/
def takeReading (r : Reading) (s : State) : State := alarmAfterReading (recordReading r s)

/-- Sets an axis's FAULTED flag (R6, R62). -/
def setFaulted (a : Axis) (faulted : Bool) (s : State) : State :=
  s.setPose { s.pose with faulted := s.pose.faulted.set a faulted }

/-! ### Drives (R3, R101) -/

/-- The stopped condition of one drive; the direction line is left as it stands (R3, log 42). -/
def Drive.stop (d : Drive) : Drive := { d with enable := false, rate := .stop, brake := true }

/-- Changes one drive interface. -/
def setDrive (a : Axis) (d : Drive) (s : State) : State :=
  s.setExe { s.exe with drives := s.exe.drives.set a d }

/-- Puts an axis into the stopped condition (R3). -/
def stopDrive (a : Axis) (s : State) : State := setDrive a (s.exe.drives.get a).stop s

/-- Puts the axes named into the stopped condition. -/
def stopAxes (axes : Axes Bool) (s : State) : State :=
  let d := s.exe.drives
  s.setExe
    { s.exe with
      drives :=
        { mast := if axes.mast then d.mast.stop else d.mast
          pan := if axes.pan then d.pan.stop else d.pan
          tilt := if axes.tilt then d.tilt.stop else d.tilt
          pol := if axes.pol then d.pol.stop else d.pol } }

/-- Sets the direction line from the sign of the target less the position (R3, step 1); a difference of zero has no sign and
leaves the line as it stands (log 42). -/
def setDirection (a : Axis) (target : Int) (s : State) : State :=
  let d := s.exe.drives.get a
  let position := s.pose.position.get a
  setDrive a
    { d with increasing := if position < target then true else if target < position then false else d.increasing } s

/-- Drives an axis that lies outside tolerance: direction from the sign of the target less the position, the rate, brake released, enable
asserted (R3); the Safety Monitor holds every enable negated while ESTOP is asserted (R101). -/
def startDrive (a : Axis) (target : Int) (rate : Rate) (s : State) : State :=
  setDrive a
    { enable := !s.safe.estop, increasing := decide (s.pose.position.get a < target), rate := .run rate, brake := false } s

/-- The settling condition: STOP presented, brake released, enable asserted (R56). -/
def settleDrive (a : Axis) (s : State) : State :=
  setDrive a { (s.exe.drives.get a) with enable := !s.safe.estop, rate := .stop, brake := false } s

/-! ### Wind ceiling, envelope, stowability -/

/-- The wind ceiling of a class (R91). -/
def ceilingOf (c : WindClass) (configured : Int) : Int :=
  match c with
  | .normal => 15000
  | .caution => configured
  | .limit => 3000

/-- The wind ceiling now (R91). -/
def windCeiling (s : State) : Int := ceilingOf s.safe.windClass s.settings.inForce.ceiling

/-- The class of a MAST move (R13). -/
def mastClassOf (height target : Int) : MastClass :=
  if height < target then .raising else if target < height then .lowering else .holding

/-- The envelope check of an angle move of pan, tilt or a scan (R14). -/
def clearanceVerdict (s : State) : Option EndReason :=
  if s.pose.position.mast < clearance then some .envelope else none

/-- The envelope check of a MAST move (R13, R15, R16): none is PASS. -/
def mastVerdict (s : State) (target : Int) : Option EndReason :=
  match mastClassOf s.pose.position.mast target with
  | .raising =>
    if windCeiling s < target then some .wind
    else if s.pose.latch = true then some .obstructed
    else if 500 < s.pose.level.pitch.natAbs ∨ 500 < s.pose.level.roll.natAbs then some .outOfLevel
    else none
  | .lowering =>
    if target < clearance ∧ ¬(parked .pan s.pose.position.pan = true ∧ parked .tilt s.pose.position.tilt = true) then
      some .envelope
    else none
  | .holding => none

/-- The axis of a motion; absent for SCAN (3.1). -/
def Motion.axis : Motion → Option Axis
  | .moveTo a _ => some a
  | .moveBy a _ => some a
  | .scan _ => none

/-- The envelope check (R12): none is PASS. -/
def envelope (s : State) (axis : Option Axis) (target : Int) : Option EndReason :=
  match axis with
  | some .mast => mastVerdict s target
  | some .pol => none
  | some .pan => clearanceVerdict s
  | some .tilt => clearanceVerdict s
  | none => clearanceVerdict s

/-- The axes that a stow needs, in the stow order (R18). -/
def stowAxes (position : Axes Int) : List Axis :=
  [Axis.pol, .tilt, .pan, .mast].filter (fun a => !parked a (position.get a))

/-- The first condition of stowability: above clearance, or pan and tilt parked (R18). -/
def clearToStow (position : Axes Int) : Bool :=
  decide (clearance ≤ position.mast) || (parked .pan position.pan && parked .tilt position.tilt)

/-- The first axis needed that is FAULTED, in stow order (R18, R142). -/
def stowFault (position : Axes Int) (faulted : Axes Bool) : Option Axis :=
  (stowAxes position).find? (fun a => faulted.get a)

/-- Stowable (R18). -/
def stowable (position : Axes Int) (faulted : Axes Bool) : Bool :=
  clearToStow position && (stowFault position faulted).isNone

/-! ### The solution cache's removals -/

/-- Places a CACHE FLUSHED notice (R134). -/
def placeFlushed (cause : FlushCause) (slot : Option Nat) (requester : Option Port) (removed : Nat) (s : State) : State :=
  placeAll (.cacheFlushed cause slot requester removed s.cache.entries.length) s

/-- A flush: every entry removed, the level reference absent, CACHE FLUSHED placed (R131). -/
def flushCache (cause : FlushCause) (requester : Option Port) (s : State) : State :=
  placeFlushed cause none requester s.cache.entries.length (s.setCache Cache.start)

/-- The entry of a slot (R129). -/
def cacheEntry (c : Cache) (slot : Nat) : Option CacheEntry := c.entries.find? (fun e => e.slot == slot)

/-- The cache without the entry of a slot; the reference becomes absent with the last entry (R125, R126). -/
def Cache.without (c : Cache) (slot : Nat) : Cache :=
  let rest := c.entries.filter (fun e => e.slot != slot)
  { entries := rest, reference := if rest = [] then none else c.reference }

/-- A single removal, which places CACHE FLUSHED if it removes an entry (R132). -/
def removeEntry (slot : Nat) (cause : FlushCause) (requester : Option Port) (s : State) : State :=
  match cacheEntry s.cache slot with
  | some _ => placeFlushed cause (some slot) requester 1 (s.setCache (s.cache.without slot))
  | none => s

/-- The comparison of the most recent sample with the level reference, under the tolerance now held (R130). -/
def compareLevel (s : State) : State :=
  match s.cache.reference with
  | none => s
  | some ref =>
    if s.settings.inForce.tolerance < (s.pose.level.pitch - ref.pitch).natAbs
        ∨ s.settings.inForce.tolerance < (s.pose.level.roll - ref.roll).natAbs then
      flushCache .level none s
    else s

/-! ### The site table store's answers (R105, R120) -/

/-- The table state as the byte that TABLE BUSY and STATUS carry (R105, R164). -/
def Engine.tableByte : Engine → Byte
  | .idle => 0x00
  | .commit _ _ => 0x01
  | .retire _ _ => 0x01
  | .erase _ _ => 0x02

def Engine.erasing : Engine → Bool
  | .erase _ _ => true
  | _ => false

def Engine.writing : Engine → Bool
  | .commit _ _ => true
  | .retire _ _ => true
  | _ => false

/-- The slot of a number (R104). -/
def Store.slotAt (t : Store) (n : Nat) : Slot := t.slots.getD n Slot.free

/-- The record that the Store gives other blocks: that of a COMMITTED slot (R120). -/
def Store.committedSite (t : Store) (n : Nat) : Option SiteFields :=
  if t.engine.erasing = false ∧ (t.slotAt n).state = .committed then (t.slotAt n).contents.map Contents.site else none

/-! ### Queries of the queue -/

/-- The active entry: the oldest, while one is active (R46). -/
def activeEntry (s : State) : Option Entry := if s.exe.active.isSome then s.exe.queue.head? else none

/-- The holder as a port. -/
def holderPort (s : State) : Option Port :=
  match s.arb.holder with
  | some (.port p) => some p
  | _ => none

end Sys2Proof.Machine
end

