-- ==== Sys2Proof/Machine/Executor.lean ====
section
/-! DEFINITION. What the Motion Executor does to the queue and to the active entry: submissions and tags (R46 to R53),
endings (R57, R61, R62, R65, R66), discards (R64), suspension (R71), and the phases of a driven axis (R55, R56). -/

namespace Sys2Proof.Machine

/-! ### Submissions and tags -/

/-- The tag after a tag: from 255 the counter advances to 1 (R48). -/
def tagAfter (t : Nat) : Nat := if 255 ≤ t then 1 else t + 1

/-- An entry before it is accepted: motion, rate, purpose, slot, and whether it belongs to the submission's locked group. -/
structure Draft where
  motion : Motion
  rate : Rate
  purpose : Purpose
  slot : Option Nat
  locked : Bool
deriving DecidableEq, Repr

/-- Drafts as entries with consecutive tags; the group of a locked run is the tag of its first entry (R48, R52). The counter
may come round to the tag of an entry still queued (log 46). -/
def entriesOf (group : Nat) (origin : Party) : Nat → List Draft → List Entry
  | _, [] => []
  | t, d :: ds =>
    { tag := t, group := if d.locked then some group else none, motion := d.motion, rate := d.rate, origin := origin,
      purpose := d.purpose, slot := d.slot, target := none } :: entriesOf group origin (tagAfter t) ds

/-- The tag counter after n entries (R48). -/
def tagsAfter (t : Nat) : Nat → Nat
  | 0 => t
  | n + 1 => tagsAfter (tagAfter t) n

/-- A submission fits in the room left (R51). -/
def fits (n : Nat) (s : State) : Bool := s.exe.queue.length + n ≤ Config.queueCapacity

/-- The free room (R51). -/
def freeRoom (s : State) : Nat := Config.queueCapacity - s.exe.queue.length

/-- An accepted submission, appended after every entry present (R46, R51). -/
def append (origin : Party) (ds : List Draft) (s : State) : State :=
  s.setExe
    { s.exe with
      queue := s.exe.queue ++ entriesOf s.exe.nextTag origin s.exe.nextTag ds
      nextTag := tagsAfter s.exe.nextTag ds.length }

/-! ### The active entry -/

/-- The axes that an entry drives (R31). -/
def Motion.axes : Motion → Axes Bool
  | .moveTo a _ => onlyAxis a
  | .moveBy a _ => onlyAxis a
  | .scan _ => panAndTilt

/-- Changes what the executor holds of the active entry. -/
def updateActive (f : Active → Active) (s : State) : State :=
  s.setExe { s.exe with active := s.exe.active.map f }

/-- Sets the phase of an axis (R56). -/
def setPhase (a : Axis) (ph : AxisPhase) (s : State) : State :=
  updateActive (fun x => { x with phases := x.phases.set a ph }) s

/-- Within tolerance of the target and at rest (R5). -/
def arrived (a : Axis) (target : Int) (s : State) : Bool :=
  within a (s.pose.position.get a) target && s.pose.atRest.get a

/-- Drives an axis in the driving phase, with a stall window that starts afresh (R56, R58). -/
def driveAxis (a : Axis) (target : Int) (rate : Rate) (s : State) : State :=
  setPhase a (.driving (s.pose.counts.get a)) (startDrive a target rate s)

/-- Puts an axis into the settling phase (R56). -/
def settleAxis (a : Axis) (s : State) : State := setPhase a .settling (settleDrive a s)

/-- The phase of an axis after a reading: into settling within tolerance, back to driving outside it (R56). -/
def followAxis (a : Axis) (target : Int) (rate : Rate) (s : State) : State :=
  match s.exe.active with
  | none => s
  | some x =>
    match x.phases.get a with
    | .idle => s
    | .driving _ => if within a (s.pose.position.get a) target then settleAxis a s else s
    | .settling => if within a (s.pose.position.get a) target then s else driveAxis a target rate s

/-! ### Endings -/

/-- The tag of the active entry, or 0 (R46). -/
def activeTag (s : State) : Nat :=
  match activeEntry s with
  | some e => e.tag
  | none => 0

/-- The number of waiting entries. -/
def waitingCount (s : State) : Nat :=
  if s.exe.active.isSome then s.exe.queue.length - 1 else s.exe.queue.length

/-- Completes the last scan result and places SCAN END on the origin port; nothing if no scan has begun (R154, R155). -/
def finishScan (why : EndReason) (learned : Bool) (s : State) : State :=
  match s.scan.scan, s.scan.result, activeEntry s with
  | some _, some r, some e =>
    placeOrigin e.origin (.scanEnd { r with endReason := some why, learned := learned })
      (s.setScan { s.scan with scan := none, result := some { r with endReason := some why, learned := learned } })
  | _, _, _ => s

/-- The active entry leaves the queue with its axes in the stopped condition and its suspension timer stopped. -/
def dropActive (e : Entry) (s : State) : State :=
  let s1 := stopAxes e.motion.axes s
  s1.setExe { s1.exe with queue := s1.exe.queue.tail, active := none, suspension := none }

/-- Whether the entry that stands behind `e` in its turn belongs to its locked group: it carries the same group, and is not
the first of a run, which carries its own tag as its group (R52, log 46). -/
def Entry.continues (e x : Entry) : Bool := e.group.isSome && x.group == e.group && x.group != some x.tag

/-- The waiting members of an entry's locked group: the rest of its run, which stands right behind it (R52). -/
def membersBehind (e : Entry) (waiting : List Entry) : List Entry := waiting.takeWhile e.continues

/-- Whether an ending is a boundary: the queue then holds no member of the ended entry's locked group (R31). -/
def isBoundary (e : Entry) (left : List Entry) : Bool := (membersBehind e left).isEmpty

/-- A completion: the entry leaves the queue and the holder is told; its ending report is due at once (R57, R67). -/
def completeActive (s : State) : State :=
  match activeEntry s with
  | none => s
  | some e =>
    let s1 := dropActive e s
    placeOrigin e.origin (.segmentDone e.tag 1 s1.exe.queue.length)
      (s1.setExe
        { s1.exe with
          closing :=
            some
              { axes := Axes.all false
                ending := { boundary := isBoundary e s1.exe.queue, completed := true, halted := 0, discarded := 0 } } })

/-- The failure of an entry of SAFETY is handed to the Safety Monitor at once: the running group becomes none, and a wind
lowering that failed sets the WIND cause (R61, R94, R98). The reason that a park stow adds waits for the boundary (R41). -/
def tellSafety (origin : Party) (s : State) : State :=
  match origin, s.safe.group with
  | .safety, some .windLowering => raiseWindAlarm (s.setSafe { s.safe with group := none })
  | .safety, some .parkStow => s.setSafe { s.safe with group := none }
  | _, _ => s

/-- The safety group that a failure of an entry ends. -/
def failedGroup (origin : Party) (s : State) : Option SafetyGroup :=
  match origin with
  | .safety => s.safe.group
  | .port _ => none

/-- A failure: the scan, if begun, ends with the reason, the entry leaves the queue, every waiting entry is discarded, the
failure goes to its origin, and the ending report waits for the axes driven. The number discarded goes into SEGMENT FAILED alone,
so that the ending carries none (R61, R62, R68). -/
def failActive (why : EndReason) (driven : Bool) (s : State) : State :=
  match activeEntry s with
  | none => s
  | some e =>
    let n := s.exe.queue.length - 1
    let s1 := dropActive e (finishScan why false s)
    let s2 := tellSafety e.origin (placeOrigin e.origin (.segmentFailed e.tag e.motion.axis e.purpose e.slot why n 1) s1)
    s2.setExe
      { s2.exe with
        queue := []
        closing :=
          some
            { axes := if driven then e.motion.axes else Axes.all false
              ending :=
                { boundary := true, completed := false, halted := 0, discarded := 0, failed := failedGroup e.origin s } } }

/-- The queue emptied and the active entry, if any, halted: its scan ends with the reason and its axes are stopped
(R65, R66). -/
def haltAll (why : EndReason) (s : State) : State :=
  let s1 := finishScan why false s
  let s2 :=
    match activeEntry s with
    | some e => stopAxes e.motion.axes s1
    | none => s1
  s2.setExe { s2.exe with queue := [], active := none, suspension := none }

/-- The halt of the holder: an ending report is due when the axes of the entry halted are at rest; without an active entry
nothing ends (R65, log 21). -/
def haltByHolder (s : State) : State :=
  match activeEntry s with
  | none => haltAll .halted s
  | some e =>
    let n := waitingCount s
    let s1 := haltAll .halted s
    s1.setExe
      { s1.exe with
        closing :=
          some { axes := e.motion.axes, ending := { boundary := true, completed := false, halted := e.tag, discarded := n } } }

/-- The halt of another block: no ending report reaches the arbiter later (R62, R66). That the 2 s rest watch of the axes ends
with the report, so that an axis that never comes to rest is not set FAULTED, is the model's choice (log 55). -/
def haltByOrder (why : EndReason) (s : State) : State :=
  let s1 := haltAll why s
  s1.setExe { s1.exe with closing := none }

/-! ### Discards (R64) -/

/-- What a discard leaves: the active entry and the waiting members of its locked group (R64). -/
def keptByDiscard (s : State) : List Entry :=
  match activeEntry s with
  | none => []
  | some e => e :: membersBehind e s.exe.queue.tail

/-- The number of entries that a discard removes (R64). -/
def discardCount (s : State) : Nat := s.exe.queue.length - (keptByDiscard s).length

/-- The discard ordered by the arbiter; an active SCAN entry is told that a handover, or the crank, is due (R64, R81). -/
def discardWaiting (crank : Bool) (s : State) : State :=
  s.setExe
    { s.exe with
      queue := keptByDiscard s
      active :=
        s.exe.active.map
          (fun x => if crank then { x with crankDue := true } else { x with yieldDue := true }) }

/-! ### Suspension (R71, R73, R78) -/

/-- The active entry becomes SUSPENDED: its axes are stopped, the suspension timer starts and SUPPLY is placed
(R71, R73, R78). -/
def suspendActive (s : State) : State :=
  match activeEntry s with
  | none => s
  | some e =>
    let s1 := stopAxes e.motion.axes s
    let limit := s1.settings.inForce.suspension
    placeAll (.supplySuspended e.tag e.origin e.purpose limit)
      (s1.setExe
        { s1.exe with
          suspension := some limit
          active := s1.exe.active.map (fun x => { x with execution := .suspended, phases := Axes.all .idle }) })

/-- Whether the active entry is RUNNING. -/
def isRunning (s : State) : Bool := s.exe.active.any (fun x => x.execution == .running)

/-- Whether the active entry is SUSPENDED. -/
def isSuspended (s : State) : Bool := s.exe.active.any (fun x => x.execution == .suspended)

end Sys2Proof.Machine
end

