-- ==== Sys2Proof/Machine/ScanOps.lean ====
section
/-! DEFINITION. The Scan Engine: patterns (R146), steps and moves (R147, R152), level sources (R148, R149), samples and step
boundaries (R150, R151), and learning (R127, R128). -/

namespace Sys2Proof.Machine

/-! ### Patterns (R146) -/

/-- A place on the square spiral: counts, direction (0 +pan, 1 +tilt, 2 -pan, 3 -tilt), unit moves left in the run, the run's
length, and whether it is the second run of that length. -/
structure SpiralPlace where
  pan : Int
  tilt : Int
  direction : Nat
  left : Nat
  length : Nat
  second : Bool
deriving DecidableEq, Repr

def spiralStart : SpiralPlace := { pan := 0, tilt := 0, direction := 0, left := 1, length := 1, second := false }

/-- One unit move of the spiral. -/
def spiralNext (q : SpiralPlace) : SpiralPlace :=
  let pan := if q.direction = 0 then q.pan + 1 else if q.direction = 2 then q.pan - 1 else q.pan
  let tilt := if q.direction = 1 then q.tilt + 1 else if q.direction = 3 then q.tilt - 1 else q.tilt
  if 1 < q.left then { q with pan := pan, tilt := tilt, left := q.left - 1 }
  else
    let length := if q.second then q.length + 1 else q.length
    { pan := pan, tilt := tilt, direction := (q.direction + 1) % 4, left := length, length := length, second := !q.second }

/-- The place after i unit moves. -/
def spiralAt : Nat → SpiralPlace
  | 0 => spiralStart
  | n + 1 => spiralNext (spiralAt n)

/-- The offset of step i of a raster of row length L (R146). -/
def rasterOffset (rowLength i : Nat) : PanTilt :=
  let k := i - 1
  let r := k / rowLength
  let c := if r % 2 = 1 then rowLength - 1 - k % rowLength else k % rowLength
  { pan := (c : Int) - (rowLength / 2 : Nat), tilt := (r : Int) - (rowLength / 2 : Nat) }

/-- The offset of step i (R146). -/
def scanOffset (q : ScanParams) (i : Nat) : PanTilt :=
  match q.pattern with
  | .spiral => { pan := (spiralAt i).pan, tilt := (spiralAt i).tilt }
  | .raster => rasterOffset q.rowLength i

/-- The target of step i: the start pose plus the offset times the step size (R146). -/
def scanTarget (start : PanTilt) (q : ScanParams) (i : Nat) : PanTilt :=
  { pan := start.pan + (scanOffset q i).pan * q.stepSize, tilt := start.tilt + (scanOffset q i).tilt * q.stepSize }

/-! ### Learning (R127, R128) -/

/-- An angle taken into 0 to 35,999 (0.6). -/
def turn (angle : Int) : Int := angle % 36000

/-- The solution that a COMPLETE scan offers, if R127 allows one. -/
def solutionOf (slot : Option Nat) (best : Option Int) (pose : Option PanTilt) (s : State) : Option CacheEntry :=
  match slot, best, pose, s.heading with
  | some n, some level, some q, some heading =>
    if s.settings.inForce.learnThreshold ≤ level then
      some
        { slot := n, bearing := turn (q.pan + heading), elevation := q.tilt, polarisation := s.pose.position.pol,
          height := s.pose.position.mast, peak := level }
    else none
  | _, _, _, _ => none

/-- Whether the cache may keep a solution for a slot: PARK asserted, and the slot COMMITTED with learning allowed (R128). -/
def mayLearn (slot : Nat) (s : State) : Bool :=
  s.safe.park && (s.store.committedSite slot).any (fun f => f.learn == 0x01)

/-- The cache with a solution learned: it stands first, the entry it replaces or the least recent of 12 leaves, and the level
reference is set if the cache was empty (R126, R128). -/
def Cache.learn (c : Cache) (e : CacheEntry) (sample : Level) : Cache :=
  let others := c.entries.filter (fun x => x.slot != e.slot)
  { entries := e :: others.take (Config.cacheCapacity - 1)
    reference := if c.entries = [] then some sample else c.reference }

/-- Learning at a COMPLETE end: the cache's answer, learned or not (R128, R152). -/
def learnedOf (slot : Option Nat) (best : Option Int) (pose : Option PanTilt) (s : State) : Option CacheEntry :=
  (solutionOf slot best pose s).filter (fun e => mayLearn e.slot s)

/-! ### Moves and phases -/

/-- Changes the running scan. -/
def updateScan (f : Scan → Scan) (s : State) : State := s.setScan { s.scan with scan := s.scan.scan.map f }

/-- A dwell begins: no report has arrived since (R149). -/
def beginDwell (s : State) : State :=
  s.setScan
    { s.scan with
      scan := s.scan.scan.map (fun x => { x with phase := .dwell })
      report := s.scan.report.map (fun r => { r with sinceDwell := false }) }

/-- The scan ends COMPLETE: learning is judged, the result is completed, and the entry completes (R152, R155). -/
def completeScan (s : State) : State :=
  match s.scan.result with
  | none => s
  | some r =>
    match learnedOf r.slot r.bestLevel r.bestPose s with
    | some e => completeActive (finishScan .complete true (s.setCache (s.cache.learn e s.pose.level)))
    | none => completeActive (finishScan .complete false s)

/-- A scan move has arrived: its axes are stopped; a step begins its dwell, the final move ends the scan (R147, R152). -/
def arriveScan (s : State) : State :=
  match s.scan.scan with
  | none => s
  | some x =>
    let s1 := updateActive (fun y => { y with phases := Axes.all .idle }) (stopAxes panAndTilt s)
    match x.phase with
    | .stepMove => beginDwell s1
    | .finalMove => completeScan s1
    | .dwell => s
    | .levelWait => s

/-- One axis of a scan move: not driven if already within tolerance of its part of the target, else driven at SLOW (R147). -/
def driveScanAxis (a : Axis) (target : Int) (s : State) : State :=
  if within a (s.pose.position.get a) target then setPhase a .idle (stopDrive a s) else driveAxis a target .slow s

/-- Pan and tilt have both arrived at their parts of the target (R147). -/
def scanArrived (target : PanTilt) (s : State) : Bool := arrived .pan target.pan s && arrived .tilt target.tilt s

/-- Drives pan and tilt toward the target of the running scan's move (R147, R152). -/
def driveScan (target : PanTilt) (s : State) : State :=
  let s1 := driveScanAxis .tilt target.tilt (driveScanAxis .pan target.pan s)
  if scanArrived target s1 then arriveScan s1 else s1

/-- A step move or the final move: the envelope check, then the drive (R147, R152). -/
def scanMove (phase : ScanPhase) (target : PanTilt) (s : State) : State :=
  match clearanceVerdict s with
  | some why => failActive why true s
  | none => driveScan target (updateScan (fun x => { x with phase := phase, target := target }) s)

/-- The next step: its target, its range test, its move (R147). -/
def scanStep (q : ScanParams) (s : State) : State :=
  match s.scan.scan with
  | none => s
  | some x =>
    let target := scanTarget x.start q (x.index + 1)
    let s1 := updateScan (fun y => { y with index := y.index + 1, phase := .stepMove, target := target }) s
    if inRange .pan target.pan = false ∨ inRange .tilt target.tilt = false then failActive .limit true s1
    else scanMove .stepMove target s1

/-- A step boundary: the due marks, the next step, or the final move (R151). -/
def scanBoundary (q : ScanParams) (s : State) : State :=
  match s.exe.active, s.scan.result with
  | some a, some r =>
    if a.crankDue then completeActive (finishScan .endedManual false s)
    else if a.yieldDue then completeActive (finishScan .yielded false s)
    else if r.done < r.requested then scanStep q s
    else
      match r.bestPose with
      | some best => scanMove .finalMove best s
      | none => s
  | _, _ => s

/-- The result after a sample: sample 0 sets the best; a later one counts its step and replaces a lesser best (R145, R150). -/
def ScanResult.sampled (r : ScanResult) (index : Nat) (target : PanTilt) (level : Int) : ScanResult :=
  if index = 0 then { r with bestLevel := some level, bestPose := some target }
  else
    match r.bestLevel with
    | some best =>
      if best < level then { r with done := index, bestLevel := some level, bestPose := some target }
      else { r with done := index }
    | none => { r with done := index, bestLevel := some level, bestPose := some target }

/-- Places SCAN PROGRESS when the steps done are a multiple of the report block (R150). -/
def reportProgress (origin : Party) (q : ScanParams) (s : State) : State :=
  match s.scan.result with
  | some r =>
    match r.bestLevel, r.bestPose with
    | some best, some pose =>
      if 0 < q.block ∧ 0 < r.done ∧ r.done % q.block = 0 then
        placeOrigin origin (.scanProgress r.tag r.done r.requested best pose) s
      else s
    | _, _ => s
  | none => s

/-- A sample is taken, and the step boundary follows (R150, R151). -/
def takeSample (level : Int) (s : State) : State :=
  match activeEntry s, s.scan.scan with
  | some e, some x =>
    match e.motion with
    | .scan q =>
      let s1 := s.setScan { s.scan with result := s.scan.result.map (fun r => r.sampled x.index x.target level) }
      scanBoundary q (reportProgress e.origin q s1)
    | _ => s
  | _, _ => s

/-- The scan begins (R145). The due marks stand as they were passed on to the entry. -/
def beginScan (e : Entry) (q : ScanParams) (s : State) : State :=
  let start : PanTilt := { pan := s.pose.position.pan, tilt := s.pose.position.tilt }
  beginDwell
    (s.setScan
      { s.scan with
        scan := some { start := start, index := 0, phase := .dwell, target := start }
        result :=
          some
            { tag := e.tag, slot := e.slot, requested := q.steps, done := 0, bestLevel := none, bestPose := none,
              endReason := none, learned := false } })

/-- A restarted scan repeats the part that the suspension interrupted (R77). -/
def resumeScan (s : State) : State :=
  match s.scan.scan with
  | none => s
  | some x =>
    match x.phase with
    | .stepMove => driveScan x.target s
    | .finalMove => driveScan x.target s
    | .dwell => beginDwell s
    | .levelWait => beginDwell s

/-! ### Level sources -/

/-- The level of an averaged analog input in millivolts: -1,000 plus 100 times the voltage in tenths of a dB, to the nearest
whole number, limited to the ends of the input's range (R148). Half-way the rounding is a free value (log 17). -/
def analogLevel (millivolts : Int) : Int :=
  if millivolts < 0 then -1000
  else if 10000 < millivolts then 0
  else
    let q := millivolts / 10
    let r := millivolts % 10
    (if r < 5 then q else if 5 < r then q + 1 else if Config.analogHalfUp millivolts then q + 1 else q) - 1000

end Sys2Proof.Machine
end

