-- ==== Sys2Proof/Machine/ArbiterOps.lean ====
section
/-! DEFINITION. What the Authority Arbiter does at the orders and reports of the other blocks: ranks and the claim list (R22,
R23), handovers and their deferral (R29, R33, R34, R37, R41), lockout reasons (R42, R45), the grant of the crank (R80 to R82),
and ending reports (R31 to R33, R41). -/

namespace Sys2Proof.Machine

/-! ### Ranks and the claim list -/

/-- The ranks of the ports (R22). -/
def portRank : Port → Nat
  | .rack => 3
  | .cab => 2
  | .link => 1

/-- A port outranks a party; none outranks SAFETY (R22). -/
def outranks (p : Port) : Party → Bool
  | .port q => portRank q < portRank p
  | .safety => false

/-- The claim list with a claim joined at its rank position, without duplicates (R23). -/
def joinClaims (p : Port) (claims : List Port) : List Port :=
  [Port.rack, .cab, .link].filter (fun q => q == p || claims.contains q)

/-- The claim list without a port's claim (R23, R28). -/
def withoutClaim (p : Port) (claims : List Port) : List Port := claims.filter (fun q => q != p)

/-- The at-rest confirmation: each axis is at rest or FAULTED (R34). -/
def confirm (s : State) : Bool := s.pose.restedOrFaulted (Axes.all true)

/-! ### Changes of holder -/

/-- The holder becomes absent and the state FREE. -/
def toFree (s : State) : State :=
  s.setArb { s.arb with auth := .free, holder := none, releaseMark := false, idle := none, deferred := none }

/-- A port becomes the holder in HELD, its claim leaves the list, and the idle timer starts. -/
def toHeld (p : Port) (s : State) : State :=
  startIdle
    (s.setArb
      { s.arb with
        auth := .held, holder := some (.port p), claims := withoutClaim p s.arb.claims, releaseMark := false,
        deferred := none })

/-- Authority passes to a claim, with AUTHORITY GRANTED (R29, R33, R37, R41, R85). -/
def giveTo (p : Port) (reason : AuthReason) (s : State) : State :=
  placeAuthority (some (.port p)) .granted (some reason) 0 0 (toHeld p s)

/-- Authority passes to the highest claim, or to nobody (R29, R37, R41). -/
def passOn (reason : AuthReason) (s : State) : State :=
  match s.arb.claims with
  | p :: _ => giveTo p reason s
  | [] => toFree s

/-- A deferral that ends without a handover: the idle timer starts (R34). -/
def endDeferral (s : State) : State := startIdle (s.setArb { s.arb with deferred := none })

/-- The holder keeps authority at a boundary: HELD, and AUTHORITY RETAINED (R33). -/
def retain (s : State) : State :=
  placeAuthority s.arb.holder .retained none 0 0
    (startIdle (s.setArb { s.arb with auth := .held, releaseMark := false, deferred := none }))

/-! ### Lockout (R42, R45) -/

/-- CLAIM REFUSED to each port of a list of claims, whatever its mask (R45). -/
def refuseClaims : List Port → State → State
  | [], s => s
  | p :: ps, s => refuseClaims ps (placeAlways p .claimRefused s)

/-- LOCKOUT is entered: every claim is refused, and every ending report outstanding is taken with it (R41, R42, R62, R85). -/
def enterLockout (s : State) : State :=
  let s1 := refuseClaims s.arb.claims s
  (s1.setArb
    { s1.arb with
      auth := .lockout, holder := none, claims := [], releaseMark := false, idle := none, grant := false, deferred := none,
      crankEnd := none }).setExe { s1.exe with closing := none }

/-! ### Safety groups that end without completing (R94, R98) -/

/-- The running safety group is cut short: a wind lowering leaves the WIND cause set, a park stow leaves the causes as they
are (R94, R98). -/
def groupCut (s : State) : State :=
  let s1 := s.setSafe { s.safe with group := none }
  match s.safe.group with
  | some .windLowering => raiseWindAlarm s1
  | _ => s1

/-! ### The grant of the crank (R80, R81, R82) -/

/-- The crank is granted: a port holder that has not released receives AUTHORITY LOST (MANUAL), the holder becomes absent,
the claims and the reasons are kept, and MANUAL BEGUN is placed (R34, R80 to R82, R86). -/
def grantCrank (lostHalted lostDiscarded begunHalted begunDiscarded : Nat) (s : State) : State :=
  let previous := s.arb.holder
  let state := s.arb.auth
  let s1 := if s.arb.releaseMark then s else placeAuthority previous .lost (some .manual) lostHalted lostDiscarded s
  placeAll (.manualBegun state previous begunHalted begunDiscarded)
    (s1.setArb
      { s1.arb with
        auth := .manual, holder := none, releaseMark := false, idle := none, grant := true, deferred := none,
        crankEnd := none })

/-- A suspended entry is abandoned for the crank with every waiting entry; its scan, if begun, ends ENDED MANUAL; the crank
is granted at once, and the ending report is made when its axes are at rest (R81, R82, log 20). -/
def abandonForCrank (s : State) : State :=
  match activeEntry s with
  | none => s
  | some e =>
    let n := waitingCount s
    let s1 := finishScan .endedManual false s
    let s2 := dropActive e s1
    let s3 :=
      s2.setExe
        { s2.exe with
          queue := []
          closing :=
            some { axes := e.motion.axes, ending := { boundary := true, completed := false, halted := e.tag, discarded := n } } }
    grantCrank e.tag n e.tag n (groupCut s3)

/-! ### Lockout reasons (R42) -/

/-- The reason given to an entry that a lockout reason halts (R66). -/
def haltReason : LockReason → EndReason
  | .estop => .estop
  | _ => .lockout

/-- The AUTHORITY LOST reason of a lockout reason (R42). -/
def lostReason : LockReason → AuthReason
  | .estop => .estop
  | _ => .lockout

/-- A reason joins the lockout reason set, with its condition notice (R42, R45). -/
def enlistReason (k : LockReason) (s : State) : State :=
  placeCondition .lockout (s.setArb { s.arb with reasons := s.arb.reasons.put k true })

/-- A park stow entry has failed, and its boundary is not yet taken (R61, R62). -/
def failedStowWaits (s : State) : Bool := s.exe.closing.any (fun c => c.ending.failed == some .parkStow)

/-- The ending report still outstanding is taken with the entry into LOCKOUT: a park stow entry that had failed adds STOW
FAILED with PARK negated (R41, R42, R62, R98). That the reason joins the set here, beside the reason that locks out, is the
model's reading (log 54). -/
def takeOutstanding (s : State) : State :=
  if failedStowWaits s = true ∧ s.safe.park = false ∧ s.arb.reasons.stowFailed = false then enlistReason .stowFailed s else s

/-- LOCKOUT is entered from a state with a holder: an ending report outstanding is taken, the queue is emptied and a port holder
told (R42, R62); a MANUAL REQ still asserted is then taken as in LOCKOUT (R42, R82). -/
def lockOut (k : LockReason) (s : State) : State :=
  let pending := s.arb.auth == .manualPending
  let tag := activeTag s
  let n := waitingCount s
  let s1 := haltByOrder (haltReason k) (takeOutstanding s)
  let s2 := placeAuthority s.arb.holder .lost (some (lostReason k)) tag n s1
  let s3 := enterLockout (groupCut s2)
  if pending then grantCrank 0 0 0 0 s3 else s3

/-- A lockout reason is added (R42): nothing if it is present; else the set changes, the condition notice is placed, and the
authority state decides. -/
def addReason (k : LockReason) (s : State) : State :=
  if s.arb.reasons.has k then s
  else
    let s1 := enlistReason k s
    match s.arb.auth, s.arb.holder, k with
    | .free, _, _ => enterLockout s1
    | .manual, _, _ => s1
    | .lockout, _, _ => s1
    | _, some .safety, .estop => lockOut k s1
    | _, some .safety, _ => s1
    | _, _, _ => lockOut k s1

/-- A lockout reason leaves the set, with its condition notice (R43, R45). -/
def dropReason (k : LockReason) (s : State) : State :=
  if s.arb.reasons.has k then
    placeCondition .lockout (s.setArb { s.arb with reasons := s.arb.reasons.put k false })
  else s

/-! ### Handovers and deferral (R29, R33, R34, R37, R41) -/

/-- The end of a safety group as the arbiter decides it (R41). -/
def safetyGivesBack (s : State) : State :=
  if s.arb.reasons.isEmpty then passOn .safety s else enterLockout s

/-- The outcome of a boundary in YIELDING (R33). -/
def yieldOutcome (s : State) : State :=
  let reason : AuthReason := if s.arb.releaseMark then .released else .preempted
  match s.arb.claims with
  | p :: _ => giveTo p reason (placeAuthority s.arb.holder .lost (some reason) 0 0 s)
  | [] =>
    if s.arb.releaseMark then toFree (placeAuthority s.arb.holder .lost (some .released) 0 0 s) else retain s

/-- A deferred handover is made, by the rule that called for it (R24, R29, R33, R37, R41). -/
def makeHandover (d : Deferral) (s : State) : State :=
  match d with
  | .preempt =>
    match s.arb.claims, s.arb.holder with
    | p :: _, some h =>
      if outranks p h then giveTo p .preempted (placeAuthority (some h) .lost (some .preempted) 0 0 s) else endDeferral s
    | _, _ => endDeferral s
  | .release => passOn .released (placeAuthority s.arb.holder .lost (some .released) 0 0 s)
  | .yield => yieldOutcome s
  | .idle => passOn .idle (placeAuthority s.arb.holder .lost (some .idle) 0 0 s)
  | .safetyEnd => safetyGivesBack s

/-- A handover is due: it waits for the at-rest confirmation if a claim is to receive authority (R34, log 19). While it
waits the idle timer stands stopped. -/
def mustWait (s : State) : Bool := !s.arb.claims.isEmpty && !confirm s

/-- Defers a handover (R34). -/
def defer (d : Deferral) (s : State) : State := s.setArb { s.arb with deferred := some d, idle := none }

/-- A handover is made, or deferred (R34). -/
def handOn (d : Deferral) (s : State) : State := if mustWait s then defer d s else makeHandover d s

/-- A deferred handover is made when the at-rest flags satisfy the confirmation (R34). -/
def handoverCheck (s : State) : State :=
  match s.arb.deferred with
  | some d => if confirm s then makeHandover d s else s
  | none => s

/-! ### Ending reports (R31 to R33, R41, R82) -/

/-- Whether the next entry becomes active after an ending report: the ending is no boundary, or a port holds authority in
MOVING and the queue still holds entries (R31, R32). -/
def goesOn (ending : Ending) (s : State) : Bool :=
  !ending.boundary
    || (s.arb.auth == .moving && s.arb.holder != some .safety && !s.exe.queue.isEmpty)

/-- What the Safety Monitor adds when the arbiter takes the boundary of its group: a group that still runs has completed, and
clears the WIND cause or, with PARK negated, adds INTERLOCK; a park stow that failed adds STOW FAILED with PARK negated (R41,
R94, R98). -/
def groupEnded (ending : Ending) (s : State) : State :=
  let s1 := s.setSafe { s.safe with group := none }
  match s.safe.group with
  | some .parkStow => if s.safe.park then s1 else addReason .interlock s1
  | some .windLowering => clearWindAlarm s1
  | none => if ending.failed = some .parkStow ∧ s.safe.park = false then addReason .stowFailed s else s

/-- The boundary of a safety group (R41, R82). -/
def safetyBoundary (ending : Ending) (s : State) : State :=
  let s1 := groupEnded ending s
  match s1.arb.auth with
  | .manualPending =>
    if s1.arb.reasons.isEmpty then grantCrank 0 0 0 0 s1 else grantCrank 0 0 0 0 (enterLockout s1)
  | .moving => if s1.arb.reasons.isEmpty then handOn .safetyEnd s1 else enterLockout s1
  | _ => s1

/-- The arbiter takes the report of a boundary after which nothing goes on (R32, R33, R41, R82). -/
def takeBoundary (ending : Ending) (s : State) : State :=
  match s.arb.auth, s.arb.holder with
  | .moving, some (.port p) => toHeld p s
  | .yielding, _ => handOn .yield s
  | .manualPending, some (.port _) => grantCrank ending.halted ending.discarded 0 0 s
  | _, some .safety => safetyBoundary ending s
  | _, _ => s

end Sys2Proof.Machine
end

