-- ==== Sys2Proof/Machine/QueueOps.lean ====
section
/-! DEFINITION. Activation and the start checks (R54, R55), restart after a suspension (R74), the ending reports that follow
one another (R31, R57, R62), and the taking of authority by SAFETY (R38, R40, R53). -/

namespace Sys2Proof.Machine

/-! ### Activation -/

/-- The target of an entry from the pose as it stands (R54). -/
def resolve (m : Motion) (s : State) : Option Int :=
  match m with
  | .moveTo _ v => some v
  | .moveBy a v => some (s.pose.position.get a + v)
  | .scan _ => none

/-- The first start check: the entry's axis, or pan or tilt of a scan, is FAULTED (R54). -/
def axisFaulted (m : Motion) (s : State) : Bool :=
  match m with
  | .moveTo a _ => s.pose.faulted.get a
  | .moveBy a _ => s.pose.faulted.get a
  | .scan _ => s.pose.faulted.pan || s.pose.faulted.tilt

/-- The second start check: a MOVE BY whose target lies outside its axis's range (R54). -/
def beyondLimit (m : Motion) (target : Option Int) : Bool :=
  match m, target with
  | .moveBy a _, some t => !inRange a t
  | _, _ => false

/-- The start checks in their order: the reason of the first that fails (R54). -/
def startCheck (e : Entry) (s : State) : Option EndReason :=
  if axisFaulted e.motion s then some .axisFaulted
  else if beyondLimit e.motion e.target then some .limit
  else
    match envelope s e.motion.axis (e.target.getD 0) with
    | some why => some why
    | none => if s.safe.park = false ∧ e.origin ≠ .safety then some .interlock else none

/-- Starts or restarts a move: the direction is set, and the move is complete if arrived, settling if within tolerance, else
driven (R3, R55, R74). -/
def startMove (a : Axis) (target : Int) (rate : Rate) (s : State) : State :=
  if within a (s.pose.position.get a) target then
    let s1 := setDirection a target s
    if s.pose.atRest.get a then completeActive s1 else settleAxis a s1
  else driveAxis a target rate s

/-- Starts an entry that has passed its checks (R55, R69). -/
def startEntry (e : Entry) (s : State) : State :=
  match e.motion with
  | .moveTo a _ => startMove a (e.target.getD 0) e.rate s
  | .moveBy a _ => startMove a (e.target.getD 0) e.rate s
  | .scan q => beginScan e q s

/-- The class of a MAST entry at its start (R13); other entries have none. -/
def classAtStart (e : Entry) (s : State) : Option MastClass :=
  match e.motion.axis, e.target with
  | some .mast, some t => some (mastClassOf s.pose.position.mast t)
  | _, _ => none

/-- The active entry is suspended; in MANUAL PENDING it is then abandoned for the crank (R71, R73, R82). -/
def suspendOrAbandon (s : State) : State :=
  let s1 := suspendActive s
  if s.arb.auth = .manualPending then abandonForCrank s1 else s1

/-- An activation reported to the arbiter: HELD becomes MOVING and the idle timer stops (R20, R36). -/
def reportActivation (s : State) : State :=
  if s.arb.auth = .held then s.setArb { s.arb with auth := .moving, idle := none } else s

/-- The oldest entry becomes active, when none is and no ending report is outstanding: its target is resolved, the arbiter is
told, the start checks run, and it starts, or becomes SUSPENDED for want of supply (R54, R55, R73). -/
def activate (s : State) : State :=
  if s.exe.active.isSome || s.exe.closing.isSome then s
  else
    match s.exe.queue with
    | [] => s
    | e :: rest =>
      let e1 := { e with target := resolve e.motion s }
      let s1 :=
        reportActivation
          (s.setExe
            { s.exe with
              queue := e1 :: rest
              active :=
                some
                  { execution := .running, mastClass := classAtStart e1 s, phases := Axes.all .idle, yieldDue := false,
                    crankDue := false } })
      match startCheck e1 s1 with
      | some why => failActive why false s1
      | none => if s1.exe.supply = .available then startEntry e1 s1 else suspendOrAbandon s1

/-- Restarts the suspended entry toward the target that it kept, without the start checks (R74, R77). -/
def restartActive (seconds : Nat) (s : State) : State :=
  match activeEntry s with
  | none => s
  | some e =>
    let s1 :=
      placeAll (.supplyResumed e.tag e.origin e.purpose seconds)
        (s.setExe
          { s.exe with
            suspension := none
            active := s.exe.active.map (fun x => { x with execution := .running, phases := Axes.all .idle }) })
    if e.motion.axis = none ∧ s.scan.scan.isSome = true then resumeScan s1 else startEntry e s1

/-! ### Ending reports -/

/-- Makes the ending report that is due, if its axes are at rest or FAULTED, and goes on to the next entry, which may end at
once; each round ends one entry, so the fuel bounds the rounds (R31, R57, R62). -/
def runQueue : Nat → State → State
  | 0, s => s
  | n + 1, s =>
    match s.exe.closing with
    | none => s
    | some c =>
      if s.pose.restedOrFaulted c.axes then
        let s1 := s.setExe { s.exe with closing := none }
        if goesOn c.ending s1 then runQueue n (activate s1) else takeBoundary c.ending s1
      else s

/-- The ending reports that are due; a queue of 16 entries and the entry closing end in fewer rounds than these. -/
def advance (s : State) : State := runQueue 24 s

/-- Activates the oldest entry and takes what follows at once. -/
def goAhead (s : State) : State := advance (activate s)

/-! ### SAFETY takes authority (R38, R40) -/

/-- A move of a safety group: at FAST (R93, R97). -/
def safetyDraft (purpose : Purpose) (locked : Bool) (m : Axis × Int) : Draft :=
  { motion := .moveTo m.1 m.2, rate := .fast, purpose := purpose, slot := none, locked := locked }

/-- The park stow group: the axes needed in the stow order, locked (R97). -/
def parkStowDrafts (position : Axes Int) : List Draft :=
  (stowAxes position).map (fun a => safetyDraft .stow true (a, parkValue a))

/-- The wind-lowering group: MAST TO 3,000, not locked (R93). -/
def windLoweringDrafts : List Draft := [safetyDraft .lower false (.mast, 3000)]

/-- SAFETY takes authority with a group: the active entry is halted, the queue emptied, a port holder told, and the group's
first entry becomes active; MANUAL PENDING stays (R38, R40, R62). -/
def takeSafety (group : SafetyGroup) (ds : List Draft) (s : State) : State :=
  let tag := activeTag s
  let n := waitingCount s
  let s1 := groupCut (placeAuthority s.arb.holder .lost (some .safety) tag n (haltByOrder .safety s))
  let s2 :=
    s1.setArb
      { s1.arb with
        auth := if s.arb.auth = .manualPending then .manualPending else .moving
        holder := some .safety, releaseMark := false, idle := none, deferred := none }
  goAhead (append .safety ds (s2.setSafe { s2.safe with group := some group }))

end Sys2Proof.Machine
end

