-- ==== Sys2Proof/Machine/SafetyOps.lean ====
section
/-! DEFINITION. The Safety Monitor's decisions that more than one command shares: the park rule (R96), removals of lockout
reasons and what follows them (R43), the MANUAL REQ line (R80 to R82), and the end of a crank (R85). -/

namespace Sys2Proof.Machine

/-! ### The park rule -/

/-- The row of a stowed pose (R96): INTERLOCK is added, MANUAL and a running park stow apart. -/
def parkRuleAct (position : Axes Int) (s : State) : State :=
  if stowAxes position = [] then addReason .interlock s
  else if stowable position s.pose.faulted then takeSafety .parkStow (parkStowDrafts position) s
  else addReason .stowBlocked s

/-- The row of LOCKOUT (R96). -/
def parkRuleLockout (position : Axes Int) (s : State) : State :=
  if stowAxes position = [] then addReason .interlock s else s

/-- Whether the park rule sets the PARK cause for a pose: always but where it finds the pose stowed and adds INTERLOCK
(R96). -/
def parkRuleAlarms (position : Axes Int) (alarmOnly : Bool) (s : State) : State :=
  if alarmOnly = false ∧ stowAxes position = [] then s else raiseParkAlarm s

/-- Whether SAFETY holds a park stow: one that runs, or one that failed and whose boundary is not yet taken (R96, log 54). -/
def holdsParkStow (s : State) : Bool := s.safe.group == some .parkStow || failedStowWaits s

/-- The park rule, from a pose, the authority state and the running safety group (R96): the reason or the group first, then
the alarm cause (log 35). -/
def parkRule (position : Axes Int) (atCrankEnd : Bool) (s : State) : State :=
  let alarmOnly := (s.arb.auth == .manual && !atCrankEnd) || holdsParkStow s
  parkRuleAlarms position alarmOnly
    (if alarmOnly then s
    else if s.arb.auth = .lockout then parkRuleLockout position s
    else parkRuleAct position s)

/-! ### Removals of reasons -/

/-- What follows removals from the set: emptied in LOCKOUT it gives FREE, and with PARK negated the park rule is applied
again (R43). -/
def afterRemoval (s : State) : State :=
  if s.arb.auth = .lockout ∧ s.arb.reasons.isEmpty = true then
    let s1 := toFree s
    if s1.safe.park then s1 else parkRule s1.pose.position false s1
  else s

/-! ### The end of a crank (R85) -/

/-- Step 4: STOW BLOCKED is removed if PARK is negated and the pose is stowable (R85). -/
def unblockStow (position : Axes Int) (s : State) : State :=
  if s.safe.park = false ∧ stowable position s.pose.faulted = true then dropReason .stowBlocked s else s

/-- Step 5: LOCKOUT, the park rule, the highest claim, or FREE (R85). -/
def leaveManual (position : Axes Int) (s : State) : State :=
  if s.arb.reasons.isEmpty = false then enterLockout s
  else if s.safe.park = false then
    let s1 := parkRule position true s
    if s1.arb.auth = .manual then enterLockout s1 else s1
  else passOn .manual s

/-- Steps 4 to 6 of the end of a crank, on the positions of its full reading (R85, R86, log 22). -/
def finishCrank (position : Axes Int) (s : State) : State :=
  let s1 := leaveManual position (unblockStow position (s.setArb { s.arb with crankEnd := none }))
  placeAll (.manualEnded true s1.arb.auth s1.arb.holder position s1.arb.reasons) s1

/-- Step 3: the end of a crank waits until each axis that is not FAULTED is at rest (R85). -/
def crankCheck (s : State) : State :=
  match s.arb.crankEnd with
  | some position => if confirm s then finishCrank position s else s
  | none => s

/-- All that waits for the at-rest flags or a FAULTED flag: the ending report, the deferred handover, the end of a crank
(R34, R62, R85). -/
def settleAll (s : State) : State := crankCheck (handoverCheck (advance s))

/-! ### The MANUAL REQ line -/

/-- The crank becomes due at the boundary: MANUAL PENDING, the waiting entries outside the active group discarded, and YIELD
DUE (MANUAL) to a port holder (R81). -/
def manualDue (s : State) : State :=
  let n := discardCount s
  let s1 := discardWaiting true s
  placeAuthority s.arb.holder .yieldDue (some .manual) 0 n (s1.setArb { s1.arb with auth := .manualPending })

/-- An assertion of MANUAL REQ by authority state (R34, R80, R81, R85). -/
def takeManualRequest (s : State) : State :=
  match s.arb.auth with
  | .free => grantCrank 0 0 0 0 s
  | .held => grantCrank 0 0 0 0 s
  | .lockout => grantCrank 0 0 0 0 s
  | .manual => s.setArb { s.arb with grant := true, crankEnd := none }
  | .manualPending => s
  | _ =>
    if s.arb.deferred.isSome then grantCrank 0 0 0 0 s
    else if isSuspended s then advance (abandonForCrank s)
    else manualDue s

/-- The state to which a withdrawn crank request returns (R82). -/
def returnState (s : State) : AuthState :=
  match s.arb.holder with
  | some (.port p) =>
    if s.arb.releaseMark || s.arb.claims.any (fun q => outranks q (.port p)) then .yielding else .moving
  | _ => .moving

/-- The crank request is withdrawn: the state returns, and a scan is told; it yields at its next step boundary if the state is
YIELDING again (R82, R151). In MOVING it goes on (R82), but for a yield due mark set before, which a free value keeps (R151) or
clears (R82, log 23). MANUAL ENDED says granted no (R82, R86). -/
def withdrawManual (s : State) : State :=
  let back := returnState s
  let s1 :=
    updateActive
      (fun x =>
        { x with crankDue := false, yieldDue := back == .yielding || (x.yieldDue && Config.yieldMarkOutlives) })
      (s.setArb { s.arb with auth := back })
  placeAll (.manualEnded false back s.arb.holder s.pose.position s.arb.reasons) s1

end Sys2Proof.Machine
end

