-- ==== Sys2Proof/Machine/Records.lean ====
section
/-! DEFINITION. What the controller sends: the fields of each notice (R157, R162), the frames of an output item (R156, R160,
R161), the STATUS and IDENTIFY records (R164, R165), the scan result (R154) and the parts of READ CACHE (R160). -/

namespace Sys2Proof.Machine

/-! ### Notices -/

/-- A pose of pan and tilt (R157). -/
def panTiltBytes (q : PanTilt) : List Byte := intBytes q.pan ++ intBytes q.tilt

/-- A best pose that may be absent: a presence byte, then pan and tilt, zero when absent (R157, log 28). -/
def optionPanTilt (q : Option PanTilt) : List Byte :=
  match q with
  | some v => 0x01 :: panTiltBytes v
  | none => 0x00 :: panTiltBytes { pan := 0, tilt := 0 }

/-- The four positions, in the order of R157. -/
def poseBytes (p : Axes Int) : List Byte := intBytes p.mast ++ intBytes p.pan ++ intBytes p.tilt ++ intBytes p.pol

/-- The fields of a scan result before its end reason (R154). -/
def scanFields (r : ScanResult) : List Byte :=
  byteOf r.tag :: optionByte r.slot :: intBytes r.requested ++ intBytes r.done ++ intBytes (r.requested - r.done : Nat)
    ++ optionBytes r.bestLevel ++ optionPanTilt r.bestPose

/-- The whole scan result, as SCAN RESULT carries it (R154). -/
def scanResultBytes (r : ScanResult) : List Byte := scanFields r ++ [endReasonByte r.endReason, boolByte r.learned]

def axisByte (a : Option Axis) : Byte :=
  match a with
  | some x => axisCode x
  | none => 0xFF

/-- A start's cause and source (R157, R168). -/
def StartCause.event : StartCause → Byte
  | .cold => 0x00
  | .warmReset => 0x01
  | .warmRestart => 0x01

def StartCause.source : StartCause → Byte
  | .cold => 0xFF
  | .warmReset => 0x00
  | .warmRestart => 0x01

/-- The event byte of a notice (R162); that of CLAIM REFUSED is the AUTHORITY reason value of LOCKOUT (log 27). -/
def NoticeBody.event : NoticeBody → Byte
  | .started cause _ _ _ => cause.event
  | .authority event _ _ _ => event.code
  | .claimRefused => AuthReason.lockout.code
  | .segmentDone _ _ _ => 0x00
  | .segmentFailed _ _ _ _ reason _ _ => reason.code
  | .scanProgress _ _ _ _ _ => 0x00
  | .scanEnd r => endReasonByte r.endReason
  | .siteWritten _ state _ _ _ _ => state.code
  | .tableErased _ _ => 0x00
  | .cacheFlushed cause _ _ _ _ => cause.code
  | .wind now _ _ _ _ => now.code
  | .condition event _ _ _ _ _ => event.code
  | .manualBegun _ _ _ _ => 0x00
  | .manualEnded _ _ _ _ _ => 0x01
  | .supplySuspended _ _ _ _ => 0x00
  | .supplyResumed _ _ _ _ => 0x01

/-- The fields of a notice after its header, in the order in which its rule names them, without the one that the event byte
carries (R157). -/
def NoticeBody.fields : NoticeBody → List Byte
  | .started cause mastUp damaged reasons => [cause.source, boolByte mastUp, byteOf damaged, reasons.byte]
  | .authority _ reason halted discarded => [authReasonByte reason, byteOf halted, byteOf discarded]
  | .claimRefused => []
  | .segmentDone tag completed depth => [byteOf tag, byteOf completed, byteOf depth]
  | .segmentFailed tag axis purpose slot _ discarded failures =>
    [byteOf tag, axisByte axis, purpose.code, optionByte slot, byteOf discarded, byteOf failures]
  | .scanProgress tag done requested best pose =>
    byteOf tag :: intBytes done ++ intBytes requested ++ intBytes best ++ panTiltBytes pose
  | .scanEnd r => scanFields r ++ [boolByte r.learned]
  | .siteWritten slot _ operation writer redirection writes =>
    [byteOf slot, operation.code, portCode writer, redirection, byteOf writes]
  | .tableErased requester notFree => [portCode requester, byteOf notFree]
  | .cacheFlushed _ slot requester removed remaining =>
    [optionByte slot, portByte requester, byteOf removed, byteOf remaining]
  | .wind _ previous speed ceiling mast => previous.code :: byteOf speed :: intBytes ceiling ++ intBytes mast
  | .condition _ reasons latch alarmPark alarmWind defaulted =>
    [reasons.byte, boolByte latch, alarmByte alarmPark alarmWind, boolByte defaulted]
  | .manualBegun state previous halted discarded =>
    [state.code, partyByte previous, byteOf halted, byteOf discarded]
  | .manualEnded granted state holder pose reasons =>
    boolByte granted :: state.code :: partyByte holder :: poseBytes pose ++ [reasons.byte]
  | .supplySuspended tag origin purpose limit => byteOf tag :: origin.code :: purpose.code :: intBytes limit
  | .supplyResumed tag origin purpose seconds => byteOf tag :: origin.code :: purpose.code :: intBytes seconds

/-- The body of a notice: the header of code, event byte and merged count, then the fields (R162). -/
def noticeBytes (body : NoticeBody) (merged : Nat) : List Byte :=
  byteOf (0xE0 + (body.kind - 1)) :: body.event :: byteOf merged :: body.fields

/-! ### Frames of an output item -/

/-- The bodies of an output item, one for each frame (R160, R161). -/
def OutItem.bodies : OutItem → List (List Byte)
  | .response r => r.parts.map (fun fields => r.code :: r.status.code :: fields)
  | .notice body merged => [noticeBytes body merged]

/-- The frames of an output item (R156). -/
def OutItem.frames (i : OutItem) : List (List Byte) := i.bodies.map frameOf

/-! ### The STATUS and IDENTIFY records -/

/-- The holder in the STATUS record: 00h for none (R164). -/
def holderByte (h : Option Party) : Byte :=
  match h with
  | some x => x.code
  | none => 0x00

/-- The claim list in the STATUS record: the count, then three ports (R164). -/
def claimBytes (claims : List Port) : List Byte :=
  byteOf claims.length :: (claims.map portCode ++ List.replicate 3 0x00).take 3

/-- The execution state of the active entry (R164). -/
def executionByte (a : Option Active) : Byte :=
  match a with
  | none => 0x00
  | some x => if x.execution = .running then 0x01 else 0x02

/-- The STATUS record, 34 bytes (R164). -/
def statusRecord (s : State) : List Byte :=
  [s.arb.auth.code, holderByte s.arb.holder] ++ claimBytes s.arb.claims ++ [s.arb.reasons.byte] ++ poseBytes s.pose.position
    ++ [axisFlags s.pose.atRest, axisFlags s.pose.faulted, byteOf (activeTag s), executionByte s.exe.active,
      byteOf s.exe.queue.length, s.safe.windClass.code, byteOf s.safe.speed]
    ++ intBytes s.pose.level.pitch ++ intBytes s.pose.level.roll ++ optionBytes s.heading
    ++ [boolByte s.pose.latch, s.safe.lineByte, boolByte s.scan.scan.isSome, byteOf s.cache.entries.length,
      s.store.engine.tableByte]

/-- "TECFOLD MDC-40", padded to 16 bytes with 20h (R165). -/
def modelText : List Byte :=
  [0x54, 0x45, 0x43, 0x46, 0x4F, 0x4C, 0x44, 0x20, 0x4D, 0x44, 0x43, 0x2D, 0x34, 0x30, 0x20, 0x20]

/-- The IDENTIFY fields (R165). -/
def identifyFields : List Byte :=
  modelText ++ [Config.hardwareRevision] ++ intBytes (greatestOf .mast) ++ intBytes (leastOf .pan)
    ++ intBytes (greatestOf .pan) ++ intBytes (leastOf .tilt) ++ intBytes (greatestOf .tilt) ++ intBytes (leastOf .pol)
    ++ intBytes (greatestOf .pol)
    ++ [byteOf Config.queueCapacity, byteOf Config.groupCapacity, byteOf Config.slotCount, byteOf Config.cacheCapacity]
    ++ intBytes Config.scanSteps ++ [byteOf Config.reportBlock, byteOf Config.receiveCapacity]

/-! ### READ CACHE -/

/-- The 11 bytes of a cache entry (R124, R160). -/
def cacheEntryBytes (e : CacheEntry) : List Byte :=
  byteOf e.slot :: intBytes e.bearing ++ intBytes e.elevation ++ intBytes e.polarisation ++ intBytes e.height
    ++ intBytes e.peak

/-- The level reference: a presence byte, then pitch and roll, zero when absent (R160, log 28). -/
def referenceBytes (r : Option Level) : List Byte :=
  match r with
  | some l => 0x01 :: intBytes l.pitch ++ intBytes l.roll
  | none => 0x00 :: intBytes 0 ++ intBytes 0

/-- The number of parts: the entry count divided by 4, rounded up, and 1 when the count is 0 (R160). -/
def cacheParts (count : Nat) : Nat := if count = 0 then 1 else (count + 3) / 4

/-- Part k of the READ CACHE response, from 1 (R160). -/
def cachePart (c : Cache) (k : Nat) : List Byte :=
  let n := cacheParts c.entries.length
  [byteOf k, byteOf n, byteOf c.entries.length]
    ++ ((c.entries.drop (4 * (k - 1))).take 4).flatMap cacheEntryBytes
    ++ (if k = n then referenceBytes c.reference else [])

/-- The parts of the READ CACHE response (R133, R160). -/
def cacheResponse (c : Cache) : List (List Byte) :=
  (List.range (cacheParts c.entries.length)).map (fun i => cachePart c (i + 1))

/-! ### The receiver (R158) -/

/-- A frame that passes joins the receive list: its code is below 80h and the list holds fewer than 4 (R158). -/
def acceptBody (body : List Byte) (q : PortState) : PortState :=
  match body with
  | code :: _ =>
    if code.toNat < 0x80 ∧ q.receive.length < Config.receiveCapacity then { q with receive := q.receive ++ [body] } else q
  | [] => q

/-- One byte taken by the receiver (R158). -/
def receiveByte (b : Byte) (q : PortState) : PortState :=
  match q.rx with
  | .hunting => if b = 0x7E then { q with rx := .length } else q
  | .length => if 2 ≤ b.toNat ∧ b.toNat ≤ 62 then { q with rx := .counting b.toNat [] } else { q with rx := .hunting }
  | .counting n body =>
    if body.length + 1 < n then { q with rx := .counting n (b :: body) } else { q with rx := .checking (b :: body) none }
  | .checking body none => { q with rx := .checking body (some b) }
  | .checking body (some high) =>
    let received := body.reverse
    if wordOf high b = crc16 (byteOf received.length :: received) then acceptBody received { q with rx := .hunting }
    else { q with rx := .hunting }

end Sys2Proof.Machine
end

