-- ==== Sys2Proof/Machine/Ports.lean ====
section
/-! DEFINITION. The commands of the Port Interfaces: bytes and frames received (R158), frames taken (R159), transmission (R161),
and the requests SET NOTICES, STATUS and IDENTIFY (R163 to R165). -/

namespace Sys2Proof.Machine

/-- BYTE_RECEIVED: a byte that is not a frame's last (R158, log 43). -/
def execByteReceived (p : Port) (b : Byte) (s : State) : Host.Outcome State Fault Refusal :=
  .next (whenPowered (updatePort p (receiveByte b)) s)

/-- FRAME_RECEIVED: the last check byte of a frame arrives (R158, log 43). -/
def execFrameReceived (p : Port) (last : Byte) (s : State) : Host.Outcome State Fault Refusal :=
  .next (whenPowered (updatePort p (receiveByte last)) s)

/-- FRAME_BYTE_TIMEOUT: the partial frame is discarded (R158). -/
def execFrameByteTimeout (p : Port) (s : State) : Host.Outcome State Fault Refusal :=
  .next (whenPowered (updatePort p (fun q => { q with rx := .hunting })) s)

/-- The oldest frame is taken: passed to its owning block, or answered BAD REQUEST (R159, log 48). -/
def takeFrame (q : PortState) : PortState :=
  match q.receive with
  | [] => q
  | body :: rest =>
    if q.mayTake then
      match body with
      | [] => { q with receive := rest }
      | code :: params =>
        match requestOf code params with
        | some r => { q with receive := rest, inHand := .passed r }
        | none =>
          { q with
            receive := rest
            output := q.output ++ [.response { code := code + 0x80, status := .badRequest, parts := [[]] }] }
    else q

/-- TAKE_FRAME (R159). -/
def execTakeFrame (p : Port) (s : State) : Host.Outcome State Fault Refusal :=
  .next (whenPowered (updatePort p takeFrame) s)

/-- READY_CHANGE: the line permits or withholds the next frame's beginning (R161). -/
def execReadyChange (p : Port) (asserted : Bool) (s : State) : Host.Outcome State Fault Refusal :=
  .next (whenPowered (updatePort p (fun q => { q with ready := asserted })) s)

/-- The oldest item leaves the list as its transmission begins, while READY is asserted and the line is free (R161). -/
def beginTransmission (q : PortState) : PortState :=
  match q.ready, q.tx, q.output with
  | true, none, item :: rest =>
    match item.frames with
    | first :: others => { q with output := rest, tx := some { response := item.isResponse, frame := first, rest := others } }
    | [] => { q with output := rest }
  | _, _, _ => q

/-- TRANSMIT_BEGIN (R161). -/
def execTransmitBegin (p : Port) (s : State) : Host.Outcome State Fault Refusal :=
  .next (whenPowered (updatePort p beginTransmission) s)

/-- A frame has been sent: the next part of the same response follows, or the line is free (R159 to R161, log 37). -/
def endTransmission (q : PortState) : PortState :=
  match q.tx with
  | none => q
  | some t =>
    match t.rest with
    | first :: others => { q with tx := some { t with frame := first, rest := others } }
    | [] => { q with tx := none }

/-- FRAME_SENT (R159). -/
def execFrameSent (p : Port) (s : State) : Host.Outcome State Fault Refusal :=
  .next (whenPowered (updatePort p endTransmission) s)

/-- Whether SET NOTICES keeps a pending item under a mask: kinds 1, 2, 3 and 8 are kept whatever the mask (R163). -/
def keptUnder (mask : BitVec 16) : OutItem → Bool
  | .response _ => true
  | .notice body _ => body.kind ≤ 3 || body.kind == 8 || kindOn mask body.kind

/-- SET NOTICES: the mask is replaced, pending notices now off are removed, and the mask in force is answered (R163). -/
def setNotices (p : Port) (mask : BitVec 16) (s : State) : State :=
  respond p (.setNotices mask) .done (wordBytes mask)
    (updatePort p (fun q => { q with mask := mask, output := q.output.filter (keptUnder mask) }) s)

/-- SET_NOTICES (R163). -/
def execSetNotices (p : Port) (mask : BitVec 16) (s : State) : Host.Outcome State Fault Refusal :=
  .next (onRequest p (.setNotices mask) (setNotices p mask) s)

/-- STATUS (R164). -/
def execStatus (p : Port) (s : State) : Host.Outcome State Fault Refusal :=
  .next (onRequest p .status (fun s => respond p .status .done (statusRecord s) s) s)

/-- IDENTIFY (R165). -/
def execIdentify (p : Port) (s : State) : Host.Outcome State Fault Refusal :=
  .next (onRequest p .identify (fun s => respond p .identify .done identifyFields s) s)

end Sys2Proof.Machine
end

