-- ==== Sys2Proof/Machine/Authority.lean ====
section
/-! DEFINITION. The commands that the Authority Arbiter takes: CLAIM (R24 to R27), WITHDRAW (R28), RELEASE (R29, R30), the idle
timer (R37), CLEAR LOCKOUT (R44) and CLEAR LATCHES (R11). -/

namespace Sys2Proof.Machine

/-! ### CLAIM -/

/-- A claim joins the list (R23). -/
def joinClaim (p : Port) (s : State) : State := s.setArb { s.arb with claims := joinClaims p s.arb.claims }

/-- A CLAIM that outranks the holder in HELD: an immediate handover, or a deferred one (R24, R34). -/
def preempt (p : Port) (s : State) : State :=
  if s.arb.deferred.isSome then respond p .claim .pending [] (joinClaim p s)
  else if confirm s then
    respond p .claim .granted [] (toHeld p (placeAuthority s.arb.holder .lost (some .preempted) 0 0 s))
  else respond p .claim .pending [] (defer .preempt (joinClaim p s))

/-- A CLAIM that outranks a port holder in MOVING: the waiting entries outside the active group are discarded, YIELDING, and
YIELD DUE to the holder (R25). -/
def callForYield (p : Port) (s : State) : State :=
  let n := discardCount s
  let s1 := discardWaiting false (joinClaim p s)
  respond p .claim .pending []
    (placeAuthority s.arb.holder .yieldDue (some .preempted) 0 n
      (s1.setArb { s1.arb with auth := .yielding, releaseMark := false }))

/-- A CLAIM against a holder (R24 to R27). -/
def claimAgainst (p : Port) (h : Party) (s : State) : State :=
  if h = .port p then respond p .claim .alreadyHolder [] s
  else if outranks p h then
    match s.arb.auth with
    | .held => preempt p s
    | .moving => callForYield p s
    | _ => respond p .claim .pending [] (joinClaim p s)
  else respond p .claim .wait [] (joinClaim p s)

/-- CLAIM in each authority state (R24 to R27). -/
def claimAuthority (p : Port) (s : State) : State :=
  match s.arb.auth, s.arb.holder with
  | .lockout, _ => respond p .claim .lockedOut [] s
  | .manual, _ => respond p .claim .manual [] s
  | _, some h => claimAgainst p h s
  | _, none => respond p .claim .granted [] (toHeld p s)

/-- CLAIM (R24). -/
def execClaim (p : Port) (s : State) : Host.Outcome State Fault Refusal :=
  .next (onRequest p .claim (claimAuthority p) s)

/-! ### WITHDRAW -/

/-- WITHDRAW: the port's claim leaves the list, or NO CLAIM (R28). -/
def withdrawClaim (p : Port) (s : State) : State :=
  if s.arb.claims.contains p then
    respond p .withdraw .done [] (s.setArb { s.arb with claims := withoutClaim p s.arb.claims })
  else respond p .withdraw .noClaim [] s

/-- WITHDRAW (R28). -/
def execWithdraw (p : Port) (s : State) : Host.Outcome State Fault Refusal :=
  .next (onRequest p .withdraw (withdrawClaim p) s)

/-! ### RELEASE -/

/-- Sets the release mark. -/
def markRelease (s : State) : State := s.setArb { s.arb with releaseMark := true }

/-- RELEASE from the holder's port by authority state (R29, R30). -/
def releaseFrom (p : Port) (s : State) : State :=
  match s.arb.auth with
  | .held =>
    if mustWait s then respond p .release .done [] (defer .release (markRelease s))
    else respond p .release .done [] (passOn .released s)
  | .moving =>
    let n := discardCount s
    let s1 := discardWaiting false s
    respond p .release .done [byteOf n] (s1.setArb { s1.arb with auth := .yielding, releaseMark := true })
  | .yielding => respond p .release .done [byteOf 0] (markRelease s)
  | _ => respond p .release .done [] (markRelease s)

/-- RELEASE (R29, R30). -/
def releaseAuthority (p : Port) (s : State) : State :=
  if s.arb.holder = some (.port p) then releaseFrom p s else respond p .release .notHolder [] s

/-- RELEASE (R30). -/
def execRelease (p : Port) (s : State) : Host.Outcome State Fault Refusal :=
  .next (onRequest p .release (releaseAuthority p) s)

/-! ### The idle timer -/

/-- The idle timer expires: it runs in HELD toward a limit that is not 0 (R36, R37). -/
def expireIdle (s : State) : State :=
  match s.arb.auth, s.arb.idle with
  | .held, some limit => if limit = 0 then s else handOn .idle s
  | _, _ => s

/-- IDLE_TIMER_EXPIRY (R37). -/
def execIdleTimerExpiry (s : State) : Host.Outcome State Fault Refusal := .next (whenPowered expireIdle s)

/-! ### CLEAR LOCKOUT and CLEAR LATCHES -/

/-- Step 1 of R44: ESTOP is removed if its line is negated. -/
def clearEstop (s : State) : State := if s.safe.estop then s else dropReason .estop s

/-- Step 2 of R44: STOW FAILED is removed if ESTOP is not in the set, whatever PARK is; R43 says only "while PARK is still
negated", and that the removal does not look at PARK is the model's choice (log 49). -/
def clearStowFailed (s : State) : State := if s.arb.reasons.estop then s else dropReason .stowFailed s

/-- CLEAR LOCKOUT: the two steps, the answer with the set as it stands, and then the effects of the removals (R43, R44,
log 25). -/
def clearLockout (p : Port) (s : State) : State :=
  if p ≠ .rack then respond p .clearLockout .notPermitted [] s
  else
    let s1 := clearStowFailed (clearEstop s)
    if s.arb.reasons.isEmpty then respond p .clearLockout .done [s1.arb.reasons.byte] s1
    else if s1.arb.reasons = s.arb.reasons then respond p .clearLockout .lockedOut [s1.arb.reasons.byte] s1
    else afterRemoval (respond p .clearLockout .done [s1.arb.reasons.byte] s1)

/-- CLEAR_LOCKOUT (R44). -/
def execClearLockout (p : Port) (s : State) : Host.Outcome State Fault Refusal :=
  .next (onRequest p .clearLockout (clearLockout p) s)

/-- CLEAR LATCHES from the holder's port or RACK (R11). -/
def clearLatches (p : Port) (s : State) : State :=
  if s.arb.holder = some (.port p) ∨ p = .rack then
    respond p .clearLatches .done [] (s.setPose { s.pose with latch := false })
  else respond p .clearLatches .notPermitted [] s

/-- CLEAR_LATCHES (R11). -/
def execClearLatches (p : Port) (s : State) : Host.Outcome State Fault Refusal :=
  .next (onRequest p .clearLatches (clearLatches p) s)

end Sys2Proof.Machine
end

