-- ==== Sys2Proof/Machine/Motion.lean ====
section
/-! DEFINITION. The commands that the Motion Executor and the Pose Monitor take: QUEUE MOVES (R49 to R51), HALT (R65), CLEAR AXIS
(R7), readings (R4, R56, R57), the stall and rest watches (R58, R62), fault lines (R6) and the obstruction sensor (R9, R10). -/

namespace Sys2Proof.Machine

/-- The holder check: the refusal that R21 gives, if any. QUEUE MOVES, AIM, STOW and PEAK submit; HALT and CLEAR AXIS do
not. -/
def holderCheck (p : Port) (submits : Bool) (s : State) : Option Status :=
  if s.arb.holder ≠ some (.port p) then some .notHolder
  else if submits = true ∧ (s.arb.deferred.isSome = true ∨ (s.arb.auth ≠ .held ∧ s.arb.auth ≠ .moving)) then
    some .notPermitted
  else none

/-- A request that passes the holder check first (R21). -/
def asHolder (p : Port) (r : Request) (submits : Bool) (f : State → State) (s : State) : State :=
  match holderCheck p submits s with
  | some status => respond p r status [] s
  | none => f s

/-! ### QUEUE MOVES -/

/-- The motion of a move of good form (R49). -/
def RawMove.motion (m : RawMove) : Option Motion :=
  match axisOf? m.axis with
  | none => none
  | some a => if m.kind = 0x00 then some (.moveTo a m.value) else if m.kind = 0x01 then some (.moveBy a m.value) else none

/-- A move of good form as a draft (R47, R49). -/
def RawMove.draft (locked : Bool) (m : RawMove) : Option Draft :=
  match RawMove.motion m, Rate.ofByte? m.rate with
  | some motion, some rate => some { motion := motion, rate := rate, purpose := .plain, slot := none, locked := locked }
  | _, _ => none

/-- Whether the value of a move lies in the range of its kind and axis (R50). -/
def moveInRange (m : Motion) : Bool :=
  match m with
  | .moveTo a v => inRange a v && (a != .mast || v % 10 == 0)
  | .moveBy a v => v.natAbs ≤ (greatestOf a - leastOf a).natAbs && (a != .mast || v % 10 == 0)
  | .scan _ => false

/-- The position, from 1, of the first item that fails a test. -/
def firstPosition {α : Type} (good : α → Bool) (items : List α) : Option Nat :=
  (items.findIdx? (fun x => !good x)).map (· + 1)

/-- An accepted submission: appended, answered, and the oldest entry made active if none is (R51, R53). -/
def submit (p : Port) (ds : List Draft) (answer : State → State) (s : State) : State :=
  goAhead (answer (append (.port p) ds s))

/-- QUEUE MOVES after the holder check: form, range and room in that order (R49 to R51). A fault in the count or the lock flag
is answered before any move is looked at, which is the model's choice (log 50). -/
def queueMoves (p : Port) (lock : Byte) (moves : List RawMove) (s : State) : State :=
  let r := Request.queueMoves lock moves
  if moves.length = 0 ∨ Config.groupCapacity < moves.length ∨ (lock ≠ 0x00 ∧ lock ≠ 0x01) then
    respond p r .badRequest [byteOf 0] s
  else
    match firstPosition (fun m => (RawMove.draft false m).isSome) moves with
    | some k => respond p r .badRequest [byteOf k] s
    | none =>
      let ds := moves.filterMap (RawMove.draft (lock == 0x01))
      match firstPosition (fun d => moveInRange d.motion) ds with
      | some k => respond p r .outOfRange [byteOf k] s
      | none =>
        if fits ds.length s then
          submit p ds
            (respond p r .accepted [byteOf s.exe.nextTag, byteOf ds.length, byteOf (s.exe.queue.length + ds.length)]) s
        else respond p r .queueFull [byteOf (freeRoom s)] s

/-- QUEUE_MOVES (R51). -/
def execQueueMoves (p : Port) (lock : Byte) (moves : List RawMove) (s : State) : Host.Outcome State Fault Refusal :=
  .next
    (onRequest p (.queueMoves lock moves) (asHolder p (.queueMoves lock moves) true (queueMoves p lock moves)) s)

/-! ### HALT and CLEAR AXIS -/

/-- HALT after the holder check (R65). -/
def haltMotion (p : Port) (s : State) : State :=
  advance (respond p .halt .done [byteOf (activeTag s), byteOf (waitingCount s)] (haltByHolder s))

/-- HALT (R65). -/
def execHalt (p : Port) (s : State) : Host.Outcome State Fault Refusal :=
  .next (onRequest p .halt (asHolder p .halt false (haltMotion p)) s)

/-- CLEAR AXIS after the holder check (R7, log 31). -/
def clearAxis (p : Port) (axis : Byte) (s : State) : State :=
  match axisOf? axis with
  | none => respond p (.clearAxis axis) .badRequest [] s
  | some a =>
    if s.pose.faulted.get a = true ∧ s.pose.faultLine.get a = true then respond p (.clearAxis axis) .faultPresent [] s
    else respond p (.clearAxis axis) .done [] (setFaulted a false s)

/-- CLEAR_AXIS (R7). -/
def execClearAxis (p : Port) (axis : Byte) (s : State) : Host.Outcome State Fault Refusal :=
  .next (onRequest p (.clearAxis axis) (asHolder p (.clearAxis axis) false (clearAxis p axis)) s)

/-! ### Readings -/

/-- A running move after a reading: its phase follows, and an arrival completes it (R56, R57). -/
def followMove (e : Entry) (a : Axis) (s : State) : State :=
  let target := e.target.getD 0
  let s1 := followAxis a target e.rate s
  if arrived a target s1 then completeActive s1 else s1

/-- A running scan move after a reading: each driven axis follows its part of the target, and the arrival of both goes on
(R147, R152, log 14). -/
def followScan (x : Scan) (s : State) : State :=
  match x.phase with
  | .dwell => s
  | .levelWait => s
  | _ =>
    let s1 := followAxis .tilt x.target.tilt .slow (followAxis .pan x.target.pan .slow s)
    if scanArrived x.target s1 then arriveScan s1 else s1

/-- The active entry after a reading (R56, R57, R147). -/
def followActive (s : State) : State :=
  if isRunning s then
    match activeEntry s with
    | none => s
    | some e =>
      match e.motion.axis, s.scan.scan with
      | some a, _ => followMove e a s
      | none, some x => followScan x s
      | none, none => s
  else s

/-- POSE_READING: the pose, the lamp and the alarm, then arrivals, ending reports and what waits for rest (R4, R57, log 45). -/
def execPoseReading (reading : Reading) (s : State) : Host.Outcome State Fault Refusal :=
  .next (whenPowered (fun s => settleAll (followActive (takeReading reading s))) s)

/-! ### The stall and rest watches -/

/-- The phase of an axis of the active entry, while it is RUNNING. -/
def runningPhase (a : Axis) (s : State) : AxisPhase :=
  match s.exe.active with
  | some x => if x.execution = .running then x.phases.get a else .idle
  | none => .idle

/-- A 2 s window in the driving phase ends: fewer than 10 counts fail the entry, else the next window begins (R58, log 13). -/
def stallWindow (a : Axis) (s : State) : State :=
  match runningPhase a s with
  | .driving start =>
    if (s.pose.counts.get a - start).natAbs < 10 then advance (failActive .stalled true s)
    else setPhase a (.driving (s.pose.counts.get a)) s
  | _ => s

/-- STALL_WINDOW_EXPIRY (R58). -/
def execStallWindowExpiry (a : Axis) (s : State) : Host.Outcome State Fault Refusal :=
  .next (whenPowered (stallWindow a) s)

/-- The target that an axis of the active entry is driven toward: the entry's own, or its part of a scan move. -/
def drivenTarget (a : Axis) (s : State) : Option Int :=
  match activeEntry s, s.scan.scan with
  | some e, scan =>
    match e.motion.axis, scan with
    | some _, _ => e.target
    | none, some x => if a = .pan then some x.target.pan else some x.target.tilt
    | none, none => none
  | none, _ => none

/-- The settling phase has lasted 2 s: an axis that is not at rest within tolerance fails the entry (R58, log 14). -/
def settlingTimeout (a : Axis) (s : State) : State :=
  match runningPhase a s, drivenTarget a s with
  | .settling, some target => if arrived a target s then s else advance (failActive .stalled true s)
  | _, _ => s

/-- SETTLING_TIMEOUT (R58). -/
def execSettlingTimeout (a : Axis) (s : State) : Host.Outcome State Fault Refusal :=
  .next (whenPowered (settlingTimeout a) s)

/-- The axes of a closing that have not reported at rest become FAULTED (R62). -/
def faultRestless (axes : Axes Bool) (s : State) : State :=
  let f := s.pose.faulted
  let r := s.pose.atRest
  s.setPose
    { s.pose with
      faulted :=
        { mast := f.mast || (axes.mast && !r.mast), pan := f.pan || (axes.pan && !r.pan),
          tilt := f.tilt || (axes.tilt && !r.tilt), pol := f.pol || (axes.pol && !r.pol) } }

/-- REST_WATCH_EXPIRY: the ending report is then made as for a FAULTED axis (R62). -/
def execRestWatchExpiry (s : State) : Host.Outcome State Fault Refusal :=
  .next
    (whenPowered
      (fun s =>
        match s.exe.closing with
        | some c => settleAll (faultRestless c.axes s)
        | none => s)
      s)

/-! ### Fault lines and the obstruction sensor -/

/-- Records a fault line. -/
def setFaultLine (a : Axis) (asserted : Bool) (s : State) : State :=
  s.setPose { s.pose with faultLine := s.pose.faultLine.set a asserted }

/-- The active entry fails if it carries the axis, running or SUSPENDED (R6, R59). -/
def failOnAxis (a : Axis) (s : State) : State :=
  match activeEntry s with
  | some e => if e.motion.axes.get a then failActive .driveFault true s else s
  | none => s

/-- A fault line goes from negated to asserted (R6); a FAULTED axis is no longer waited for (R34, R62). -/
def takeFault (a : Axis) (s : State) : State :=
  if s.pose.faultLine.get a then s else settleAll (failOnAxis a (setFaulted a true (setFaultLine a true s)))

/-- FAULT_LINE_ASSERTED (R6). -/
def execFaultLineAsserted (a : Axis) (s : State) : Host.Outcome State Fault Refusal :=
  .next (whenPowered (takeFault a) s)

/-- FAULT_LINE_NEGATED: the flag stays set (R6, R7). -/
def execFaultLineNegated (a : Axis) (s : State) : Host.Outcome State Fault Refusal :=
  .next (whenPowered (setFaultLine a false) s)

/-- The obstruction latch is set; a latch that was clear places a condition notice (R9). -/
def setLatch (s : State) : State :=
  if s.pose.latch then s else placeCondition .latch (s.setPose { s.pose with latch := true })

/-- A raising MAST entry fails on an edge, running or SUSPENDED (R10). -/
def failRaising (s : State) : State :=
  if s.exe.active.any (fun x => x.mastClass == some .raising) then advance (failActive .obstructed true s) else s

/-- OBSTRUCTION_EDGE (R9, R10). -/
def execObstructionEdge (s : State) : Host.Outcome State Fault Refusal :=
  .next (whenPowered (fun s => failRaising (setLatch s)) s)

end Sys2Proof.Machine
end

