-- ==== Sys2Proof/Machine/Aiming.lean ====
section
/-! DEFINITION. The commands that the Aim Planner and the PEAK request take: SET HEADING (R135), AIM (R136 to R141), STOW (R142)
and PEAK (R143, R144). -/

namespace Sys2Proof.Machine

/-- SET HEADING (R135). -/
def setHeading (p : Port) (value : Int) (s : State) : State :=
  if 0 ≤ value ∧ value ≤ 35999 then respond p (.setHeading value) .done [] (s.setHeading (some value))
  else respond p (.setHeading value) .outOfRange [] s

/-- SET_HEADING (R135). -/
def execSetHeading (p : Port) (value : Int) (s : State) : Host.Outcome State Fault Refusal :=
  .next (onRequest p (.setHeading value) (setHeading p value) s)

/-! ### The Store's answer about a slot -/

/-- The answer that AIM and PEAK give for a slot that is not COMMITTED, or while the table is erased (R137, R143). -/
def slotRefusal (slot : Nat) (t : Store) : Option (Status × List Byte) :=
  if t.engine.erasing then some (.tableBusy, [Engine.tableByte t.engine])
  else
    match (t.slotAt slot).state with
    | .free => some (.noSite, [])
    | .writing => some (.tableBusy, [Engine.tableByte t.engine])
    | .retired =>
      match (t.slotAt slot).contents with
      | some c => if c.redirection = 0xFF then some (.gone, [SlotState.retired.code]) else some (.redirected, [c.redirection])
      | none => some (.gone, [SlotState.retired.code])
    | .damaged => some (.gone, [SlotState.damaged.code])
    | .committed => none

/-! ### AIM -/

/-- The aim fields (R138). -/
structure AimFields where
  bearing : Int
  tilt : Int
  polarisation : Int
  height : Int
deriving DecidableEq, Repr

/-- The aim fields of a cache entry (R138). -/
def aimOfEntry (e : CacheEntry) : AimFields :=
  { bearing := e.bearing, tilt := e.elevation, polarisation := e.polarisation, height := e.height }

/-- The aim fields of a site record (R138). -/
def aimOfSite (f : SiteFields) : AimFields :=
  { bearing := siteBearing f, tilt := siteElevation f, polarisation := sitePolarisation f, height := siteHeight f }

/-- A lookup moves the entry found to the first place (R129). -/
def Cache.lookedUp (c : Cache) (slot : Nat) : Cache :=
  match cacheEntry c slot with
  | some e => { c with entries := e :: c.entries.filter (fun x => x.slot != slot) }
  | none => c

/-- The pan target: the candidate in range nearer the pan in the pose, the one that is not negative if equally near (R139). -/
def panTarget (bearing heading pan : Int) : Int :=
  let up := turn (bearing - heading)
  let down := up - 36000
  if inRange .pan up = false then down
  else if inRange .pan down = false then up
  else if (down - pan).natAbs < (up - pan).natAbs then down
  else up

/-- The entries of an AIM group: each axis not within tolerance of its target, at NORMAL (R141). -/
def aimDrafts (slot : Nat) (targets : List (Axis × Int)) (position : Axes Int) : List Draft :=
  (targets.filter (fun t => !within t.1 (position.get t.1) t.2)).map
    (fun t => { motion := .moveTo t.1 t.2, rate := .normal, purpose := .aim, slot := some slot, locked := true })

/-- The level source of a record, DEFAULT taking the configured one (R106, R144). -/
def recordSource (f : SiteFields) (settings : SettingValues) : LevelSource :=
  if f.levelSource = 0x00 then .analog
  else if f.levelSource = 0x01 then .link
  else if settings.levelSource = 1 then .link
  else .analog

/-- The configured default level source (R144, R170). -/
def defaultSource (settings : SettingValues) : LevelSource := if settings.levelSource = 1 then .link else .analog

/-- The parameters of AIM's SCAN entry (R144). -/
def recordScan (f : SiteFields) (settings : SettingValues) : ScanParams :=
  { pattern := sitePattern f, rowLength := f.rowLength.toNat, stepSize := f.stepSize.toNat, steps := siteSteps f,
    source := recordSource f settings, dwell := settings.dwell, block := settings.block.toNat }

/-- A SCAN entry as a draft: at SLOW, not locked (R47, R52). -/
def scanDraft (slot : Option Nat) (q : ScanParams) : Draft :=
  { motion := .scan q, rate := .slow, purpose := .scan, slot := slot, locked := false }

/-- Whether an AIM places a SCAN entry: ALWAYS, or IF MISS on a miss (R141). -/
def scanWanted (flag : Byte) (hit : Bool) : Bool := flag == 0x02 || (flag == 0x01 && !hit)

/-- The submission of an AIM: the locked group, then the SCAN entry if wanted (R139 to R141). -/
def aimSubmission (slot : Nat) (flag : Byte) (hit : Bool) (fields : AimFields) (site : SiteFields) (heading : Int)
    (s : State) : List Draft :=
  aimDrafts slot
      [(.mast, min fields.height (windCeiling s)), (.pan, panTarget fields.bearing heading s.pose.position.pan),
        (.tilt, fields.tilt), (.pol, fields.polarisation)]
      s.pose.position
    ++ (if scanWanted flag hit then [scanDraft (some slot) (recordScan site s.settings.inForce)] else [])

/-- An AIM of a COMMITTED slot with the heading known (R138 to R141). -/
def aimAt (p : Port) (r : Request) (slot : Nat) (flag : Byte) (site : SiteFields) (heading : Int) (s : State) : State :=
  let found := cacheEntry s.cache slot
  let s1 := s.setCache (s.cache.lookedUp slot)
  let fields :=
    match found with
    | some e => aimOfEntry e
    | none => aimOfSite site
  let ds := aimSubmission slot flag found.isSome fields site heading s1
  if fits ds.length s1 then
    submit p ds
      (respond p r .aimed
        [if ds = [] then 0x00 else byteOf s1.exe.nextTag, byteOf ds.length, boolByte found.isSome,
          boolByte (decide (windCeiling s1 < fields.height)), boolByte (scanWanted flag found.isSome)])
      s1
  else respond p r .queueFull [byteOf (freeRoom s1)] s1

/-- The resolution of an AIM (R137). -/
def resolveAim (p : Port) (r : Request) (slot : Nat) (flag : Byte) (s : State) : State :=
  match slotRefusal slot s.store with
  | some answer => respond p r answer.1 answer.2 s
  | none =>
    match s.store.committedSite slot, s.heading with
    | some site, some heading => aimAt p r slot flag site heading s
    | some _, none => respond p r .noHeading [] s
    | none, _ => respond p r .noSite [] s

/-- AIM after the holder check (R136). -/
def aim (p : Port) (slot : Nat) (heading : Option Int) (flag : Byte) (s : State) : State :=
  let r := Request.aim slot heading flag
  if 0x02 < flag.toNat then respond p r .badRequest [] s
  else if 47 < slot then respond p r .outOfRange [byteOf 1] s
  else
    match heading with
    | none => resolveAim p r slot flag s
    | some v =>
      if 0 ≤ v ∧ v ≤ 35999 then resolveAim p r slot flag (s.setHeading (some v)) else respond p r .outOfRange [byteOf 2] s

/-- AIM (R137). -/
def execAim (p : Port) (slot : Nat) (heading : Option Int) (flag : Byte) (s : State) :
    Host.Outcome State Fault Refusal :=
  .next (onRequest p (.aim slot heading flag) (asHolder p (.aim slot heading flag) true (aim p slot heading flag)) s)

/-! ### STOW -/

/-- The STOW group: each axis needed, in the stow order, at NORMAL (R142). -/
def stowDrafts (position : Axes Int) : List Draft :=
  (stowAxes position).map
    (fun a => { motion := .moveTo a (parkValue a), rate := .normal, purpose := .stow, slot := none, locked := true })

/-- STOW after the holder check (R142). -/
def stow (p : Port) (s : State) : State :=
  let position := s.pose.position
  let ds := stowDrafts position
  if clearToStow position = false then respond p .stow .stowBlocked [0x00] s
  else
    match stowFault position s.pose.faulted with
    | some a => respond p .stow .stowBlocked [0x01, axisCode a] s
    | none =>
      if ds = [] then respond p .stow .done [byteOf 0] s
      else if fits ds.length s then
        submit p ds
          (respond p .stow .accepted [byteOf s.exe.nextTag, byteOf ds.length, byteOf (s.exe.queue.length + ds.length)]) s
      else respond p .stow .queueFull [byteOf (freeRoom s)] s

/-- STOW (R142). -/
def execStow (p : Port) (s : State) : Host.Outcome State Fault Refusal :=
  .next (onRequest p .stow (asHolder p .stow true (stow p)) s)

/-! ### PEAK -/

/-- Order 1 of R143: a present pattern or level source that is not one of its values. With both at fault the lower position is
answered, which is the model's choice (log 52). -/
def peakBadValue (q : PeakParams) : Option Nat :=
  if q.pattern.any (fun x => (ScanPattern.ofByte? x.1).isNone) then some 2
  else if q.source.any (fun b => (LevelSource.ofByte? b).isNone) then some 5
  else none

/-- Order 2 of R143: no slot, and the pattern, step size or steps absent. -/
def peakMissing (q : PeakParams) : Option Nat :=
  if q.slot.isSome then none
  else if q.pattern.isNone then some 2
  else if q.stepSize.isNone then some 3
  else if q.steps.isNone then some 4
  else none

/-- Order 3 of R143: a present parameter outside its range. With more than one at fault the lowest position is answered, which
is the model's choice (log 52). -/
def peakOutOfRange (q : PeakParams) : Option Nat :=
  if q.slot.any (fun n => 47 < n) then some 1
  else if q.pattern.any (fun x => x.1 == 0x01 && (x.2 < 2 || 16 < x.2)) then some 2
  else if q.stepSize.any (fun n => n < 5 || 200 < n) then some 3
  else if q.steps.any (fun n => 256 < n) then some 4
  else if q.dwell.any (fun n => n < 100 || 2000 < n) then some 6
  else if q.block.any (fun n => 32 < n) then some 7
  else none

/-- A step count: 0 means 256 (R144). -/
def stepCount (n : Nat) : Nat := if n = 0 then 256 else n

/-- The parameters of a scan without a record: SPIRAL, and the configured values (R144). Pattern, step size and steps are
present in a PEAK without a slot (R143). -/
def settingsScan (settings : SettingValues) : ScanParams :=
  { pattern := .spiral, rowLength := 0, stepSize := 0, steps := 0, source := defaultSource settings,
    dwell := settings.dwell, block := settings.block.toNat }

/-- The parameters given in PEAK over those of the record or the settings (R144). -/
def peakOver (q : PeakParams) (base : ScanParams) : ScanParams :=
  { pattern := (q.pattern.bind (fun x => ScanPattern.ofByte? x.1)).getD base.pattern
    rowLength := (q.pattern.map Prod.snd).getD base.rowLength
    stepSize := q.stepSize.getD base.stepSize
    steps := (q.steps.map stepCount).getD base.steps
    source := (q.source.bind LevelSource.ofByte?).getD base.source
    dwell := (q.dwell.map Int.ofNat).getD base.dwell
    block := q.block.getD base.block }

/-- The parameters as ACCEPTED carries them (R144, log 29). -/
def scanParamBytes (q : ScanParams) : List Byte :=
  q.pattern.code :: byteOf q.rowLength :: byteOf q.stepSize :: intBytes q.steps ++ q.source.code :: intBytes q.dwell
    ++ [byteOf q.block]

/-- Places the SCAN entry of a PEAK (R144). -/
def placeScan (p : Port) (r : Request) (slot : Option Nat) (q : ScanParams) (s : State) : State :=
  if fits 1 s then
    submit p [scanDraft slot q]
      (respond p r .accepted (byteOf s.exe.nextTag :: byteOf (s.exe.queue.length + 1) :: scanParamBytes q)) s
  else respond p r .queueFull [byteOf (freeRoom s)] s

/-- The build of a PEAK that has passed orders 1 to 3 (R143, R144). -/
def buildPeak (p : Port) (q : PeakParams) (s : State) : State :=
  match q.slot with
  | none => placeScan p (.peak q) none (peakOver q (settingsScan s.settings.inForce)) s
  | some slot =>
    match slotRefusal slot s.store with
    | some answer => respond p (.peak q) answer.1 answer.2 s
    | none =>
      match s.store.committedSite slot with
      | some site => placeScan p (.peak q) (some slot) (peakOver q (recordScan site s.settings.inForce)) s
      | none => respond p (.peak q) .noSite [] s

/-- PEAK after the holder check (R143). -/
def peak (p : Port) (q : PeakParams) (s : State) : State :=
  match peakBadValue q, peakMissing q, peakOutOfRange q with
  | some k, _, _ => respond p (.peak q) .badRequest [byteOf k] s
  | none, some k, _ => respond p (.peak q) .badRequest [byteOf k] s
  | none, none, some k => respond p (.peak q) .outOfRange [byteOf k] s
  | none, none, none => buildPeak p q s

/-- PEAK (R143). -/
def execPeak (p : Port) (params : PeakParams) (s : State) : Host.Outcome State Fault Refusal :=
  .next (onRequest p (.peak params) (asHolder p (.peak params) true (peak p params)) s)

end Sys2Proof.Machine
end

