-- ==== Sys2Proof/Machine/Scanning.lean ====
section
/-! DEFINITION. The commands that the Scan Engine takes: the end of a dwell (R148, R149), the level wait (R149), LEVEL REPORT
(R149) and SCAN RESULT (R154). -/

namespace Sys2Proof.Machine

/-- The level source of the active SCAN entry. -/
def activeSource (s : State) : Option LevelSource :=
  match activeEntry s with
  | some e =>
    match e.motion with
    | .scan q => some q.source
    | _ => none
  | none => none

/-- The phase of the running scan, while its entry is RUNNING. -/
def runningScanPhase (s : State) : Option ScanPhase :=
  if isRunning s then s.scan.scan.map Scan.phase else none

/-- The dwell has ended: the ANALOG sample, the LINK sample that has arrived since the dwell began, or the level wait
(R148, R149). -/
def endDwell (millivolts : Int) (s : State) : State :=
  match runningScanPhase s, activeSource s, s.scan.report with
  | some .dwell, some .analog, _ => advance (takeSample (analogLevel millivolts) s)
  | some .dwell, some .link, some r =>
    if r.sinceDwell then advance (takeSample r.level s) else updateScan (fun x => { x with phase := .levelWait }) s
  | some .dwell, some .link, none => updateScan (fun x => { x with phase := .levelWait }) s
  | _, _, _ => s

/-- DWELL_END (R148). -/
def execDwellEnd (millivolts : Int) (s : State) : Host.Outcome State Fault Refusal :=
  .next (whenPowered (endDwell millivolts) s)

/-- The level wait expires: the scan ends LEVEL LOST (R149). -/
def expireLevelWait (s : State) : State :=
  match runningScanPhase s with
  | some .levelWait => advance (failActive .levelLost true s)
  | _ => s

/-- LEVEL_WAIT_EXPIRY (R149). -/
def execLevelWaitExpiry (s : State) : Host.Outcome State Fault Refusal := .next (whenPowered expireLevelWait s)

/-- The last LINK report is kept (R149). -/
def keepReport (level : Int) (s : State) : State :=
  s.setScan { s.scan with report := some { level := level, sinceDwell := true } }

/-- A report that arrives in the level wait is the sample (R149). -/
def sampleReport (level : Int) (s : State) : State :=
  match runningScanPhase s with
  | some .levelWait => advance (takeSample level s)
  | _ => s

/-- LEVEL REPORT (R149). -/
def levelReport (p : Port) (level : Int) (s : State) : State :=
  if p ≠ .link then respond p (.levelReport level) .notPermitted [] s
  else if level < -1200 ∨ 0 < level then respond p (.levelReport level) .outOfRange [] s
  else sampleReport level (respond p (.levelReport level) .done [] (keepReport level s))

/-- LEVEL_REPORT (R149). -/
def execLevelReport (p : Port) (level : Int) (s : State) : Host.Outcome State Fault Refusal :=
  .next (onRequest p (.levelReport level) (levelReport p level) s)

/-- The fields of the SCAN RESULT answer: the result, or none (R154, log 28). -/
def scanResultFields (r : Option ScanResult) : List Byte :=
  match r with
  | some x => scanResultBytes x
  | none => []

/-- SCAN_RESULT (R154). -/
def execScanResult (p : Port) (s : State) : Host.Outcome State Fault Refusal :=
  .next (onRequest p .scanResult (fun s => respond p .scanResult .done (scanResultFields s.scan.result) s) s)

end Sys2Proof.Machine
end

