-- ==== Sys2Proof/Machine/Sites.lean ====
section
/-! DEFINITION. The commands that the Site Table Store takes: READ SITE (R119), STAGE SITE (R109, R110), COMMIT SITE (R111),
RETIRE SITE (R115), ERASE TABLE (R117), and the ends of the write engine's operations (R113, R118, R121). -/

namespace Sys2Proof.Machine

/-- Changes the store's slots at one number. -/
def Store.setSlot (t : Store) (n : Nat) (x : Slot) : Store := { t with slots := t.slots.set n x }

/-- TABLE BUSY, carrying the table state (R105). -/
def answerBusy (p : Port) (r : Request) (s : State) : State :=
  respond p r .tableBusy [Engine.tableByte s.store.engine] s

/-! ### READ SITE -/

/-- The fields of the READ SITE answer: the slot state and, unless FREE, the record and the redirection (R119, 9.5). The name
bytes of a DAMAGED slot are those of the 16 places as found, whatever the length found, which is the model's choice
(log 56). -/
def siteFields (x : Slot) : List Byte :=
  match x.state, x.contents with
  | .free, _ => [SlotState.free.code]
  | state, some c => state.code :: siteBytes c.site ++ [c.redirection]
  | state, none => [state.code]

/-- READ SITE (R105, R119). -/
def readSite (p : Port) (slot : Nat) (s : State) : State :=
  if 47 < slot then respond p (.readSite slot) .outOfRange [] s
  else if s.store.engine.erasing then answerBusy p (.readSite slot) s
  else respond p (.readSite slot) .done (siteFields (s.store.slotAt slot)) s

/-- READ_SITE (R119). -/
def execReadSite (p : Port) (slot : Nat) (s : State) : Host.Outcome State Fault Refusal :=
  .next (onRequest p (.readSite slot) (readSite p slot) s)

/-! ### STAGE SITE -/

/-- The staged check: the CRC-16 of the request's body as carried (R110). -/
def stagedCheck (slot : Nat) (fields : SiteFields) : Check := crc16 (requestBody (.stageSite slot fields))

/-- STAGE SITE (R105, R109). -/
def stageSite (p : Port) (slot : Nat) (fields : SiteFields) (s : State) : State :=
  let r := Request.stageSite slot fields
  if 47 < slot then respond p r .outOfRange [] s
  else if s.store.engine.erasing then answerBusy p r s
  else
    match siteFirstOutOfRange fields with
    | some k => respond p r .outOfRange [byteOf k] s
    | none =>
      let check := stagedCheck slot fields
      respond p r .done (wordBytes check ++ [(s.store.slotAt slot).state.code])
        (s.setStore
          { s.store with
            staging := s.store.staging.set p (some { slot := slot, site := siteStored fields, check := check }) })

/-- STAGE_SITE (R109). -/
def execStageSite (p : Port) (slot : Nat) (fields : SiteFields) (s : State) : Host.Outcome State Fault Refusal :=
  .next (onRequest p (.stageSite slot fields) (stageSite p slot fields) s)

/-! ### COMMIT SITE -/

/-- A slot whose write is in flight: recorded WRITING, with the contents being written (R113). -/
def writingSlot (site : SiteFields) (redirection : Byte) : Slot :=
  { state := .writing, recorded := .writing,
    contents := some { site := site, redirection := redirection, check := recordCheck site redirection } }

/-- An accepted commit: the slot becomes WRITING, the staging area empty, and the write begins (R111). -/
def beginCommit (p : Port) (slot : Nat) (site : SiteFields) (s : State) : State :=
  s.setStore
    { (s.store.setSlot slot (writingSlot site 0xFF)) with
      staging := s.store.staging.set p none, engine := .commit slot p }

/-- The orders of R111 after the candidate's check. -/
def commitCandidate (p : Port) (r : Request) (slot : Nat) (c : Candidate) (s : State) : State :=
  if s.store.engine.writing then answerBusy p r s
  else if (s.store.slotAt slot).state ≠ .free then
    respond p r .slotTaken [(s.store.slotAt slot).state.code] s
  else respond p r .accepted [byteOf slot] (beginCommit p slot c.site s)

/-- COMMIT SITE (R105, R111). -/
def commitSite (p : Port) (slot : Nat) (check : Check) (s : State) : State :=
  let r := Request.commitSite slot check
  if 47 < slot then respond p r .outOfRange [] s
  else if s.store.engine.erasing then answerBusy p r s
  else
    match s.store.staging.get p with
    | none => respond p r .nothingStaged [] s
    | some c =>
      if c.slot ≠ slot then respond p r .nothingStaged [] s
      else if check ≠ c.check then respond p r .checkMismatch [] s
      else commitCandidate p r slot c s

/-- COMMIT_SITE (R111). -/
def execCommitSite (p : Port) (slot : Nat) (check : Check) (s : State) : Host.Outcome State Fault Refusal :=
  .next (onRequest p (.commitSite slot check) (commitSite p slot check) s)

/-! ### RETIRE SITE -/

/-- An accepted retire: the cache entry is removed, the slot becomes WRITING and the write begins (R115). -/
def beginRetire (p : Port) (slot : Nat) (redirection : Option Nat) (site : SiteFields) (s : State) : State :=
  let s1 := removeEntry slot .retire none s
  s1.setStore
    { (s1.store.setSlot slot (writingSlot site (optionByte redirection))) with engine := .retire slot p }

/-- The redirection slot that R115 refuses: the slot itself, or one that is not COMMITTED. -/
def badRedirection (slot : Nat) (redirection : Option Nat) (t : Store) : Option SlotState :=
  match redirection with
  | none => none
  | some n => if n = slot ∨ (t.slotAt n).state ≠ .committed then some (t.slotAt n).state else none

/-- The orders of R115. -/
def retireSlot (p : Port) (r : Request) (slot : Nat) (redirection : Option Nat) (s : State) : State :=
  if s.store.engine.writing then answerBusy p r s
  else
    match s.store.committedSite slot with
    | none => respond p r .notCommitted [(s.store.slotAt slot).state.code] s
    | some site =>
      match badRedirection slot redirection s.store with
      | some state => respond p r .badRedirection [state.code] s
      | none => respond p r .accepted [byteOf slot, optionByte redirection] (beginRetire p slot redirection site s)

/-- RETIRE SITE (R105, R115). -/
def retireSite (p : Port) (slot : Nat) (redirection : Option Nat) (s : State) : State :=
  let r := Request.retireSite slot redirection
  if 47 < slot ∨ redirection.any (fun n => 47 < n) = true then respond p r .outOfRange [] s
  else if s.store.engine.erasing then answerBusy p r s
  else retireSlot p r slot redirection s

/-- RETIRE_SITE (R115). -/
def execRetireSite (p : Port) (slot : Nat) (redirection : Option Nat) (s : State) : Host.Outcome State Fault Refusal :=
  .next (onRequest p (.retireSite slot redirection) (retireSite p slot redirection) s)

/-! ### ERASE TABLE -/

/-- Whether an entry is a SCAN entry. -/
def Entry.isScan (e : Entry) : Bool := e.motion.axis.isNone

/-- The number of slots that are not FREE (R117). -/
def notFreeCount (t : Store) : Nat := (t.slots.filter (fun x => x.state != .free)).length

/-- ERASE TABLE (R105, R117). -/
def eraseTable (p : Port) (s : State) : State :=
  if p ≠ .rack then respond p .eraseTable .notPermitted [] s
  else if s.store.engine ≠ .idle ∨ s.exe.queue.any Entry.isScan = true then answerBusy p .eraseTable s
  else
    let n := notFreeCount s.store
    let s1 := s.setStore { s.store with engine := .erase p n, staging := Ports.all none }
    respond p .eraseTable .accepted [byteOf n] (flushCache .erase (some .rack) s1)

/-- ERASE_TABLE (R117). -/
def execEraseTable (p : Port) (s : State) : Host.Outcome State Fault Refusal :=
  .next (onRequest p .eraseTable (eraseTable p) s)

/-! ### The ends of operations -/

/-- The slot that a write reaches by its read-back; a bad one finds contents whose check does not match (R112, R113, R116). -/
def writtenSlot (retire : Bool) (readBack : ReadBack) (x : Slot) : Slot :=
  let recorded := if retire then Recorded.retired else Recorded.committed
  match readBack with
  | .good => { state := if retire then .retired else .committed, recorded := recorded, contents := x.contents }
  | .bad site redirection error =>
    { state := .damaged, recorded := recorded,
      contents :=
        some { site := site, redirection := redirection, check := badCheck (recordCheck site redirection) error } }

/-- The write in flight: its slot, its writer, and whether it is a retire (R113). -/
def Engine.write : Engine → Option (Nat × Port × Bool)
  | .commit slot writer => some (slot, writer, false)
  | .retire slot writer => some (slot, writer, true)
  | _ => none

/-- The store when the write in flight has ended (R113). -/
def Store.writeEnded (t : Store) (slot : Nat) (retire : Bool) (readBack : ReadBack) : Store :=
  { (t.setSlot slot (writtenSlot retire readBack (t.slotAt slot))) with engine := .idle }

/-- The redirection that a slot's contents carry, FFh when absent (R121). -/
def redirectionByte (x : Slot) : Byte :=
  match x.contents with
  | some c => c.redirection
  | none => 0xFF

/-- Places a notice on the writer whatever its mask, and on the other ports under theirs (R121). An end of which a port's mask
kept the notice off is not counted in that port's later one, which is the model's choice (log 51). -/
def placeWritten (writer : Port) (body : NoticeBody) (s : State) : State :=
  let place (p : Port) (s : State) : State := if p = writer then placeAlways p body s else placeOn p body s
  place .link (place .rack (place .cab s))

/-- A slot write ends (R113, R121, log 51). -/
def endSlotWrite (readBack : ReadBack) (s : State) : State :=
  match s.store.engine.write with
  | none => s
  | some (slot, writer, retire) =>
    let t := s.store.writeEnded slot retire readBack
    placeWritten writer
      (.siteWritten slot (t.slotAt slot).state (if retire then .retire else .commit) writer
        (redirectionByte (s.store.slotAt slot)) 1)
      (s.setStore t)

/-- SLOT_WRITE_END (R113). -/
def execSlotWriteEnd (readBack : ReadBack) (s : State) : Host.Outcome State Fault Refusal :=
  .next (whenPowered (endSlotWrite readBack) s)

/-- The store when the erase has ended: every slot FREE (R118). -/
def Store.erased (t : Store) : Store :=
  { t with slots := List.replicate Config.slotCount Slot.free, engine := .idle }

/-- The table erase ends (R118). -/
def endErase (s : State) : State :=
  match s.store.engine with
  | .erase requester n => placeAll (.tableErased requester n) (s.setStore s.store.erased)
  | _ => s

/-- ERASE_END (R118). -/
def execEraseEnd (s : State) : Host.Outcome State Fault Refusal := .next (whenPowered endErase s)

end Sys2Proof.Machine
end

