-- ==== Sys2Proof/Machine/CacheRequests.lean ====
section
/-! DEFINITION. The commands that the Solution Cache takes: INVALIDATE SITE (R132), FLUSH CACHE (R131), READ CACHE (R133), and the
inclinometer sample that it compares (R8, R130). -/

namespace Sys2Proof.Machine

/-- INVALIDATE SITE (R132). -/
def invalidateSite (p : Port) (slot : Nat) (s : State) : State :=
  let r := Request.invalidateSite slot
  if p = .cab then respond p r .notPermitted [] s
  else if 47 < slot then respond p r .outOfRange [] s
  else
    respond p r .done [boolByte (cacheEntry s.cache slot).isSome] (removeEntry slot .invalidate (some p) s)

/-- INVALIDATE_SITE (R132). -/
def execInvalidateSite (p : Port) (slot : Nat) (s : State) : Host.Outcome State Fault Refusal :=
  .next (onRequest p (.invalidateSite slot) (invalidateSite p slot) s)

/-- FLUSH CACHE (R131). -/
def flushOnRequest (p : Port) (s : State) : State :=
  respond p .flushCache .done [byteOf s.cache.entries.length] (flushCache .flush (some p) s)

/-- FLUSH_CACHE (R131). -/
def execFlushCache (p : Port) (s : State) : Host.Outcome State Fault Refusal :=
  .next (onRequest p .flushCache (flushOnRequest p) s)

/-- READ_CACHE (R133, R160). -/
def execReadCache (p : Port) (s : State) : Host.Outcome State Fault Refusal :=
  .next (onRequest p .readCache (fun s => respondParts p .readCache .done (cacheResponse s.cache) s) s)

/-- A sample replaces the most recent one (R8). -/
def recordLevel (sample : Level) (s : State) : State := s.setPose { s.pose with level := limitLevel sample }

/-- INCLINOMETER_SAMPLE: the sample is recorded and compared with the level reference (R8, R130). -/
def execInclinometerSample (sample : Level) (s : State) : Host.Outcome State Fault Refusal :=
  .next (whenPowered (fun s => compareLevel (recordLevel sample s)) s)

end Sys2Proof.Machine
end

