-- ==== Sys2Proof/Machine/Lines.lean ====
section
/-! DEFINITION. The commands that the Safety Monitor takes: the emergency stop (R101, R102), the park brake (R95, R99), and the
anemometer (R89, R90, R92, R93). -/

namespace Sys2Proof.Machine

/-! ### The emergency stop -/

/-- Records the ESTOP line. -/
def setEstop (asserted : Bool) (s : State) : State := s.setSafe { s.safe with estop := asserted }

/-- ESTOP is asserted: the drives stop at once, and the reason is added (R101). -/
def takeEstop (s : State) : State := addReason .estop (stopAxes (Axes.all true) (setEstop true s))

/-- ESTOP_ASSERTED (R101); an assertion of a line already asserted is not an event (R88). -/
def execEstopAsserted (s : State) : Host.Outcome State Fault Refusal :=
  .next (whenPowered (fun s => if s.safe.estop then s else takeEstop s) s)

/-- ESTOP_NEGATED: the line state is recorded; no reason is removed (R102). -/
def execEstopNegated (s : State) : Host.Outcome State Fault Refusal := .next (whenPowered (setEstop false) s)

/-! ### The park brake -/

/-- Records the PARK line. -/
def setPark (asserted : Bool) (s : State) : State := s.setSafe { s.safe with park := asserted }

/-- PARK is negated: the heading unknown, the cache flushed, the park rule (R95). -/
def takeParkNegation (s : State) : State :=
  let s1 := flushCache .park none ((setPark false s).setHeading none)
  parkRule s1.pose.position false s1

/-- PARK_NEGATED (R95); a negation of a line already negated is not an event (R88). -/
def execParkNegated (s : State) : Host.Outcome State Fault Refusal :=
  .next (whenPowered (fun s => if s.safe.park then takeParkNegation s else s) s)

/-- The set without the three reasons that an assertion of PARK removes (R43). -/
def Reasons.withoutPark (r : Reasons) : Reasons :=
  { r with interlock := false, stowBlocked := false, stowFailed := false }

/-- The removals of an assertion of PARK, one change of the set (R43, R99, log 24). -/
def dropParkReasons (s : State) : State :=
  if s.arb.reasons.withoutPark = s.arb.reasons then s
  else placeCondition .lockout (s.setArb { s.arb with reasons := s.arb.reasons.withoutPark })

/-- PARK is asserted: the reasons leave the set with the effects of R43, and the PARK cause is cleared (R99). -/
def takeParkAssertion (s : State) : State :=
  clearParkAlarm (afterRemoval (dropParkReasons (setPark true s)))

/-- PARK_ASSERTED (R99). -/
def execParkAsserted (s : State) : Host.Outcome State Fault Refusal :=
  .next (whenPowered (fun s => if s.safe.park then s else takeParkAssertion s) s)

/-! ### The anemometer -/

/-- ANEMOMETER_PULSE: counted in the current interval (R89). -/
def execAnemometerPulse (s : State) : Host.Outcome State Fault Refusal :=
  .next
    (whenPowered
      (fun s => s.setSafe { s.safe with pulses := { s.safe.pulses with current := s.safe.pulses.current + 1 } }) s)

/-- The wind speed of N pulses in 3 s with P tenths of a pulse per metre: 12 N / P, rounded with a half upward and limited to
200 (R89). -/
def windSpeed (pulses perMetre : Nat) : Nat := min 200 ((24 * pulses + perMetre) / (2 * perMetre))

/-- The current count is closed: the sum of the last three (R89). -/
def Pulses.sum (q : Pulses) : Nat := q.current + q.last + q.beforeLast

/-- The counts after an interval is closed (R89). -/
def Pulses.closed (q : Pulses) : Pulses := { current := 0, last := q.current, beforeLast := q.last }

/-- Wind class, calm count and ease count (R90). -/
structure WindState where
  windClass : WindClass
  calm : Nat
  ease : Nat
deriving DecidableEq, Repr

/-- A class entered: both counts are set to 0 (R90). -/
def WindState.entered (c : WindClass) : WindState := { windClass := c, calm := 0, ease := 0 }

/-- The class rule (R90). -/
def classRule (w : WindState) (speed : Nat) : WindState :=
  match w.windClass with
  | .normal => if 65 ≤ speed then .entered .limit else if 40 ≤ speed then .entered .caution else w
  | .caution =>
    if 65 ≤ speed then .entered .limit
    else if 32 ≤ speed then { w with calm := 0 }
    else if 30 ≤ w.calm + 1 then .entered .normal
    else { w with calm := w.calm + 1 }
  | .limit =>
    if 55 ≤ speed then { w with ease := 0 }
    else if 60 ≤ w.ease + 1 then .entered .caution
    else { w with ease := w.ease + 1 }

/-- The offer of a wind lowering on entry into LIMIT with the mast above 3,000 mm (R93, R103). While SAFETY waits for the boundary
of a lowering that failed, for which the table of R93 has no row, a new group is taken at once: the model's choice (log 54). -/
def offerLowering (s : State) : State :=
  match s.arb.auth, s.safe.group with
  | .manual, _ => raiseWindAlarm s
  | .lockout, _ => raiseWindAlarm s
  | _, some .windLowering => s
  | _, _ => if holdsParkStow s then raiseWindAlarm s else takeSafety .windLowering windLoweringDrafts s

/-- What a change of class brings: the WIND notice, then the lowering or the end of the WIND cause (R92, R93, R100,
log 38). -/
def windChanged (previous : WindClass) (s : State) : State :=
  let s1 :=
    placeAll (.wind s.safe.windClass previous s.safe.speed (windCeiling s) s.pose.position.mast) s
  if s.safe.windClass = .limit then
    if 3000 < s.pose.position.mast then offerLowering s1 else s1
  else if previous = .limit then clearWindAlarm s1
  else s1

/-- A wind sample: the interval is closed, the speed computed, the class rule applied (R89, R90). -/
def sampleWind (s : State) : State :=
  let m := s.safe
  let speed := windSpeed m.pulses.sum s.settings.inForce.pulses.toNat
  let w := classRule { windClass := m.windClass, calm := m.calm, ease := m.ease } speed
  let s1 :=
    s.setSafe
      { m with
        pulses := m.pulses.closed, speed := speed, windClass := w.windClass, calm := w.calm, ease := w.ease }
  if w.windClass = m.windClass then s1 else windChanged m.windClass s1

/-- WIND_SAMPLE (R89). -/
def execWindSample (s : State) : Host.Outcome State Fault Refusal := .next (whenPowered sampleWind s)

end Sys2Proof.Machine
end

