-- ==== Sys2Proof/Machine/SupplyLine.lean ====
section
/-! DEFINITION. The commands of supply suspension: SUPPLY OK (R70 to R72), the settle timer (R74) and the suspension limit
(R75). -/

namespace Sys2Proof.Machine

/-- Records the SUPPLY OK line and sets the supply condition with its settle timer (R70). -/
def setSupply (asserted : Bool) (supply : Supply) (settle : Bool) (s : State) : State :=
  (s.setSafe { s.safe with supplyOk := asserted }).setExe { s.exe with supply := supply, settle := settle }

/-- SUPPLY OK is negated: ABSENT, and a RUNNING entry is suspended (R70 to R72). -/
def takeSupplyLoss (s : State) : State :=
  let s1 := setSupply false .absent false s
  if isRunning s1 then advance (suspendOrAbandon s1) else s1

/-- SUPPLY_OK_NEGATED (R71). -/
def execSupplyOkNegated (s : State) : Host.Outcome State Fault Refusal :=
  .next (whenPowered (fun s => if s.safe.supplyOk then takeSupplyLoss s else s) s)

/-- SUPPLY OK is asserted: SETTLING if the condition is ABSENT (R70). -/
def takeSupplyReturn (s : State) : State :=
  if s.exe.supply = .absent then setSupply true .settling true s else setSupply true s.exe.supply s.exe.settle s

/-- SUPPLY_OK_ASSERTED (R70). -/
def execSupplyOkAsserted (s : State) : Host.Outcome State Fault Refusal :=
  .next (whenPowered (fun s => if s.safe.supplyOk then s else takeSupplyReturn s) s)

/-- The settle timer expires: AVAILABLE, and a SUSPENDED entry restarts (R74). -/
def expireSettle (suspended : Nat) (s : State) : State :=
  if s.exe.settle then
    let s1 := s.setExe { s.exe with supply := .available, settle := false }
    if isSuspended s1 then advance (restartActive suspended s1) else s1
  else s

/-- SETTLE_TIMER_EXPIRY (R74). -/
def execSettleTimerExpiry (suspended : Nat) (s : State) : Host.Outcome State Fault Refusal :=
  .next (whenPowered (expireSettle suspended) s)

/-- The suspension timer reaches its limit: the entry fails ABANDONED SUPPLY (R75). -/
def expireSuspension (s : State) : State :=
  if isSuspended s then advance (failActive .abandonedSupply true s) else s

/-- SUSPENSION_LIMIT_EXPIRY (R75). -/
def execSuspensionLimitExpiry (s : State) : Host.Outcome State Fault Refusal := .next (whenPowered expireSuspension s)

end Sys2Proof.Machine
end

