-- ==== Sys2Proof/Machine/Crank.lean ====
section
/-! DEFINITION. The commands of the hand crank: MANUAL REQ asserted (R80 to R82) and negated (R82, R85). -/

namespace Sys2Proof.Machine

/-- Records the MANUAL REQ line. -/
def setManualReq (asserted : Bool) (s : State) : State := s.setSafe { s.safe with manualReq := asserted }

/-- MANUAL_REQ_ASSERTED (R80, R81). -/
def execManualReqAsserted (s : State) : Host.Outcome State Fault Refusal :=
  .next (whenPowered (fun s => if s.safe.manualReq then s else takeManualRequest (setManualReq true s)) s)

/-- The key is turned back in MANUAL: the grant is negated, the full reading is taken, and the end of the crank waits for
rest (R85). -/
def endCrank (reading : Reading) (s : State) : State :=
  let s1 := takeReading reading (s.setArb { s.arb with grant := false })
  settleAll (s1.setArb { s1.arb with crankEnd := some (positionsOf reading.counts) })

/-- MANUAL REQ is negated by authority state (R82, R85). -/
def takeManualEnd (reading : Reading) (s : State) : State :=
  match s.arb.auth with
  | .manual => endCrank reading s
  | .manualPending => withdrawManual s
  | _ => s

/-- MANUAL_REQ_NEGATED (R85). -/
def execManualReqNegated (reading : Reading) (s : State) : Host.Outcome State Fault Refusal :=
  .next (whenPowered (fun s => if s.safe.manualReq then takeManualEnd reading (setManualReq false s) else s) s)

end Sys2Proof.Machine
end

