-- ==== Sys2Proof/Machine/SettingsRequests.lean ====
section
/-! DEFINITION. The commands that the Settings Store takes: CONFIGURE and REVERT (R170), the end of a settings write (R170), and
the test of the stored set (R171). -/

namespace Sys2Proof.Machine

/-- The set with one feature's value changed, if the code names a feature and the value lies in its range (R170). -/
def configured (v : SettingValues) (feature : Byte) (x : Int) : Option SettingValues :=
  if feature = 0x01 ∧ 0 ≤ x ∧ x ≤ 255 then some { v with idleTimeout := x }
  else if feature = 0x02 ∧ 0 ≤ x ∧ x ≤ 1 then some { v with levelSource := x }
  else if feature = 0x03 ∧ 100 ≤ x ∧ x ≤ 2000 then some { v with dwell := x }
  else if feature = 0x04 ∧ 0 ≤ x ∧ x ≤ 32 then some { v with block := x }
  else if feature = 0x05 ∧ -1200 ≤ x ∧ x ≤ 0 then some { v with learnThreshold := x }
  else if feature = 0x06 ∧ 2 ≤ x ∧ x ≤ 100 then some { v with pulses := x }
  else if feature = 0x07 ∧ 3000 ≤ x ∧ x ≤ 15000 ∧ x % 10 = 0 then some { v with ceiling := x }
  else if feature = 0x08 ∧ 10 ≤ x ∧ x ≤ 100 then some { v with tolerance := x }
  else if feature = 0x09 ∧ 10 ≤ x ∧ x ≤ 600 then some { v with suspension := x }
  else none

/-- Each value lies in its range (R170, R171). -/
def settingsInRange (v : SettingValues) : Bool :=
  (0 ≤ v.idleTimeout && v.idleTimeout ≤ 255) && (0 ≤ v.levelSource && v.levelSource ≤ 1)
    && (100 ≤ v.dwell && v.dwell ≤ 2000) && (0 ≤ v.block && v.block ≤ 32)
    && (-1200 ≤ v.learnThreshold && v.learnThreshold ≤ 0) && (2 ≤ v.pulses && v.pulses ≤ 100)
    && (3000 ≤ v.ceiling && v.ceiling ≤ 15000 && v.ceiling % 10 == 0) && (10 ≤ v.tolerance && v.tolerance ≤ 100)
    && (10 ≤ v.suspension && v.suspension ≤ 600)

/-- A settings write begins: the values are in force, and the answer waits for the end of the write (R170, log 12). -/
def beginWrite (p : Port) (values : SettingValues) (feature : Byte) (x : Int) (s : State) : State :=
  updatePort p (fun q => { q with inHand := .working })
    (s.setSettings { s.settings with inForce := values, writing := some (feature, x) })

/-- A changed level tolerance is handed to the cache, which compares at once (R130, R170). -/
def toleranceTaken (old : Int) (s : State) : State :=
  if s.settings.inForce.tolerance = old then s else compareLevel s

/-- CONFIGURE (R170). -/
def configure (p : Port) (feature : Byte) (x : Int) (s : State) : State :=
  let r := Request.configure feature x
  if p ≠ .rack then respond p r .notPermitted [] s
  else
    match configured s.settings.inForce feature x with
    | none => respond p r .unsupported [] s
    | some v =>
      let s1 := beginWrite p v feature x s
      if feature = 0x08 then compareLevel s1 else s1

/-- CONFIGURE (R170). -/
def execConfigure (p : Port) (feature : Byte) (value : Int) (s : State) : Host.Outcome State Fault Refusal :=
  .next (onRequest p (.configure feature value) (configure p feature value) s)

/-- REVERT (R170). -/
def revert (p : Port) (s : State) : State :=
  if p ≠ .rack then respond p .revert .notPermitted [] s
  else toleranceTaken s.settings.inForce.tolerance (beginWrite p SettingValues.defaults 0x7F 0 s)

/-- REVERT (R170). -/
def execRevert (p : Port) (s : State) : Host.Outcome State Fault Refusal :=
  .next (onRequest p .revert (revert p) s)

/-- The set as written, with its check (R170, R171). -/
def storedOf (v : SettingValues) : StoredSettings := { values := v, check := settingsCheck v }

/-- The settings when the write in flight has ended (R170). -/
def Settings.written (t : Settings) : Settings := { t with stored := storedOf t.inForce, writing := none }

/-- The settings write ends: DONE to RACK with the feature code and the value (R170). -/
def endSettingsWrite (s : State) : State :=
  match s.settings.writing with
  | none => s
  | some (feature, x) =>
    respond .rack (.configure feature x) .done (feature :: intBytes x) (s.setSettings s.settings.written)

/-- SETTINGS_WRITE_END (R170). -/
def execSettingsWriteEnd (s : State) : Host.Outcome State Fault Refusal := .next (whenPowered endSettingsWrite s)

/-- Whether the stored set passes its test (R171). -/
def StoredSettings.good (t : StoredSettings) : Bool := t.check == settingsCheck t.values && settingsInRange t.values

/-- The settings after a cold start: the stored values, or the defaults found defaulted (R171). -/
def settingsLoaded (t : StoredSettings) : Settings :=
  { inForce := if t.good then t.values else SettingValues.defaults, defaulted := !t.good, stored := t, writing := none }

end Sys2Proof.Machine
end

