-- ==== Sys2Proof/Machine/Starts.lean ====
section
/-! DEFINITION. Starts and power: the cold start (R167), the warm start (R169), the end of a start (R168), the examination of the
slots (R122), and what a power loss leaves (R113, R171). A start is one step (log 39). -/

namespace Sys2Proof.Machine

/-! ### The end of a start (R168) -/

/-- Step 1: fault lines found asserted set their axes FAULTED (R6, R168). -/
def foundFaults (lines : Axes Bool) (s : State) : State :=
  let f := s.pose.faulted
  s.setPose
    { s.pose with
      faultLine := lines
      faulted :=
        { mast := f.mast || lines.mast, pan := f.pan || lines.pan, tilt := f.tilt || lines.tilt, pol := f.pol || lines.pol } }

/-- Step 2: the supply condition from the line as found (R70, R168). -/
def foundSupply (ok : Bool) (s : State) : State := setSupply ok (if ok then .available else .absent) false s

/-- The number of DAMAGED slots (R168). -/
def damagedCount (t : Store) : Nat := (t.slots.filter (fun x => x.state == .damaged)).length

/-- The notice of step 3 (R168). -/
def startedBody (cause : StartCause) (s : State) : NoticeBody :=
  .started cause (!mastStowed s.pose.position) (damagedCount s.store) s.arb.reasons

/-- A port interface as a start leaves it: every list empty but for STARTED, every kind on, HUNTING (R161, R163, R168). -/
def startedPort (body : NoticeBody) (ready : Bool) : PortState :=
  { PortState.start with output := [.notice body 0], ready := ready }

/-- Step 3: STARTED on each empty output list (R168). -/
def announce (cause : StartCause) (ready : Ports Bool) (s : State) : State :=
  let body := startedBody cause s
  s.setPorts
    { cab := startedPort body ready.cab, rack := startedPort body ready.rack, link := startedPort body ready.link }

/-- Step 4: the SETTINGS notice (R168). -/
def noteDefaulted (s : State) : State := if s.settings.defaulted then placeCondition .settings s else s

/-- Step 5, ESTOP as found (R88, R168). -/
def foundEstop (asserted : Bool) (s : State) : State := if asserted then takeEstop s else setEstop false s

/-- Step 5, PARK as found, with the flush for a negation seen during a warm start (R88, R168). -/
def foundPark (asserted negatedDuring : Bool) (s : State) : State :=
  if asserted then
    let s1 := setPark true s
    if negatedDuring then flushCache .park none s1 else s1
  else takeParkNegation s

/-- Step 5, the WIND alarm test (R100, R168). -/
def foundWind (s : State) : State :=
  if s.safe.windClass = .limit ∧ 3000 < s.pose.position.mast then raiseWindAlarm s else s

/-- Step 5: a kept reason makes the state LOCKOUT (R168). -/
def keptLockout (s : State) : State :=
  if s.arb.reasons.isEmpty then s else s.setArb { s.arb with auth := .lockout }

/-- Step 6: MANUAL REQ as found (R79, R168). -/
def foundManual (asserted : Bool) (s : State) : State :=
  if asserted then takeManualRequest (setManualReq true s) else setManualReq false s

/-- Records the RESET line. -/
def setResetLine (asserted : Bool) (s : State) : State := s.setSafe { s.safe with resetLine := asserted }

/-- The end of a cold or warm start (R168). -/
def endOfStart (cause : StartCause) (negatedDuring : Bool) (i : StartInputs) (s : State) : State :=
  let s1 := announce cause i.ready (foundSupply i.supplyOk (foundFaults i.faultLine (setResetLine i.resetLine s)))
  foundManual i.manualReq
    (foundWind (foundPark i.park negatedDuring (foundEstop i.estop (keptLockout (noteDefaulted s1)))))

/-! ### The cold start (R167) -/

/-- The slot state that a cold start sets (R122). -/
def examined (x : Slot) : Slot :=
  match x.recorded, x.contents with
  | .free, _ => Slot.free
  | .committed, some c => { x with state := if c.good then .committed else .damaged }
  | .retired, some c => { x with state := if c.good then .retired else .damaged }
  | _, _ => { x with state := .damaged }

/-- Steps 1 to 5 of the cold start (R167). -/
def coldState (i : StartInputs) (s : State) : State :=
  { pending := s.pending
    powered := true
    ports := Ports.all PortState.start
    arb := Arbiter.start
    exe := Executor.start
    pose :=
      { counts := i.reading.counts, position := positionsOf i.reading.counts, atRest := i.reading.atRest,
        faulted := Axes.all false, latch := false, level := limitLevel i.level,
        lamp := lampOf (positionsOf i.reading.counts), faultLine := Axes.all false }
    safe := SafetyMonitor.start
    store := { slots := s.store.slots.map examined, staging := Ports.all none, engine := .idle }
    cache := Cache.start
    heading := none
    scan := ScanEngine.start
    settings := settingsLoaded s.settings.stored }

/-- The cold start (R167). -/
def coldStart (i : StartInputs) (s : State) : State := endOfStart .cold false i (coldState i s)

/-- POWER_APPLIED (R167, log 7). -/
def execPowerApplied (inputs : StartInputs) (s : State) : Host.Outcome State Fault Refusal :=
  .next (coldStart inputs s)

/-! ### The warm start (R169) -/

/-- Step 3: the operations in flight run to their ends; no notice and no answer is sent (R123, R169). -/
def finishWrites (readBack : ReadBack) (s : State) : State :=
  let t :=
    match s.store.engine with
    | .idle => s.store
    | .commit slot _ => s.store.writeEnded slot false readBack
    | .retire slot _ => s.store.writeEnded slot true readBack
    | .erase _ _ => s.store.erased
  let q := if s.settings.writing.isSome then s.settings.written else s.settings
  (s.setStore { t with staging := Ports.all none }).setSettings q

/-- The arbiter as a warm start resets it: the reasons are kept (R20, R169). -/
def warmArbiter (a : Arbiter) : Arbiter := { Arbiter.start with reasons := a.reasons }

/-- The executor as a warm start resets it: every drive in the stopped condition (R3, R46, R70). -/
def warmExecutor (e : Executor) : Executor :=
  { Executor.start with
    drives :=
      { mast := e.drives.mast.stop, pan := e.drives.pan.stop, tilt := e.drives.tilt.stop, pol := e.drives.pol.stop } }

/-- The alarm causes as a warm start empties them, with the running group (R87, R100). -/
def warmMonitor (m : SafetyMonitor) : SafetyMonitor :=
  { m with group := none, alarmPark := false, alarmWind := false, alarm := false }

/-- Steps 1 to 5 of the warm start (R169). -/
def warmState (i : StartInputs) (s : State) : State :=
  let s1 := recordReading i.reading (finishWrites i.readBack s)
  ((((s1.setArb (warmArbiter s1.arb)).setExe (warmExecutor s1.exe)).setSafe (warmMonitor s1.safe)).setHeading none).setScan
    ScanEngine.start

/-- The warm start (R169). -/
def warmStart (cause : StartCause) (i : StartInputs) (s : State) : State :=
  endOfStart cause i.parkNegatedDuring i (warmState i s)

/-- RESET: a line held asserted does not repeat the start (R169). -/
def execReset (inputs : StartInputs) (s : State) : Host.Outcome State Fault Refusal :=
  .next (whenPowered (fun s => if s.safe.resetLine then s else warmStart .warmReset inputs s) s)

/-- RESET_NEGATED (R169). -/
def execResetNegated (s : State) : Host.Outcome State Fault Refusal := .next (whenPowered (setResetLine false) s)

/-- RESTART: from RACK a warm start, which is not answered (R169). -/
def restartFrom (p : Port) (inputs : StartInputs) (s : State) : State :=
  if p = .rack then warmStart .warmRestart inputs s else respond p .restart .notPermitted [] s

/-- RESTART (R169). -/
def execRestart (p : Port) (inputs : StartInputs) (s : State) : Host.Outcome State Fault Refusal :=
  .next (onRequest p .restart (restartFrom p inputs) s)

/-! ### Power loss -/

/-- A slot left recorded WRITING by a power loss, with the contents that the write had reached (R113). Whether their record check
matches is the sender's to say: a loss after the record was written leaves it whole (log 9). -/
def cutWrite (l : PowerLoss) : Slot :=
  { state := .writing, recorded := .writing,
    contents := some { site := l.slotSite, redirection := l.slotRedirection, check := l.slotCheck } }

/-- The slot that an erase was at (R113). -/
def cutErase (edge : EdgeSlot) (x : Slot) : Slot :=
  match edge with
  | .free => Slot.free
  | .asItWas => x
  | .damaged site redirection check =>
    { state := x.state, recorded := .other,
      contents := some { site := site, redirection := redirection, check := check } }

/-- The slots when power is lost (R113). -/
def slotsLeft (l : PowerLoss) (t : Store) : List Slot :=
  match t.engine with
  | .idle => t.slots
  | .commit slot _ => t.slots.set slot (cutWrite l)
  | .retire slot _ => t.slots.set slot (cutWrite l)
  | .erase _ _ =>
    List.replicate (min l.erased t.slots.length) Slot.free
      ++ ((t.slots.drop l.erased).take 1).map (cutErase l.edge) ++ t.slots.drop (l.erased + 1)

/-- The stored settings when power is lost (R171). -/
def storedLeft (l : PowerLoss) (t : Settings) : StoredSettings :=
  match t.writing, l.settings with
  | some _, some (values, error) => { values := values, check := badCheck (settingsCheck values) error }
  | _, _ => t.stored

/-- POWER_LOSS: the controller stops; nonvolatile memory keeps what the operations in flight had reached (R113, R171,
log 6). -/
def losePower (l : PowerLoss) (s : State) : State :=
  (State.off (slotsLeft l s.store) (storedLeft l s.settings)).setPending s.pending

/-- POWER_LOSS (R113). -/
def execPowerLoss (left : PowerLoss) (s : State) : Host.Outcome State Fault Refusal :=
  .next (whenPowered (losePower left) s)

end Sys2Proof.Machine
end

