-- ==== Sys2Proof/Machine/Dispatch.lean ====
section
/-! DEFINITION. The meaning of each command: one arm per constructor of `Instr`. -/

namespace Sys2Proof.Machine

def exec (i : Instr) (s : State) : Host.Outcome State Fault Refusal :=
  match i with
  | .powerApplied inputs => Sys2Proof.Machine.execPowerApplied inputs s
  | .reset inputs => Sys2Proof.Machine.execReset inputs s
  | .restart p inputs => Sys2Proof.Machine.execRestart p inputs s
  | .frameReceived p last => Sys2Proof.Machine.execFrameReceived p last s
  | .frameByteTimeout p => Sys2Proof.Machine.execFrameByteTimeout p s
  | .takeFrame p => Sys2Proof.Machine.execTakeFrame p s
  | .readyChange p asserted => Sys2Proof.Machine.execReadyChange p asserted s
  | .transmitBegin p => Sys2Proof.Machine.execTransmitBegin p s
  | .frameSent p => Sys2Proof.Machine.execFrameSent p s
  | .claim p => Sys2Proof.Machine.execClaim p s
  | .withdraw p => Sys2Proof.Machine.execWithdraw p s
  | .release p => Sys2Proof.Machine.execRelease p s
  | .queueMoves p lock moves => Sys2Proof.Machine.execQueueMoves p lock moves s
  | .aim p slot heading flag => Sys2Proof.Machine.execAim p slot heading flag s
  | .stow p => Sys2Proof.Machine.execStow p s
  | .peak p params => Sys2Proof.Machine.execPeak p params s
  | .halt p => Sys2Proof.Machine.execHalt p s
  | .clearAxis p axis => Sys2Proof.Machine.execClearAxis p axis s
  | .setHeading p value => Sys2Proof.Machine.execSetHeading p value s
  | .readSite p slot => Sys2Proof.Machine.execReadSite p slot s
  | .stageSite p slot fields => Sys2Proof.Machine.execStageSite p slot fields s
  | .commitSite p slot check => Sys2Proof.Machine.execCommitSite p slot check s
  | .retireSite p slot redirection => Sys2Proof.Machine.execRetireSite p slot redirection s
  | .eraseTable p => Sys2Proof.Machine.execEraseTable p s
  | .slotWriteEnd readBack => Sys2Proof.Machine.execSlotWriteEnd readBack s
  | .eraseEnd => Sys2Proof.Machine.execEraseEnd s
  | .invalidateSite p slot => Sys2Proof.Machine.execInvalidateSite p slot s
  | .flushCache p => Sys2Proof.Machine.execFlushCache p s
  | .readCache p => Sys2Proof.Machine.execReadCache p s
  | .levelReport p level => Sys2Proof.Machine.execLevelReport p level s
  | .status p => Sys2Proof.Machine.execStatus p s
  | .identify p => Sys2Proof.Machine.execIdentify p s
  | .scanResult p => Sys2Proof.Machine.execScanResult p s
  | .clearLatches p => Sys2Proof.Machine.execClearLatches p s
  | .clearLockout p => Sys2Proof.Machine.execClearLockout p s
  | .setNotices p mask => Sys2Proof.Machine.execSetNotices p mask s
  | .configure p feature value => Sys2Proof.Machine.execConfigure p feature value s
  | .revert p => Sys2Proof.Machine.execRevert p s
  | .settingsWriteEnd => Sys2Proof.Machine.execSettingsWriteEnd s
  | .estopAsserted => Sys2Proof.Machine.execEstopAsserted s
  | .estopNegated => Sys2Proof.Machine.execEstopNegated s
  | .parkNegated => Sys2Proof.Machine.execParkNegated s
  | .parkAsserted => Sys2Proof.Machine.execParkAsserted s
  | .supplyOkNegated => Sys2Proof.Machine.execSupplyOkNegated s
  | .supplyOkAsserted => Sys2Proof.Machine.execSupplyOkAsserted s
  | .settleTimerExpiry suspended => Sys2Proof.Machine.execSettleTimerExpiry suspended s
  | .suspensionLimitExpiry => Sys2Proof.Machine.execSuspensionLimitExpiry s
  | .manualReqAsserted => Sys2Proof.Machine.execManualReqAsserted s
  | .manualReqNegated reading => Sys2Proof.Machine.execManualReqNegated reading s
  | .faultLineAsserted a => Sys2Proof.Machine.execFaultLineAsserted a s
  | .obstructionEdge => Sys2Proof.Machine.execObstructionEdge s
  | .poseReading reading => Sys2Proof.Machine.execPoseReading reading s
  | .stallWindowExpiry a => Sys2Proof.Machine.execStallWindowExpiry a s
  | .settlingTimeout a => Sys2Proof.Machine.execSettlingTimeout a s
  | .restWatchExpiry => Sys2Proof.Machine.execRestWatchExpiry s
  | .idleTimerExpiry => Sys2Proof.Machine.execIdleTimerExpiry s
  | .inclinometerSample sample => Sys2Proof.Machine.execInclinometerSample sample s
  | .anemometerPulse => Sys2Proof.Machine.execAnemometerPulse s
  | .windSample => Sys2Proof.Machine.execWindSample s
  | .dwellEnd millivolts => Sys2Proof.Machine.execDwellEnd millivolts s
  | .levelWaitExpiry => Sys2Proof.Machine.execLevelWaitExpiry s
  | .faultLineNegated a => Sys2Proof.Machine.execFaultLineNegated a s
  | .resetNegated => Sys2Proof.Machine.execResetNegated s
  | .powerLoss left => Sys2Proof.Machine.execPowerLoss left s
  | .byteReceived p b => Sys2Proof.Machine.execByteReceived p b s

end Sys2Proof.Machine
end

