-- ==== Sys2Proof/Safety.lean ====
section
/-! DEFINITION. What the model is to be trusted for: the invariants that every command keeps, and the words in which the statements
about commands are written (a request that may be taken, an answer placed, the idle timer after a success). -/

namespace Sys2Proof.Machine

/-! ### Words of the statements -/

/-- A request of a port may be taken by its block: the controller runs, and the port has passed this request to its block, or
(the model's choice, log 5) the request comes directly while the port may take a frame (R159) and none waits before it. -/
def takes (p : Port) (r : Request) (s : State) : Prop :=
  s.powered = true ∧ ((s.ports.get p).inHand = .passed r
    ∨ ((s.ports.get p).mayTake = true ∧ (s.ports.get p).receive = []))

/-- The ports with the answer to a request placed: the code plus 80h, the status and the fields of each frame (R160). -/
def answerParts (p : Port) (code : Byte) (status : Status) (parts : List (List Byte)) (ports : Ports PortState) :
    Ports PortState :=
  ports.set p
    { ports.get p with
      inHand := .nothing
      output := (ports.get p).output ++ [.response { code := code + 0x80, status := status, parts := parts }] }

/-- An answer of one frame. -/
def answer (p : Port) (code : Byte) (status : Status) (fields : List Byte) (ports : Ports PortState) : Ports PortState :=
  answerParts p code status [fields] ports

/-- The arbiter after a success answered to a port: the idle timer restarts for the holder in HELD, no handover being deferred
(R36). -/
def idleRestarted (p : Port) (timeout : Int) (a : Arbiter) : Arbiter :=
  if a.holder = some (.port p) ∧ a.auth = .held ∧ a.deferred = none then { a with idle := some timeout } else a

/-- A state with one port's interface replaced. -/
def withPort (p : Port) (q : PortState) (s : State) : State := s.setPorts (s.ports.set p q)

/-- The state that an outcome answers; the state before, where it answers none. -/
def after (s : State) (o : Host.Outcome State Fault Refusal) : State :=
  match o with
  | .next t => t
  | _ => s

/-- A request answered: the answer stands on the sender's port, nothing else changes (R160). -/
def answeredState (p : Port) (r : Request) (status : Status) (fields : List Byte) (s : State) : State :=
  s.setPorts (answer p (requestCode r) status fields s.ports)

/-- A request answered with a success: the idle timer may restart too, nothing else changes (R36). -/
def doneState (p : Port) (r : Request) (status : Status) (fields : List Byte) (s : State) : State :=
  (s.setPorts (answer p (requestCode r) status fields s.ports)).setArb
    (idleRestarted p s.settings.inForce.idleTimeout s.arb)

/-- Every axis is at rest or FAULTED: the at-rest confirmation passes (R34). -/
def atRest (s : State) : Prop := ∀ a : Axis, s.pose.atRest.get a = true ∨ s.pose.faulted.get a = true

/-- The holder check of R21 passes for a request that submits entries. -/
def maySubmit (p : Port) (s : State) : Prop :=
  s.arb.holder = some (.port p) ∧ (s.arb.auth = .held ∨ s.arb.auth = .moving) ∧ s.arb.deferred = none

/-- The arbiter when a port becomes the holder in HELD: its claim leaves the list and the idle timer starts (R24, R29, R33,
R37, R41). -/
def heldBy (p : Port) (s : State) : Arbiter :=
  { s.arb with
    auth := .held, holder := some (.port p), claims := s.arb.claims.filter (fun q => q != p), releaseMark := false,
    idle := some s.settings.inForce.idleTimeout, deferred := none }

/-- The arbiter when authority passes to nobody (R29, R33, R37, R41, R43). -/
def freed (s : State) : Arbiter :=
  { s.arb with auth := .free, holder := none, releaseMark := false, idle := none, deferred := none }

/-- The arbiter with a port's claim joined to the list (R23). -/
def claimed (p : Port) (s : State) : Arbiter := { s.arb with claims := joinClaims p s.arb.claims }

/-- A waiting entry goes on with an entry's locked group: it carries the group, which the first of a run does with its own tag
(R52, log 46). -/
def inGroup (e x : Entry) : Bool := e.group.isSome && x.group == e.group && x.group != some x.tag

/-- The waiting entries that a discard keeps: the members of the active entry's locked group, which stand right behind it
(R52, R64). -/
def groupBehind (e : Entry) (waiting : List Entry) : List Entry := waiting.takeWhile (inGroup e)

/-- The waiting entries that a discard removes (R64). -/
def pastGroup (e : Entry) (waiting : List Entry) : List Entry := waiting.dropWhile (inGroup e)

/-- A request that submits entries (R21). -/
def submits : Request → Bool
  | .queueMoves _ _ => true
  | .aim _ _ _ => true
  | .stow => true
  | .peak _ => true
  | _ => false

/-- A request of the holder that submits nothing (R21). -/
def acts : Request → Bool
  | .halt => true
  | .clearAxis _ => true
  | _ => false

/-- The content of the pending notice of a kind on an output list (R161). -/
def noticeOf (kind : Nat) : List OutItem → Option NoticeBody
  | [] => none
  | .response _ :: rest => noticeOf kind rest
  | .notice body _ :: rest => if body.kind = kind then some body else noticeOf kind rest

/-- The content that a notice has once it is placed: its own, combined with that of the pending one of its kind (R161). -/
def noticed (body : NoticeBody) (before : List OutItem) : NoticeBody :=
  match noticeOf body.kind before with
  | some old => mergeBody old body
  | none => body

/-- A notice was placed on a port: its kind is pending there with its content (R161). -/
def tells (p : Port) (body : NoticeBody) (s t : State) : Prop :=
  noticeOf body.kind (t.ports.get p).output = some (noticed body (s.ports.get p).output)

/-- A notice was placed on a port if its mask admits the kind; else the notices of the kind are as they were (R162). -/
def tellsIf (p : Port) (body : NoticeBody) (s t : State) : Prop :=
  if admits (s.ports.get p).mask body.kind = true then tells p body s t
  else noticeOf body.kind (t.ports.get p).output = noticeOf body.kind (s.ports.get p).output

/-- A notice was placed on each port whose mask admits its kind, and on no other (R162). -/
def tellsAll (body : NoticeBody) (s t : State) : Prop := ∀ p : Port, tellsIf p body s t

/-- The responses and the notices of an output list, in their order, but for the notices of some kinds. -/
def besides (kinds : List Nat) (l : List OutItem) : List OutItem :=
  l.filter
    (fun i =>
      match i with
      | .response _ => true
      | .notice body _ => !kinds.contains body.kind)

/-- Nothing outside the ports, the arbiter, the executor, the Scan Engine, the cache and the Safety Monitor's group and alarm
changes: the frame of the commands that only move authority and entries. -/
structure Outside (s t : State) : Prop where
  pending : t.pending = s.pending
  powered : t.powered = s.powered
  pose : t.pose = s.pose
  store : t.store = s.store
  heading : t.heading = s.heading
  settings : t.settings = s.settings
  sensed :
    t.safe =
      { s.safe with
        group := t.safe.group, alarmPark := t.safe.alarmPark, alarmWind := t.safe.alarmWind, alarm := t.safe.alarm }

/-- The output lists alone change, and in each the notices of the kinds told on its port alone: its responses and its other
notices stand as they stood. -/
def onlyOutputs (told : Port → List Nat) (s t : State) : Prop :=
  ∃ cab rack link : List OutItem,
    besides (told .cab) cab = besides (told .cab) s.ports.cab.output
      ∧ besides (told .rack) rack = besides (told .rack) s.ports.rack.output
      ∧ besides (told .link) link = besides (told .link) s.ports.link.output
      ∧ t = s.setPorts
        { cab := { s.ports.cab with output := cab }, rack := { s.ports.rack with output := rack },
          link := { s.ports.link with output := link } }

/-- The responses of every port, and its notices but for those of some kinds, stand as they stood. -/
def sameBesides (kinds : List Nat) (s t : State) : Prop :=
  ∀ p : Port, besides kinds (t.ports.get p).output = besides kinds (s.ports.get p).output

/-- The answer to a request has joined the sender's output list (R160); but for it, and for the notices of the kinds told, the
output lists stand as they stood. -/
def responds (told : List Nat) (p : Port) (r : Request) (status : Status) (fields : List Byte) (s t : State) : Prop :=
  ∀ q : Port, besides told (t.ports.get q).output =
    besides told (s.ports.get q).output
      ++ if q = p then [.response { code := requestCode r + 0x80, status := status, parts := [fields] }] else []

/-- The axes named are put into the stopped condition, the other drives are left as they stand (R3). -/
def stopsOnly (axes : Axes Bool) (s t : State) : Prop :=
  ∀ a : Axis, t.exe.drives.get a = if axes.get a = true then (s.exe.drives.get a).stop else s.exe.drives.get a

/-- A scan that had begun has ended with a reason, having learned nothing; without one the Scan Engine is unchanged
(R153 to R155). -/
def scanEnds (why : EndReason) (s t : State) : Prop :=
  t.scan =
    match s.scan.scan, s.scan.result with
    | some _, some r =>
      { s.scan with scan := none, result := some { r with endReason := some why, learned := false } }
    | _, _ => s.scan

/-- Every axis that an entry drove is at rest or FAULTED (R62). -/
def restedOn (axes : Axes Bool) (s : State) : Prop :=
  ∀ a : Axis, axes.get a = true → s.pose.atRest.get a = true ∨ s.pose.faulted.get a = true

/-- The active entry, the oldest of the queue, with what the executor holds of it. -/
def activeIs (x : Active) (e : Entry) (rest : List Entry) (s : State) : Prop :=
  s.exe.active = some x ∧ s.exe.closing = none ∧ s.exe.queue = e :: rest

/-- No handover is deferred and no crank is ending: the at-rest flags are waited for by no more than a closing. -/
def nothingWaits (s : State) : Prop := s.arb.deferred = none ∧ s.arb.crankEnd = none

/-- The safety group whose entry has failed, and whose boundary is not yet taken (R61, R62). -/
def closingFailed (s : State) : Option SafetyGroup := s.exe.closing.bind (fun c => c.ending.failed)

/-! ### Boundaries -/

/-- The arbiter when the crank is granted (R80 to R82). -/
def crankGranted (s : State) : Arbiter :=
  { s.arb with
    auth := .manual, holder := none, releaseMark := false, idle := none, grant := true, deferred := none, crankEnd := none }

/-- The arbiter when LOCKOUT is entered with a set of reasons (R41, R42). -/
def lockedOut (reasons : Reasons) (s : State) : Arbiter :=
  { s.arb with
    auth := .lockout, holder := none, claims := [], releaseMark := false, idle := none, reasons := reasons, grant := false,
    deferred := none, crankEnd := none }

/-- A handover from the port p in YIELDING is made: the highest claim receives authority with the reason RELEASED or PREEMPTED, or
nobody does if p has released, or p keeps it (R33). -/
structure YieldMade (p : Port) (s t : State) : Prop where
  given : ∀ (q : Port) (others : List Port) (why : AuthReason), s.arb.claims = q :: others → p ≠ q →
    why = (if s.arb.releaseMark = true then .released else .preempted) →
      t.arb = heldBy q s ∧ tells q (.authority .granted (some why) 0 0) s t ∧ tells p (.authority .lost (some why) 0 0) s t
  freed : s.arb.claims = [] → s.arb.releaseMark = true →
    t.arb = freed s ∧ tells p (.authority .lost (some .released) 0 0) s t
  retained : s.arb.claims = [] → s.arb.releaseMark = false →
    t.arb = heldBy p s ∧ tells p (.authority .retained none 0 0) s t

/-- The arbiter has taken the boundary of an ending of the port p, the queue being empty: in MOVING the port stands in HELD, in
YIELDING authority is handed on, once the axes are at rest if a claim is to receive it, and in MANUAL PENDING the crank is granted
(R32, R33, R34, R82). -/
structure Boundary (p : Port) (halted discarded : Nat) (s t : State) : Prop where
  moving : s.arb.auth = .moving → t.arb = heldBy p s
  yields : s.arb.auth = .yielding → s.arb.claims = [] ∨ atRest s → YieldMade p s t
  waits : s.arb.auth = .yielding → s.arb.claims ≠ [] → ¬atRest s →
    t.arb = { s.arb with deferred := some .yield, idle := none }
  crank : s.arb.auth = .manualPending →
    t.arb = crankGranted s ∧ tellsAll (.manualBegun .manualPending (some (.port p)) 0 0) s t
      ∧ (s.arb.releaseMark = false → tells p (.authority .lost (some .manual) halted discarded) s t)

/-- SAFETY gives authority back with no reason in the set: to the highest claim, once the axes are at rest, or to nobody (R34,
R41). -/
structure GivenBack (s t : State) : Prop where
  given : ∀ (q : Port) (others : List Port), s.arb.claims = q :: others → atRest s →
    t.arb = heldBy q s ∧ tells q (.authority .granted (some .safety) 0 0) s t
  waits : s.arb.claims ≠ [] → ¬atRest s → t.arb = { s.arb with deferred := some .safetyEnd, idle := none }
  freed : s.arb.claims = [] → t.arb = freed s

/-- The arbiter has taken the boundary of a safety group, which leaves this set of reasons: with a reason LOCKOUT is entered and
every claim refused, else authority is given back; in MANUAL PENDING the crank is then granted (R41, R45, R82). -/
structure SafetyBoundary (left : Reasons) (s t : State) : Prop where
  reasons : t.arb.reasons = left
  group : t.safe.group = none
  told : left ≠ s.arb.reasons →
    tellsAll (.condition .lockout left s.pose.latch t.safe.alarmPark t.safe.alarmWind s.settings.defaulted) s t
  locks : s.arb.auth = .moving → left ≠ Reasons.empty → t.arb = lockedOut left s
  back : s.arb.auth = .moving → left = Reasons.empty → GivenBack s t
  crank : s.arb.auth = .manualPending → left = Reasons.empty →
    t.arb = crankGranted s ∧ tellsAll (.manualBegun .manualPending (some .safety) 0 0) s t
  locksCrank : s.arb.auth = .manualPending → left ≠ Reasons.empty →
    t.arb = { lockedOut left s with auth := .manual, grant := true } ∧ tellsAll (.manualBegun .lockout none 0 0) s t
  refused : left ≠ Reasons.empty → s.arb.auth = .moving ∨ s.arb.auth = .manualPending →
    ∀ q, q ∈ s.arb.claims → tells q .claimRefused s t

/-- The reasons that the end of a park stow with PARK negated leaves: INTERLOCK joins them if it completed, STOW FAILED if an
entry failed; no other end of a group adds one (R94, R98). -/
def reasonsAfter (group : Option SafetyGroup) (completed : Bool) (s : State) : Reasons :=
  if group = some .parkStow ∧ s.safe.park = false then
    if completed = true then { s.arb.reasons with interlock := true } else { s.arb.reasons with stowFailed := true }
  else s.arb.reasons

/-- The active entry has failed: it and every waiting entry have left the queue, its axes are stopped, its scan has ended, a
port of origin whose mask admits it is told, and the ending is reported when its axes have come to rest, as a boundary that
reports no discards again (R32, R33, R41, R61, R62, R68, R82). -/
structure Failed (e : Entry) (waiting : Nat) (why : EndReason) (s t : State) : Prop where
  queue : t.exe.queue = []
  active : t.exe.active = none
  suspension : t.exe.suspension = none
  kept : t.exe.nextTag = s.exe.nextTag ∧ t.exe.supply = s.exe.supply ∧ t.exe.settle = s.exe.settle
  drives : stopsOnly e.motion.axes s t
  scan : scanEnds why s t
  cache : t.cache = s.cache
  outside : Outside s t
  told : ∀ p : Port, e.origin = .port p → tellsIf p (.segmentFailed e.tag e.motion.axis e.purpose e.slot why waiting 1) s t
  lists : sameBesides [2, 3, 5, 7, 12, 13] s t
  closes : ¬restedOn e.motion.axes s →
    t.arb = s.arb
      ∧ ∃ c, t.exe.closing = some c ∧ c.ending.boundary = true ∧ c.ending.halted = 0 ∧ c.ending.discarded = 0
  ends : restedOn e.motion.axes s → t.exe.closing = none
  port : restedOn e.motion.axes s → ∀ p : Port, s.arb.holder = some (.port p) → Boundary p 0 0 s t
  safety : restedOn e.motion.axes s → s.arb.holder = some .safety → e.origin = .safety →
    s.arb.auth = .moving ∨ s.arb.auth = .manualPending → SafetyBoundary (reasonsAfter s.safe.group false s) s t

/-- The active entry, with none behind it, has completed: its axes are stopped, a port of origin whose mask admits it is told, and
the boundary is taken (R32, R33, R41, R57, R67, R69, R82, R94, R98). -/
structure EntryDone (e : Entry) (s t : State) : Prop where
  queue : t.exe.queue = [] ∧ t.exe.active = none ∧ t.exe.closing = none ∧ t.exe.suspension = none
  kept : t.exe.nextTag = s.exe.nextTag ∧ t.exe.supply = s.exe.supply ∧ t.exe.settle = s.exe.settle
  stopped : ∀ a : Axis, e.motion.axes.get a = true →
    (t.exe.drives.get a).enable = false ∧ (t.exe.drives.get a).rate = .stop ∧ (t.exe.drives.get a).brake = true
  others : ∀ a : Axis, e.motion.axes.get a = false → t.exe.drives.get a = s.exe.drives.get a
  outside : Outside s t
  told : ∀ p : Port, e.origin = .port p → tellsIf p (.segmentDone e.tag 1 0) s t
  port : ∀ p : Port, s.arb.holder = some (.port p) → Boundary p 0 0 s t
  safety : s.arb.holder = some .safety → s.arb.auth = .moving ∨ s.arb.auth = .manualPending →
    SafetyBoundary (reasonsAfter s.safe.group true s) s t ∧ (s.safe.group = some .windLowering → t.safe.alarmWind = false)

/-- The active move, with none behind it, has completed; no notice is placed but of the kinds of an ending and those told beside
it, and the Scan Engine and the cache are unchanged (R57). -/
structure Completed (beside : List Nat) (e : Entry) (s t : State) : Prop extends EntryDone e s t where
  scan : t.scan = s.scan
  cache : t.cache = s.cache
  lists : sameBesides ([2, 3, 4, 12, 13] ++ beside) s t

/-- The active SCAN entry, with none behind it, has completed: its scan has ended with this result, which SCAN END carries, and no
notice is placed but of the kinds of an ending and those told beside it (R57, R69, R154, R155). -/
structure ScanDone (beside : List Nat) (e : Entry) (result : ScanResult) (s t : State) : Prop extends EntryDone e s t where
  scan : t.scan = { s.scan with scan := none, result := some result }
  ended : ∀ p : Port, e.origin = .port p → tellsIf p (.scanEnd result) s t
  lists : sameBesides ([2, 3, 4, 7, 12, 13] ++ beside) s t

/-- A COMPLETE scan with this result offers a solution, which the cache takes: the scan carried a slot and reached the learn
threshold with the heading known (R127), PARK is asserted, and the slot is COMMITTED with learning allowed (R128). -/
structure Solves (r : ScanResult) (c : CacheEntry) (s : State) : Prop where
  slot : r.slot = some c.slot
  level : r.bestLevel = some c.peak ∧ s.settings.inForce.learnThreshold ≤ c.peak
  pose : ∃ (best : PanTilt) (heading : Int), r.bestPose = some best ∧ s.heading = some heading
    ∧ c.bearing = (best.pan + heading) % 36000 ∧ c.elevation = best.tilt
  mechanism : c.polarisation = s.pose.position.pol ∧ c.height = s.pose.position.mast
  park : s.safe.park = true
  site : s.store.engine.erasing = false ∧ (s.store.slotAt c.slot).state = .committed
    ∧ ∃ k, (s.store.slotAt c.slot).contents = some k ∧ k.site.learn = 0x01

/-- A scan has ended COMPLETE: what it solves stands first in the cache, the entry that it replaces or the least recent of 12
leaves, and the level reference is set if the cache was empty; its completed result says whether it was learned (R126 to R128,
R152). -/
structure EndsComplete (r completed : ScanResult) (s t : State) : Prop where
  learned : ∀ c, Solves r c s →
    completed = { r with endReason := some .complete, learned := true }
      ∧ t.cache =
        { entries := c :: (s.cache.entries.filter (fun x => x.slot != c.slot)).take 11
          reference := if s.cache.entries = [] then some s.pose.level else s.cache.reference }
  notLearned : (∀ c, ¬Solves r c s) →
    completed = { r with endReason := some .complete, learned := false } ∧ t.cache = s.cache

/-- The line states of a drive that runs toward a target (R3), every enable being held negated while ESTOP is asserted
(R101). -/
def drivenToward (target : Int) (rate : Rate) (a : Axis) (s : State) : Drive :=
  { enable := !s.safe.estop, increasing := decide (s.pose.position.get a < target), rate := .run rate, brake := false }

/-- The drive of an axis that starts or restarts within tolerance of its target and is not at rest: the direction set, a
difference of zero leaving it as it stands (log 42), STOP presented, the brake released and enable asserted (R3, R55, R56,
R101). -/
def settlingToward (target : Int) (a : Axis) (s : State) : Drive :=
  { enable := !s.safe.estop
    increasing :=
      if s.pose.position.get a < target then true
      else if target < s.pose.position.get a then false
      else (s.exe.drives.get a).increasing
    rate := .stop, brake := false }

/-- A reading replaces counts, positions, at-rest flags and lamp, and clears the alarm causes that it ends (R4, R19, R100). -/
def readingTaken (r : Reading) (s : State) : State :=
  let park := s.safe.alarmPark && !lampOf (positionsOf r.counts)
  let wind := s.safe.alarmWind && decide (3000 < (positionsOf r.counts).mast)
  (recordReading r s).setSafe { s.safe with alarmPark := park, alarmWind := wind, alarm := park || wind }

/-- A command leaves this state, where a changed alarm output, and nothing else, has placed its condition notice (R100). -/
def leaves (left s t : State) : Prop :=
  onlyOutputs (fun _ => if s.safe.alarm = left.safe.alarm then [] else [12]) left t
    ∧ (s.safe.alarm ≠ left.safe.alarm →
        tellsAll
          (.condition .alarm s.arb.reasons s.pose.latch left.safe.alarmPark left.safe.alarmWind s.settings.defaulted) s t)

/-- The phase of an axis of the running entry after a reading: driving that has entered tolerance becomes settling, settling that
has left it drives again with a stall window that starts afresh, else it stays (R56, R58). -/
def phaseAfter (target : Int) (a : Axis) (phase : AxisPhase) (s : State) : AxisPhase :=
  match phase, within a (s.pose.position.get a) target with
  | .driving _, true => .settling
  | .settling, false => .driving (s.pose.counts.get a)
  | phase, _ => phase

/-- The drive of an axis of the running entry after a reading: into settling STOP is presented with the brake released and enable
asserted, the direction standing; back into driving it is driven toward the target at the rate; else it stays (R3, R56, R101). -/
def driveAfter (target : Int) (rate : Rate) (a : Axis) (phase : AxisPhase) (s : State) : Drive :=
  match phase, within a (s.pose.position.get a) target with
  | .driving _, true => { s.exe.drives.get a with enable := !s.safe.estop, rate := .stop, brake := false }
  | .settling, false => drivenToward target rate a s
  | _, _ => s.exe.drives.get a

/-- The drive of an axis after the active entry was halted (R66). -/
def haltedDrive (a : Axis) (s : State) : Drive :=
  match activeEntry s with
  | some e => if e.motion.axes.get a = true then (s.exe.drives.get a).stop else s.exe.drives.get a
  | none => s.exe.drives.get a

/-- A lockout reason has halted the work of a holder: the queue is empty, no ending report is outstanding, a port holder is told
with the tag and the number, the claims are refused, and the state is LOCKOUT, or MANUAL where the crank was waited for (R42,
R45, R62). -/
structure LockedOut (why : EndReason) (lost : AuthReason) (left : Reasons) (s t : State) : Prop where
  locks : s.arb.auth ≠ .manualPending → t.arb = lockedOut left s
  crank : s.arb.auth = .manualPending →
    t.arb = { lockedOut left s with auth := .manual, grant := true } ∧ tellsAll (.manualBegun .lockout none 0 0) s t
  work : t.exe.queue = [] ∧ t.exe.active = none ∧ t.exe.closing = none ∧ t.exe.suspension = none
    ∧ t.exe.nextTag = s.exe.nextTag ∧ t.exe.supply = s.exe.supply ∧ t.exe.settle = s.exe.settle
  scan : ∀ x e rest, activeIs x e rest s → scanEnds why s t
  told : ∀ q : Port, s.arb.holder = some (.port q) → tells q (.authority .lost (some lost) (activeTag s) (waitingCount s)) s t
  refused : ∀ c, c ∈ s.arb.claims → tells c .claimRefused s t

/-- SAFETY has taken authority with the park stow, the supply being available: in the stow order at FAST, one locked group, its
first entry driven; what was active is halted, and a port holder is told (R38, R40, R96, R97). -/
structure StowBegun (s t : State) : Prop where
  arb : t.arb =
    { s.arb with
      auth := if s.arb.auth = .manualPending then .manualPending else .moving
      holder := some .safety, releaseMark := false, idle := none, deferred := none }
  group : t.safe.group = some .parkStow
  queue : t.exe.queue.map Entry.motion = (stowAxes s.pose.position).map (fun a => Motion.moveTo a (parkValue a))
  entries : ∀ e, e ∈ t.exe.queue → e.rate = .fast ∧ e.origin = .safety ∧ e.purpose = .stow ∧ e.group = some s.exe.nextTag
  drives : ∀ (a : Axis) (others : List Axis), stowAxes s.pose.position = a :: others →
    ∀ b : Axis, t.exe.drives.get b = if b = a then drivenToward (parkValue a) .fast a s else haltedDrive b s
  scan : ∀ x e rest, activeIs x e rest s → scanEnds .safety s t
  told : ∀ p : Port, s.arb.holder = some (.port p) →
    tells p (.authority .lost (some .safety) (activeTag s) (waitingCount s)) s t

/-- The command ends the crank on these positions, every axis being at rest or FAULTED in the reading that it brings: the key
turned back, on the positions of that reading, or a reading taken in the wait that followed, MANUAL GRANT being negated (R85,
log 22). -/
def endsCrank (c : Instr) (r : Reading) (position : Axes Int) (s : State) : Prop :=
  s.arb.auth = .manual ∧ s.arb.deferred = none ∧ s.exe.active = none ∧ s.exe.closing = none
    ∧ (∀ a : Axis, r.atRest.get a = true ∨ s.pose.faulted.get a = true)
    ∧ ((c = .manualReqNegated r ∧ s.safe.manualReq = true ∧ s.arb.crankEnd = none ∧ position = positionsOf r.counts)
      ∨ (c = .poseReading r ∧ s.arb.crankEnd = some position ∧ s.arb.grant = false))

/-- The form of one move (R49). -/
def goodForm (m : RawMove) : Bool :=
  (m.kind == 0x00 || m.kind == 0x01) && m.axis.toNat ≤ 3 && m.rate.toNat ≤ 2

/-- The range of one move of good form (R50). -/
def valueFits (m : RawMove) : Bool :=
  let between (low high : Int) : Bool := low ≤ m.value && m.value ≤ high
  match m.axis.toNat, m.kind.toNat with
  | 0, 0 => between 0 15000 && m.value % 10 == 0
  | 0, _ => between (-15000) 15000 && m.value % 10 == 0
  | 1, 0 => between (-27000) 27000
  | 1, _ => between (-54000) 54000
  | 2, 0 => between (-1000) 9000
  | 2, _ => between (-10000) 10000
  | _, 0 => between (-9000) 9000
  | _, _ => between (-18000) 18000

/-- The tag that lies i after a tag, 255 being followed by 1 (R48). -/
def tagPlus (tag i : Nat) : Nat := if tag + i ≤ 255 then tag + i else tag + i - 255

/-- The axis is driving toward its target, its stall window beginning at the count as it stands, every other axis idle
(R56, R58). -/
def drivingOn (a : Axis) (s : State) : Axes AxisPhase := (Axes.all AxisPhase.idle).set a (.driving (s.pose.counts.get a))

/-- The form and the ranges of PEAK's parameters (R143, orders 1 to 3). -/
def peakFits (q : PeakParams) : Prop :=
  (∀ x, q.pattern = some x → x.1 = 0x00 ∨ (x.1 = 0x01 ∧ 2 ≤ x.2 ∧ x.2 ≤ 16))
    ∧ (∀ b, q.source = some b → b = 0x00 ∨ b = 0x01)
    ∧ (q.slot = none → q.pattern.isSome = true ∧ q.stepSize.isSome = true ∧ q.steps.isSome = true)
    ∧ (∀ n, q.slot = some n → n ≤ 47) ∧ (∀ n, q.stepSize = some n → 5 ≤ n ∧ n ≤ 200)
    ∧ (∀ n, q.steps = some n → n ≤ 256) ∧ (∀ n, q.dwell = some n → 100 ≤ n ∧ n ≤ 2000)
    ∧ ∀ n, q.block = some n → n ≤ 32

/-- The parameter of PEAK at a position, if it is present, lies in its range; pattern and level source have values, and no
range but the row length of RASTER (R143). -/
def peakParamFits (q : PeakParams) (position : Nat) : Bool :=
  match position with
  | 1 => q.slot.all (fun n => n ≤ 47)
  | 2 => q.pattern.all (fun x => x.1 != 0x01 || (2 ≤ x.2 && x.2 ≤ 16))
  | 3 => q.stepSize.all (fun n => 5 ≤ n && n ≤ 200)
  | 4 => q.steps.all (fun n => n ≤ 256)
  | 6 => q.dwell.all (fun n => 100 ≤ n && n ≤ 2000)
  | 7 => q.block.all (fun n => n ≤ 32)
  | _ => true

/-- A locked group as it is queued: its motions, each entry with the group's first tag, a rate, a purpose, a slot and the port of
origin, its target not yet resolved (R47, R52). -/
def queuedAs (group : List Entry) (motions : List Motion) (first : Nat) (rate : Rate) (purpose : Purpose) (slot : Option Nat)
    (p : Port) : Prop :=
  group.map Entry.motion = motions
    ∧ ∀ e, e ∈ group → e.group = some first ∧ e.rate = rate ∧ e.purpose = purpose ∧ e.slot = slot ∧ e.origin = .port p
        ∧ e.target = none

/-- Entries carry consecutive tags from the tag counter, which then stands behind them (R48). -/
def tagged (entries : List Entry) (counter : Nat) : Prop :=
  1 ≤ counter → counter ≤ 255 →
    (∀ (i : Nat) (e : Entry), entries[i]? = some e → e.tag = tagPlus counter i)
      ∧ tagsAfter counter entries.length = tagPlus counter entries.length

/-- A move that becomes active has this target and passes the start checks (R54). -/
def passes (e : Entry) (a : Axis) (target : Int) (s : State) : Prop :=
  (e.motion = .moveTo a target ∨ (e.motion = .moveBy a (target - s.pose.position.get a) ∧ inRange a target = true))
    ∧ s.pose.faulted.get a = false ∧ envelope s (some a) target = none ∧ (s.safe.park = true ∨ e.origin = .safety)

/-- What the executor holds of a move that has just become active (R13, R54). -/
def activeOn (a : Axis) (target : Int) (execution : Execution) (phases : Axes AxisPhase) (s : State) : Active :=
  { execution := execution
    mastClass := if a = .mast then some (mastClassOf s.pose.position.mast target) else none
    phases := phases, yieldDue := false, crankDue := false }

/-- The executor when a move, the first of entries submitted while nothing is queued, has become active and is driven toward its
target (R3, R13, R54, R56, R58). -/
def begunOn (a : Axis) (target : Int) (e : Entry) (rest : List Entry) (s : State) : Executor :=
  { s.exe with
    queue := { e with target := some target } :: rest
    active := some (activeOn a target .running (drivingOn a s) s)
    nextTag := tagsAfter s.exe.nextTag (rest.length + 1)
    drives := s.exe.drives.set a (drivenToward target e.rate a s) }

/-- A move may be started and driven: it passes the start checks outside tolerance with PARK asserted and the supply available
(R54, R55, R73). -/
def mayDrive (a : Axis) (target : Int) (s : State) : Prop :=
  s.pose.faulted.get a = false ∧ envelope s (some a) target = none ∧ s.safe.park = true ∧ s.exe.supply = .available
    ∧ within a (s.pose.position.get a) target = false

/-- A holder in HELD with nothing queued, active or closing. -/
def idlesInHeld (s : State) : Prop :=
  s.arb.auth = .held ∧ s.exe.queue = [] ∧ s.exe.active = none ∧ s.exe.closing = none

/-- The scan of the entry of a tag and a slot has begun at the pose as it stands: index 0, in the dwell, and the result replaced
(R145, R154). -/
def scanBegun (tag : Nat) (slot : Option Nat) (steps : Nat) (s : State) : ScanEngine :=
  { scan :=
      some
        { start := { pan := s.pose.position.pan, tilt := s.pose.position.tilt }, index := 0, phase := .dwell
          target := { pan := s.pose.position.pan, tilt := s.pose.position.tilt } }
    result :=
      some
        { tag := tag, slot := slot, requested := steps, done := 0, bestLevel := none, bestPose := none, endReason := none
          learned := false }
    report := s.scan.report.map (fun x => { x with sinceDwell := false }) }

/-- The scan of the active SCAN entry runs in a phase (8.6). -/
def scanRuns (x : Active) (e : Entry) (rest : List Entry) (q : ScanParams) (z : Scan) (r : ScanResult) (s : State) : Prop :=
  activeIs x e rest s ∧ x.execution = .running ∧ e.motion = .scan q ∧ s.scan.scan = some z ∧ s.scan.result = some r

/-- A dwell of the running scan has begun: no report has arrived since (R147, R149). -/
def dwellBegun (z : Scan) (s : State) : ScanEngine :=
  { s.scan with
    scan := some { z with phase := .dwell }, report := s.scan.report.map (fun w => { w with sinceDwell := false }) }

/-- Pan and tilt stand at rest within tolerance of the target of a scan's move (R147). -/
def scanStands (target : PanTilt) (s : State) : Prop :=
  within .pan s.pose.position.pan target.pan = true ∧ s.pose.atRest.pan = true
    ∧ within .tilt s.pose.position.tilt target.tilt = true ∧ s.pose.atRest.tilt = true

/-- The drive of an axis that a scan's move begins or takes up again: driven at SLOW unless it lies within tolerance (R147). -/
def scanDrive (target : Int) (a : Axis) (s : State) : Drive :=
  if within a (s.pose.position.get a) target = true then (s.exe.drives.get a).stop else drivenToward target .slow a s

/-- The phase of an axis that a scan's move begins or takes up again (R56, R58, R147). -/
def scanPhase (target : Int) (a : Axis) (s : State) : AxisPhase :=
  if within a (s.pose.position.get a) target = true then .idle else .driving (s.pose.counts.get a)

/-- The drives of a scan's move toward its target: pan and tilt (R147). -/
def scanDrives (target : PanTilt) (s : State) : Axes Drive :=
  { s.exe.drives with pan := scanDrive target.pan .pan s, tilt := scanDrive target.tilt .tilt s }

/-- The phases of a scan's move toward its target (R147). -/
def scanPhases (target : PanTilt) (s : State) : Axes AxisPhase :=
  { Axes.all .idle with pan := scanPhase target.pan .pan s, tilt := scanPhase target.tilt .tilt s }

/-- A command that brings the running scan its sample: the end of a dwell with the ANALOG source, or with the LINK source a
report since the dwell began, at its end or in the level wait (R148, R149). -/
def brings (c : Instr) (level : Int) (q : ScanParams) (z : Scan) (s : State) : Prop :=
  (∃ v, c = .dwellEnd v ∧ z.phase = .dwell ∧ q.source = .analog ∧ level = analogLevel v)
    ∨ (∃ v, c = .dwellEnd v ∧ z.phase = .dwell ∧ q.source = .link
        ∧ s.scan.report = some { level := level, sinceDwell := true })
    ∨ (c = .levelReport .link level ∧ takes .link (.levelReport level) s ∧ -1200 ≤ level ∧ level ≤ 0
        ∧ z.phase = .levelWait)

/-- The state in which a sample is judged: a LEVEL REPORT that brings it is kept and answered first (R149). -/
def heard (c : Instr) (s : State) : State :=
  match c with
  | .levelReport p level =>
    doneState p (.levelReport level) .done [] (s.setScan { s.scan with report := some { level := level, sinceDwell := true } })
  | _ => s

/-- The sample has been taken: the result stands updated, and where the steps done are a multiple of the report block the port of
origin, if its mask admits it, is told SCAN PROGRESS; nothing else changes (R150). -/
structure Sampled (c : Instr) (e : Entry) (q : ScanParams) (now : ScanResult) (s v : State) : Prop where
  changes : onlyOutputs (fun p => if e.origin = .port p ∧ 0 < q.block ∧ 0 < now.done ∧ now.done % q.block = 0 then [6] else [])
    ((heard c s).setScan { (heard c s).scan with result := some now }) v
  told : ∀ (p : Port) (level : Int) (pose : PanTilt), e.origin = .port p → 0 < q.block → 0 < now.done →
    now.done % q.block = 0 → now.bestLevel = some level → now.bestPose = some pose →
      tellsIf p (.scanProgress now.tag now.done now.requested level pose) (heard c s) v

/-- A scan move runs toward its target: pan and tilt driven at SLOW but where they lie within tolerance, the other phases as they
stood (R56, R58, R147, R152). -/
def scanDriven (x : Active) (phase : ScanPhase) (target : PanTilt) (z : Scan) (s : State) : State :=
  (s.setExe
      { s.exe with
        active :=
          some
            { x with
              phases := { x.phases with pan := scanPhase target.pan .pan s, tilt := scanPhase target.tilt .tilt s } }
        drives := scanDrives target s }).setScan
    { s.scan with scan := some { z with phase := phase, target := target } }

/-- A step move has arrived: pan and tilt are stopped, and its dwell has begun (R147). -/
def stepArrived (x : Active) (z : Scan) (s : State) : State :=
  (s.setExe
      { s.exe with
        active := some { x with phases := Axes.all .idle }
        drives := { s.exe.drives with pan := s.exe.drives.pan.stop, tilt := s.exe.drives.tilt.stop } }).setScan
    (dwellBegun z s)

/-- The unit move of a run of the spiral: the directions cycle +pan, +tilt, -pan, -tilt (R146). -/
def unitMove (run : Nat) : PanTilt :=
  match run % 4 with
  | 0 => { pan := 1, tilt := 0 }
  | 1 => { pan := 0, tilt := 1 }
  | 2 => { pan := -1, tilt := 0 }
  | _ => { pan := 0, tilt := -1 }

/-- The field of STAGE SITE at a position lies in its range; default steps, position 8, takes every value of its byte (R106,
R166). -/
def fieldFits (f : SiteFields) (position : Nat) : Bool :=
  match position with
  | 1 => (1 ≤ f.nameLength.toNat && f.nameLength.toNat ≤ 16)
      && (f.name.take f.nameLength.toNat).all (fun c => 0x20 ≤ c.toNat && c.toNat ≤ 0x7E)
  | 2 => f.bearing.toNat ≤ 35999
  | 3 => -1000 ≤ f.elevation.toInt && f.elevation.toInt ≤ 9000
  | 4 => -9000 ≤ f.polarisation.toInt && f.polarisation.toInt ≤ 9000
  | 5 => 1200 ≤ f.height.toNat && f.height.toNat ≤ 15000 && f.height.toNat % 10 == 0
  | 6 => f.pattern.toNat ≤ 1
  | 7 => 5 ≤ f.stepSize.toNat && f.stepSize.toNat ≤ 200
  | 9 => 2 ≤ f.rowLength.toNat && f.rowLength.toNat ≤ 16
  | 10 => f.learn.toNat ≤ 1
  | 11 => f.levelSource.toNat ≤ 2
  | _ => true

/-- Every field of STAGE SITE lies in its range (R106). -/
def fieldsFit (f : SiteFields) : Prop := ∀ k : Nat, fieldFits f k = true

/-- The slots outside one number are as they were (R105). -/
def onlySlot (n : Nat) (s t : State) : Prop := ∀ m : Nat, m ≠ n → t.store.slotAt m = s.store.slotAt m

/-- The cache without the entry of a slot (R125, R126). -/
def cacheWithout (slot : Nat) (c : Cache) : Cache :=
  { entries := c.entries.filter (fun e => e.slot != slot)
    reference := if c.entries.filter (fun e => e.slot != slot) = [] then none else c.reference }

/-- The cache holds an entry for a slot. -/
def holds (slot : Nat) (c : Cache) : Bool := c.entries.any (fun e => e.slot == slot)

/-- The features of CONFIGURE with their ranges (R170). -/
def featureRanges : List (Byte × Int × Int) :=
  [(0x01, 0, 255), (0x02, 0, 1), (0x03, 100, 2000), (0x04, 0, 32), (0x05, -1200, 0), (0x06, 2, 100), (0x07, 3000, 15000),
    (0x08, 10, 100), (0x09, 10, 600)]

/-- The value of a feature (R170). -/
def featureValue (v : SettingValues) (feature : Byte) : Option Int :=
  match feature.toNat with
  | 1 => some v.idleTimeout
  | 2 => some v.levelSource
  | 3 => some v.dwell
  | 4 => some v.block
  | 5 => some v.learnThreshold
  | 6 => some v.pulses
  | 7 => some v.ceiling
  | 8 => some v.tolerance
  | 9 => some v.suspension
  | _ => none

/-- CONFIGURE supports a feature code with a value (R170). -/
def supported (feature : Byte) (x : Int) : Prop :=
  (∃ low high, (feature, low, high) ∈ featureRanges ∧ low ≤ x ∧ x ≤ high) ∧ (feature = 0x07 → x % 10 = 0)

/-- The most recent sample lies within a tolerance of the level reference, if there is one (R130). -/
def levelWithin (tolerance : Int) (s : State) : Prop :=
  ∀ ref, s.cache.reference = some ref →
    (s.pose.level.pitch - ref.pitch).natAbs ≤ tolerance ∧ (s.pose.level.roll - ref.roll).natAbs ≤ tolerance

/-- The lines that a start finds, none of which calls for anything: ESTOP negated, PARK asserted and not seen negated, MANUAL REQ
negated (R88, R168). -/
def quiet (i : StartInputs) : Prop :=
  i.estop = false ∧ i.park = true ∧ i.manualReq = false ∧ i.parkNegatedDuring = false

/-- A port interface as a start leaves it: hunting, its lists empty but for the items given, every kind on (R161, R163,
R168). -/
def startedWith (ready : Bool) (items : List OutItem) : PortState :=
  { rx := .hunting, receive := [], inHand := .nothing, output := items, mask := allKinds, ready := ready, tx := none }

/-- The end of a start before its lines are read (R168, steps 1 to 4, and the kept reasons of step 5): STARTED stands first on
every output list, followed by the SETTINGS notice, and nothing else, if the settings were found defaulted; and a kept reason
makes the state LOCKOUT. The lines stand as a start with quiet lines leaves them. -/
structure Started (cause : StartCause) (reasons : Reasons) (i : StartInputs) (t : State) : Prop where
  on : t.powered = true
  ports : ∀ p : Port, t.ports.get p =
      startedWith (i.ready.get p)
        (.notice (.started cause (decide (20 < t.pose.position.mast)) (damagedCount t.store) reasons) 0
          :: if t.settings.defaulted = true then [.notice (.condition .settings reasons t.pose.latch false false true) 0]
            else [])
  authority : t.arb =
    { auth := if reasons = Reasons.empty then .free else .lockout, holder := none, claims := [], releaseMark := false
      idle := none, reasons := reasons, grant := false, deferred := none, crankEnd := none }
  queue : t.exe.queue = [] ∧ t.exe.active = none ∧ t.exe.closing = none ∧ t.exe.nextTag = 1 ∧ t.exe.suspension = none
    ∧ t.exe.settle = false
  supply : t.exe.supply = if i.supplyOk = true then .available else .absent
  drives : ∀ a : Axis, (t.exe.drives.get a).enable = false ∧ (t.exe.drives.get a).rate = .stop
    ∧ (t.exe.drives.get a).brake = true
  reading : t.pose.counts = i.reading.counts ∧ t.pose.position = positionsOf i.reading.counts
    ∧ t.pose.atRest = i.reading.atRest ∧ t.pose.lamp = lampOf t.pose.position
  lines : t.safe.estop = false ∧ t.safe.park = true ∧ t.safe.manualReq = false ∧ t.safe.supplyOk = i.supplyOk
    ∧ t.safe.resetLine = i.resetLine ∧ t.pose.faultLine = i.faultLine ∧ t.safe.group = none
  cleared : t.heading = none ∧ t.scan = { scan := none, result := none, report := none } ∧ t.store.engine = .idle
    ∧ t.store.staging = Ports.all none ∧ t.settings.writing = none

/-- The lines read at the end of a start, from the state that a start with quiet lines leaves: ESTOP found asserted is taken as an
assertion, PARK found negated as a negation, PARK seen negated during a warm start flushes the cache, the class LIMIT with the
mast above 3,000 mm sets the WIND cause, and MANUAL REQ found asserted is taken as an assertion, in this order (R79, R88, R100,
R131, R168). -/
def linesRead (i : StartInputs) (seenNegated : Bool) (s t : State) : Prop :=
  ∃ stopped parked sounded : State,
    (if i.estop = true then exec .estopAsserted s = .next stopped else stopped = s)
      ∧ (if i.park = false then exec .parkNegated stopped = .next parked
        else if seenNegated = true then
          onlyOutputs (fun _ => [10]) (stopped.setCache { entries := [], reference := none }) parked
            ∧ tellsAll (.cacheFlushed .park none none stopped.cache.entries.length 0) stopped parked
        else parked = stopped)
      ∧ (if parked.safe.windClass = .limit ∧ 3000 < parked.pose.position.mast then
          leaves (parked.setSafe { parked.safe with alarmWind := true, alarm := true }) parked sounded
        else sounded = parked)
      ∧ (if i.manualReq = true then exec .manualReqAsserted sounded = .next t else t = sounded)

/-! ### Outputs -/

/-- The STOWED lamp follows the positions (R19). -/
def lampFollows (s : State) : Prop := s.pose.lamp = lampOf s.pose.position

/-- The positions are those of the counts last read (R4). -/
def poseFollows (s : State) : Prop := s.pose.position = positionsOf s.pose.counts

/-- The alarm output follows its causes (R100). -/
def alarmFollows (s : State) : Prop := s.safe.alarm = (s.safe.alarmPark || s.safe.alarmWind)

/-- While the ESTOP line is asserted every axis drive is disabled (R101). -/
def stopHolds (s : State) : Prop :=
  s.safe.estop = true →
    s.exe.drives.mast.enable = false ∧ s.exe.drives.pan.enable = false ∧ s.exe.drives.tilt.enable = false
      ∧ s.exe.drives.pol.enable = false

/-- MANUAL GRANT is asserted exactly in MANUAL outside the wait at the end of a crank; that wait stands in MANUAL, where no
handover is deferred (R79, R85). -/
def grantFollows (s : State) : Prop :=
  s.arb.grant = (s.arb.auth == .manual && s.arb.crankEnd.isNone)
    ∧ (s.arb.crankEnd.isSome = true → s.arb.auth = .manual)
    ∧ (s.arb.auth = .manual → s.arb.deferred = none)

/-- The positions follow the counts, and the outputs the state that they show. -/
def outputsFollow (s : State) : Prop := poseFollows s ∧ lampFollows s ∧ alarmFollows s ∧ stopHolds s ∧ grantFollows s

/-! ### Authority -/

/-- A holder that is a port. -/
def portHolder (s : State) : Prop := (holderPort s).isSome = true

/-- The holder is present exactly in HELD, MOVING, YIELDING and MANUAL PENDING, and is a port in HELD and YIELDING; a deferred
handover stands in HELD, MOVING or YIELDING (R20, R34). -/
def holderFits (s : State) : Prop :=
  (s.arb.auth = .free ∨ s.arb.auth = .manual ∨ s.arb.auth = .lockout → s.arb.holder = none)
    ∧ (s.arb.auth = .held ∨ s.arb.auth = .yielding → portHolder s)
    ∧ (s.arb.auth = .moving ∨ s.arb.auth = .manualPending → s.arb.holder.isSome = true)
    ∧ (s.arb.deferred.isSome = true → s.arb.auth = .held ∨ s.arb.auth = .moving ∨ s.arb.auth = .yielding)
    ∧ (s.arb.deferred = some .yield → portHolder s)

/-- The claim list is in rank order without duplicates, never holds the holder's port, and is empty in FREE and LOCKOUT
(R20, R23, R24). -/
def claimsFit (s : State) : Prop :=
  s.arb.claims = [Port.rack, .cab, .link].filter (fun q => s.arb.claims.contains q)
    ∧ (∀ p, s.arb.holder = some (.port p) → s.arb.claims.contains p = false)
    ∧ (s.arb.auth = .free ∨ s.arb.auth = .lockout → s.arb.claims = [])

/-- The authority invariant (R20, R23). -/
def authorityFits (s : State) : Prop := holderFits s ∧ claimsFit s

/-! ### The queue and the drives -/

/-- The queue holds at most 16 entries (R46). -/
def queueFits (s : State) : Prop := s.exe.queue.length ≤ Config.queueCapacity

/-- An axis that the running entry drives. -/
def drivenNow (s : State) (a : Axis) : Bool :=
  match activeEntry s with
  | some e => isRunning s && e.motion.axes.get a
  | none => false

/-- A drive is enabled only on an axis of the running entry (R3, R20). -/
def drivesFit (s : State) : Prop := ∀ a : Axis, (s.exe.drives.get a).enable = true → drivenNow s a = true

/-- An entry is active, or an ended one is closing, only where R20 allows it; no entry is active during a closing; nothing is
active or closing while a handover is deferred; a closing left in MANUAL is a boundary. -/
def activityFits (s : State) : Prop :=
  (s.exe.active.isSome = true → s.arb.auth = .moving ∨ s.arb.auth = .yielding ∨ s.arb.auth = .manualPending)
    ∧ (s.exe.closing.isSome = true →
        s.exe.active = none
          ∧ (s.arb.auth = .moving ∨ s.arb.auth = .yielding ∨ s.arb.auth = .manualPending ∨ s.arb.auth = .manual))
    ∧ (s.arb.deferred.isSome = true → s.exe.active = none ∧ s.exe.closing = none)
    ∧ (s.arb.auth = .manual → ∀ c, s.exe.closing = some c → c.ending.boundary = true)

/-- The motion invariant: who may move, what then moves, and the crank's handshake (R3, R20, R79). -/
def motionFits (s : State) : Prop := authorityFits s ∧ grantFollows s ∧ drivesFit s ∧ activityFits s

/-! ### The scan -/

/-- The steps done, and the index of the running step, do not exceed the steps requested (R150, R154). -/
def scanFits (s : State) : Prop :=
  (∀ r, s.scan.result = some r → r.done ≤ r.requested)
    ∧ (∀ x, s.scan.scan = some x → ∃ r, s.scan.result = some r ∧ x.index ≤ r.requested)

/-! ### The site table and the solution cache -/

/-- The table has its 48 slots, and the slot that the write engine writes is the one in WRITING (R104, R105, R113). -/
def storeFits (s : State) : Prop :=
  s.store.slots.length = Config.slotCount
    ∧ ∀ slot writer retire, s.store.engine.write = some (slot, writer, retire) →
        slot < Config.slotCount ∧ (s.store.slotAt slot).state = .writing

/-- At most 12 entries, at most one for each slot, and only for COMMITTED slots; none during an erase; the level reference is
absent exactly when there is no entry (R124, R126). -/
def cacheFits (s : State) : Prop :=
  s.cache.entries.length ≤ Config.cacheCapacity
    ∧ (s.cache.entries.map CacheEntry.slot).Nodup
    ∧ (∀ e, e ∈ s.cache.entries → (s.store.slotAt e.slot).state = .committed)
    ∧ (s.store.engine.erasing = true → s.cache.entries = [])
    ∧ (s.cache.entries = [] ↔ s.cache.reference = none)

/-- The site table and the cache agree. -/
def tableFits (s : State) : Prop := storeFits s ∧ cacheFits s

/-- While the cache holds an entry, PARK is asserted and the most recent sample lies within the level tolerance of the level
reference (R130). -/
def cacheGuarded (s : State) : Prop :=
  (s.cache.entries = [] ↔ s.cache.reference = none)
    ∧ (s.cache.entries ≠ [] → s.safe.park = true)
    ∧ (∀ ref, s.cache.reference = some ref →
        (s.pose.level.pitch - ref.pitch).natAbs ≤ s.settings.inForce.tolerance
          ∧ (s.pose.level.roll - ref.roll).natAbs ≤ s.settings.inForce.tolerance)

/-- The settings in force lie in their ranges (R170). -/
def settingsFit (s : State) : Prop := settingsInRange s.settings.inForce = true

/-- The cache and the settings that guard it. -/
def guardFits (s : State) : Prop := settingsFit s ∧ cacheGuarded s

/-! ### The ports -/

/-- The kinds of the notices on an output list, in order. -/
def noticeKinds : List OutItem → List Nat
  | [] => []
  | .response _ :: rest => noticeKinds rest
  | .notice body _ :: rest => body.kind :: noticeKinds rest

/-- The responses on an output list. -/
def responses (l : List OutItem) : List OutItem := l.filter OutItem.isResponse

/-- At most one response, and none while a request awaits its answer; at most one notice of each kind, and at most 4 frames
received (R159, R161). -/
def portFits (q : PortState) : Prop :=
  ((responses q.output).length ≤ 1 ∧ (q.inHand ≠ .nothing → responses q.output = []))
    ∧ (noticeKinds q.output).Nodup ∧ q.receive.length ≤ Config.receiveCapacity

/-- Every port's lists keep their capacities, and while settings are written the request of RACK awaits its answer (R159, R161,
R170). -/
def portsFit (s : State) : Prop :=
  (∀ p : Port, portFits (s.ports.get p)) ∧ (s.settings.writing.isSome = true → s.ports.rack.inHand = .working)

end Sys2Proof.Machine
end

