-- ==== Sys2Proof/Certificates/Slice0/Obligations.lean ====
section
/-! DEFINITION. The statements for the provers, family by family: the step and the ports, authority, motion, supply and the crank,
safety, the site table and the cache, aiming and peaking, starts and settings, and the invariants. -/

open Sys2Proof Sys2Proof.Machine

/-! ### The step -/

/-- A step takes the command at the front of the queue and runs it on the rest; an empty queue idles, which is the model's
choice (log 2). -/
def Obligations.StepRunsFrontCommand : Prop :=
  (∀ (c : Instr) (rest : List Instr) (s : State), s.pending = c :: rest → step s = exec c (s.setPending rest))
    ∧ ∀ s : State, s.pending = [] → step s = .next s

/-- Every command answers a next state and leaves the queue of commands alone. -/
def Obligations.EveryCommandAnswersNext : Prop := ∀ (c : Instr) (s : State), ∃ t, exec c s = .next t ∧ t.pending = s.pending

/-! ### The ports -/

/-- The receiver: HUNTING and COUNTING, whichever of the two commands brings the byte (log 43); the last check byte, where a frame
that passes joins the receive list and any other is dropped without an answer; and the discard of a partial frame after 20 ms
(R158). -/
def Obligations.ReceiverTakesBytes : Prop :=
   (∀ (p : Port) (b : Byte) (s : State) (c : Instr),
      s.powered = true → c = .byteReceived p b ∨ c = .frameReceived p b →
        ((s.ports.get p).rx = .hunting →
            exec c s = .next (if b = 0x7E then withPort p { s.ports.get p with rx := .length } s else s))
          ∧ ((s.ports.get p).rx = .length →
              exec c s =
                .next
                  (withPort p
                    { s.ports.get p with
                      rx := if 2 ≤ b.toNat ∧ b.toNat ≤ 62 then .counting b.toNat [] else .hunting }
                    s))
          ∧ (∀ n body, (s.ports.get p).rx = .counting n body →
              exec c s =
                .next
                  (withPort p
                    { s.ports.get p with
                      rx := if body.length + 1 < n then .counting n (b :: body) else .checking (b :: body) none }
                    s))
          ∧ (∀ body, (s.ports.get p).rx = .checking body none →
              exec c s = .next (withPort p { s.ports.get p with rx := .checking body (some b) } s)))
    ∧ (∀ (p : Port) (b high : Byte) (body : List Byte) (s : State),
          s.powered = true → (s.ports.get p).rx = .checking body (some high) →
            exec (.frameReceived p b) s =
              .next
                (withPort p
                  { s.ports.get p with
                    rx := .hunting
                    receive :=
                      if wordOf high b = crc16 (byteOf body.length :: body.reverse)
                          ∧ (∃ code, body.reverse.head? = some code ∧ code.toNat < 0x80)
                          ∧ (s.ports.get p).receive.length < 4 then
                        (s.ports.get p).receive ++ [body.reverse]
                      else (s.ports.get p).receive }
                  s))
    ∧ (∀ (p : Port) (s : State),
          s.powered = true →
            exec (.frameByteTimeout p) s = .next (withPort p { s.ports.get p with rx := .hunting } s))

/-- A frame sent byte by byte to a port that hunts and has room arrives whole: its body, and nothing else, joins the receive
list (R156, R158). -/
def Obligations.FrameArrivesWhole : Prop :=
  ∀ (p : Port) (body : List Byte) (s : State),
    s.powered = true → 2 ≤ body.length → body.length ≤ 62 → (∃ code, body.head? = some code ∧ code.toNat < 0x80) →
      (s.ports.get p).rx = .hunting → (s.ports.get p).receive.length < 4 →
        ∃ (front : List Byte) (last : Byte),
          frameOf body = front ++ [last]
            ∧ exec (.frameReceived p last)
                (front.foldl (fun u b => after u (exec (.byteReceived p b) u)) s) =
              .next (withPort p { s.ports.get p with receive := (s.ports.get p).receive ++ [body] } s)

/-- The oldest frame of a port is passed to its block or answered BAD REQUEST, and none is taken while an answer is awaited,
listed or transmitted; the oldest item of the output list goes out while READY is asserted and the line is free, a response of
more frames one after the other; FRAME_SENT with nothing on the line changes nothing, which is the model's choice (R159 to R161,
log 4). -/
def Obligations.PortListsAreServed : Prop :=
   (∀ (p : Port) (s : State) (code : Byte) (params : List Byte) (rest : List (List Byte)),
      s.powered = true → (s.ports.get p).receive = (code :: params) :: rest →
        ((s.ports.get p).inHand = .nothing → (∀ i, i ∈ (s.ports.get p).output → i.isResponse = false) →
            (∀ t, (s.ports.get p).tx = some t → t.response = false) →
              (∀ r, requestOf code params = some r →
                  exec (.takeFrame p) s =
                    .next (withPort p { s.ports.get p with receive := rest, inHand := .passed r } s))
                ∧ (requestOf code params = none →
                  exec (.takeFrame p) s =
                    .next
                      (withPort p
                        { s.ports.get p with
                          receive := rest
                          output := (s.ports.get p).output
                            ++ [.response { code := code + 0x80, status := .badRequest, parts := [[]] }] }
                        s)))
          ∧ ((s.ports.get p).inHand ≠ .nothing
                ∨ (∃ i, i ∈ (s.ports.get p).output ∧ i.isResponse = true)
                ∨ (∃ t, (s.ports.get p).tx = some t ∧ t.response = true) →
              exec (.takeFrame p) s = .next s))
    ∧ (∀ (p : Port) (s : State),
          s.powered = true →
            (∀ b, exec (.readyChange p b) s = .next (withPort p { s.ports.get p with ready := b } s))
              ∧ ((s.ports.get p).ready = false ∨ (s.ports.get p).tx.isSome = true ∨ (s.ports.get p).output = [] →
                  exec (.transmitBegin p) s = .next s)
              ∧ (∀ item rest first others,
                  (s.ports.get p).ready = true → (s.ports.get p).tx = none → (s.ports.get p).output = item :: rest →
                    item.bodies.map frameOf = first :: others →
                      exec (.transmitBegin p) s =
                        .next
                          (withPort p
                            { s.ports.get p with
                              output := rest, tx := some { response := item.isResponse, frame := first, rest := others } }
                            s))
              ∧ (∀ t, (s.ports.get p).tx = some t → t.rest = [] →
                  exec (.frameSent p) s = .next (withPort p { s.ports.get p with tx := none } s))
              ∧ (∀ t first others, (s.ports.get p).tx = some t → t.rest = first :: others →
                  exec (.frameSent p) s =
                    .next (withPort p { s.ports.get p with tx := some { t with frame := first, rest := others } } s))
              ∧ ((s.ports.get p).tx = none → exec (.frameSent p) s = .next s))

/-- Every request that fits a frame is read back from its frame's code and parameters as it was sent; the bytes of PEAK's
parameters and of absent fields are laid out by the model's choice (R157, R159, log 28, log 29). -/
def Obligations.RequestFrameRoundTrip : Prop := ∀ r : Request, r.wf = true → requestOf (requestCode r) (requestParams r) = some r

/-- A notice of a kind not pending stands at the end; one of a kind pending replaces its content in its place, with one more
merge, up to 255; counts that gather, in AUTHORITY, SEGMENT DONE, SEGMENT FAILED, SITE WRITTEN and CACHE FLUSHED, are summed up
to 255, and the new content of every other kind replaces the old whole (R35, R67, R68, R121, R134, R161; that the count of SITE
WRITTEN gathers placed notices alone is the model's choice, log 51). -/
def Obligations.NoticesMerge : Prop :=
   (∀ (body : NoticeBody) (l : List OutItem),
      (body.kind ∉ noticeKinds l → placeItem body l = l ++ [.notice body 0])
        ∧ ∀ (before rest : List OutItem) (old : NoticeBody) (merged : Nat),
            l = before ++ .notice old merged :: rest → body.kind ∉ noticeKinds before → old.kind = body.kind →
              placeItem body l = before ++ .notice (mergeBody old body) (min (merged + 1) 255) :: rest)
    ∧ ((∀ tag completed depth tag' completed' depth',
            mergeBody (.segmentDone tag completed depth) (.segmentDone tag' completed' depth') =
              .segmentDone tag' (min (completed' + completed) 255) depth')
          ∧ (∀ tag axis purpose slot reason discarded failures tag' axis' purpose' slot' reason' discarded' failures',
            mergeBody (.segmentFailed tag axis purpose slot reason discarded failures)
                (.segmentFailed tag' axis' purpose' slot' reason' discarded' failures') =
              .segmentFailed tag' axis' purpose' slot' reason' (min (discarded' + discarded) 255)
                (min (failures' + failures) 255))
          ∧ (∀ event reason halted discarded event' reason' halted' discarded',
            mergeBody (.authority event reason halted discarded) (.authority event' reason' halted' discarded') =
              .authority event' reason' (if halted' = 0 then halted else halted') (min (discarded' + discarded) 255))
          ∧ (∀ cause slot requester removed remaining cause' slot' requester' removed' remaining',
            mergeBody (.cacheFlushed cause slot requester removed remaining)
                (.cacheFlushed cause' slot' requester' removed' remaining') =
              .cacheFlushed cause' slot' requester' (min (removed' + removed) 255) remaining')
          ∧ (∀ slot state operation writer redirection writes slot' state' operation' writer' redirection' writes',
            mergeBody (.siteWritten slot state operation writer redirection writes)
                (.siteWritten slot' state' operation' writer' redirection' writes') =
              .siteWritten slot' state' operation' writer' redirection' (min (writes' + writes) 255)))
    ∧ ∀ old new : NoticeBody, new.kind ∉ [2, 4, 5, 8, 10] → mergeBody old new = new

/-- SET NOTICES makes the new mask the port's, removes the pending notices now off, kinds 1, 2, 3 and 8 excepted, and answers
DONE with the mask (R163; a request brought directly: log 5). -/
def Obligations.SetNoticesReplacesMask : Prop :=
  ∀ (p : Port) (mask : BitVec 16) (s : State),
    takes p (.setNotices mask) s →
      exec (.setNotices p mask) s =
          .next
            (doneState p (.setNotices mask) .done (wordBytes mask)
              (withPort p
                { s.ports.get p with mask := mask, output := (s.ports.get p).output.filter (keptUnder mask) } s))
        ∧ ∀ (body : NoticeBody) (merged : Nat),
            keptUnder mask (.notice body merged) =
              (decide (body.kind ∈ [1, 2, 3, 8]) || mask.getLsbD (body.kind - 1))

/-- The requests that read and change nothing but the sender's port and the holder's idle timer: STATUS with its 34 bytes in the
order of R164; IDENTIFY; SCAN RESULT with the fields of R154, none where there is no result; READ CACHE in its parts of up to 4
entries; and READ SITE: OUT OF RANGE above slot 47, TABLE BUSY while the table is erased, else the slot state and, unless FREE,
the record and the redirection (R105, R118, R119, R133, R154, R157, R160, R164, R165; that SCAN RESULT without a result carries
the status alone, the zeros of absent fields, and the name bytes of a DAMAGED slot as found are the model's choice, log 28, log
56; a request brought directly: log 5). -/
def Obligations.ReadingRequestsAnswerDone : Prop :=
  ∀ (p : Port) (s : State) (portByte : Port → Byte), portByte .cab = 0x01 → portByte .rack = 0x02 → portByte .link = 0x03 →
    (takes p .status s →
        ∃ record : List Byte, exec (.status p) s = .next (doneState p .status .done record s) ∧ record.length = 34
          ∧ record =
            [(match s.arb.auth with
                | .free => 0x00
                | .held => 0x01
                | .moving => 0x02
                | .yielding => 0x03
                | .manualPending => 0x04
                | .manual => 0x05
                | .lockout => 0x06),
              (match s.arb.holder with
                | none => 0x00
                | some (.port q) => portByte q
                | some .safety => 0x04),
              byteOf s.arb.claims.length]
              ++ (s.arb.claims.map portByte ++ [0x00, 0x00, 0x00]).take 3
              ++ [placesByte [s.arb.reasons.estop, s.arb.reasons.interlock, s.arb.reasons.stowBlocked,
                s.arb.reasons.stowFailed]]
              ++ intBytes s.pose.position.mast ++ intBytes s.pose.position.pan ++ intBytes s.pose.position.tilt
              ++ intBytes s.pose.position.pol
              ++ [placesByte [s.pose.atRest.mast, s.pose.atRest.pan, s.pose.atRest.tilt, s.pose.atRest.pol],
                placesByte [s.pose.faulted.mast, s.pose.faulted.pan, s.pose.faulted.tilt, s.pose.faulted.pol],
                (match s.exe.active, s.exe.queue with
                  | some _, e :: _ => byteOf e.tag
                  | _, _ => 0x00),
                (match s.exe.active with
                  | none => 0x00
                  | some x => if x.execution = .running then 0x01 else 0x02),
                byteOf s.exe.queue.length,
                (match s.safe.windClass with
                  | .normal => 0x00
                  | .caution => 0x01
                  | .limit => 0x02),
                byteOf s.safe.speed]
              ++ intBytes s.pose.level.pitch ++ intBytes s.pose.level.roll
              ++ (match s.heading with
                | some v => 0x01 :: intBytes v
                | none => [0x00, 0x00, 0x00])
              ++ [if s.pose.latch = true then 0x01 else 0x00,
                placesByte [s.safe.park, s.safe.supplyOk, s.safe.estop, s.safe.manualReq],
                if s.scan.scan.isSome = true then 0x01 else 0x00, byteOf s.cache.entries.length,
                (match s.store.engine with
                  | .idle => 0x00
                  | .erase _ _ => 0x02
                  | _ => 0x01)])
      ∧ (takes p .identify s →
          exec (.identify p) s =
            .next
              (doneState p .identify .done
                ([0x54, 0x45, 0x43, 0x46, 0x4F, 0x4C, 0x44, 0x20, 0x4D, 0x44, 0x43, 0x2D, 0x34, 0x30, 0x20, 0x20,
                    Config.hardwareRevision]
                  ++ intBytes 15000 ++ intBytes (-27000) ++ intBytes 27000 ++ intBytes (-1000) ++ intBytes 9000
                  ++ intBytes (-9000) ++ intBytes 9000 ++ [0x10, 0x08, 0x30, 0x0C, 0x01, 0x00, 0x20, 0x04])
                s))
      ∧ (takes p .scanResult s →
          (s.scan.result = none → exec (.scanResult p) s = .next (doneState p .scanResult .done [] s))
            ∧ ∀ r : ScanResult, s.scan.result = some r →
                exec (.scanResult p) s =
                  .next
                    (doneState p .scanResult .done
                      ([byteOf r.tag,
                          match r.slot with
                            | some n => byteOf n
                            | none => 0xFF]
                        ++ intBytes r.requested ++ intBytes r.done ++ intBytes (r.requested - r.done : Nat)
                        ++ (match r.bestLevel with
                          | some v => 0x01 :: intBytes v
                          | none => [0x00, 0x00, 0x00])
                        ++ (match r.bestPose with
                          | some q => 0x01 :: intBytes q.pan ++ intBytes q.tilt
                          | none => [0x00, 0x00, 0x00, 0x00, 0x00])
                        ++ [match r.endReason with
                            | some why => why.code
                            | none => 0xFF,
                          if r.learned = true then 0x01 else 0x00])
                      s))
      ∧ (∀ (i : Nat) (why : EndReason),
          [EndReason.complete, .yielded, .endedManual, .halted, .safety, .estop, .lockout, .levelLost, .limit, .stalled,
              .driveFault, .envelope, .abandonedSupply, .axisFaulted, .wind, .obstructed, .outOfLevel, .interlock][i]? = some why →
            why.code = byteOf i)
      ∧ (takes p .readCache s →
          ∃ (n : Nat) (parts : List (List Byte)),
            n = (if s.cache.entries = [] then 1 else (s.cache.entries.length + 3) / 4)
              ∧ exec (.readCache p) s =
                .next
                  ((s.setPorts (answerParts p 0x2A .done parts s.ports)).setArb
                    (idleRestarted p s.settings.inForce.idleTimeout s.arb))
              ∧ parts.length = n
              ∧ ∀ (i : Nat) (part : List Byte), parts[i]? = some part →
                  part =
                    [byteOf (i + 1), byteOf n, byteOf s.cache.entries.length]
                      ++ ((s.cache.entries.drop (4 * i)).take 4).flatMap
                        (fun e =>
                          byteOf e.slot :: intBytes e.bearing ++ intBytes e.elevation ++ intBytes e.polarisation
                            ++ intBytes e.height ++ intBytes e.peak)
                      ++ (if i + 1 = n then
                          (match s.cache.reference with
                            | some level => 0x01 :: intBytes level.pitch ++ intBytes level.roll
                            | none => [0x00, 0x00, 0x00, 0x00, 0x00])
                        else []))
      ∧ (∀ slot, takes p (.readSite slot) s →
          (47 < slot → exec (.readSite p slot) s = .next (answeredState p (.readSite slot) .outOfRange [] s))
            ∧ ∀ who n, slot ≤ 47 → s.store.engine = .erase who n →
                exec (.readSite p slot) s = .next (answeredState p (.readSite slot) .tableBusy [0x02] s))
      ∧ ∀ slot, takes p (.readSite slot) s → slot ≤ 47 → s.store.engine.erasing = false →
          ((s.store.slotAt slot).state = .free →
              exec (.readSite p slot) s = .next (doneState p (.readSite slot) .done [0x00] s))
            ∧ ∀ k : Contents, (s.store.slotAt slot).state ≠ .free → (s.store.slotAt slot).contents = some k →
                exec (.readSite p slot) s =
                  .next
                    (doneState p (.readSite slot) .done
                      ((match (s.store.slotAt slot).state with
                          | .free => 0x00
                          | .writing => 0x01
                          | .committed => 0x02
                          | .retired => 0x03
                          | .damaged => 0x04)
                        :: k.site.nameLength :: (k.site.name ++ List.replicate 16 0x00).take 16
                        ++ wordBytes k.site.bearing ++ wordBytes k.site.elevation ++ wordBytes k.site.polarisation
                        ++ wordBytes k.site.height
                        ++ [k.site.pattern, k.site.stepSize, k.site.defaultSteps, k.site.rowLength, k.site.learn,
                          k.site.levelSource, k.redirection])
                      s)

/-! ### Authority -/

/-- CLAIM in FREE, and in HELD against another port: granted, granted at the at-rest confirmation, or kept waiting
(R24, R34; a request brought directly: log 5). -/
def Obligations.ClaimInFreeOrHeld : Prop :=
  ∀ (p : Port) (s : State), takes p .claim s →
    (s.arb.auth = .free → s.arb.holder = none →
        exec (.claim p) s = .next (answeredState p .claim .granted [] (s.setArb (heldBy p s))))
      ∧ ∀ q : Port, s.arb.auth = .held → s.arb.holder = some (.port q) →
          (outranks p (.port q) = true → s.arb.deferred = none → atRest s →
              exec (.claim p) s =
                .next
                  (answeredState p .claim .granted []
                    ((placeAlways q (.authority .lost (some .preempted) 0 0) s).setArb (heldBy p s))))
            ∧ (outranks p (.port q) = true → s.arb.deferred = none → ¬atRest s →
                exec (.claim p) s =
                  .next
                    (answeredState p .claim .pending []
                      (s.setArb { claimed p s with deferred := some .preempt, idle := none })))
            ∧ (outranks p (.port q) = true → s.arb.deferred.isSome = true →
                exec (.claim p) s = .next (answeredState p .claim .pending [] (s.setArb (claimed p s))))
            ∧ (outranks q (.port p) = true →
                exec (.claim p) s = .next (answeredState p .claim .wait [] (s.setArb (claimed p s))))

/-- CLAIM from the holder, in LOCKOUT and in MANUAL: the list is left as it stands (R27; a request brought directly: log 5). -/
def Obligations.ClaimThatJoinsNothing : Prop :=
  ∀ (p : Port) (s : State), takes p .claim s →
    (s.arb.auth ≠ .lockout → s.arb.auth ≠ .manual → s.arb.holder = some (.port p) →
        exec (.claim p) s = .next (doneState p .claim .alreadyHolder [] s))
      ∧ (s.arb.auth = .lockout → exec (.claim p) s = .next (answeredState p .claim .lockedOut [] s))
      ∧ (s.arb.auth = .manual → exec (.claim p) s = .next (answeredState p .claim .manual [] s))
      ∧ (claimsFit s → s.arb.auth = .lockout → s.arb.claims = [])

/-- The ranks, and a claim that joins the list at its rank position; in MOVING a claim above a port holder discards the waiting
entries outside the active group and tells the holder YIELD DUE with their number; in YIELDING, in MANUAL PENDING, against SAFETY
and from below the holder a claim only joins (R22, R23, R25, R26; a request brought directly: log 5). -/
def Obligations.ClaimsWaitInRankOrder : Prop :=
   ((∀ p q : Port, p ≠ q → (outranks p (.port q) = true ↔ outranks q (.port p) = false))
      ∧ outranks .rack (.port .cab) = true ∧ outranks .cab (.port .link) = true ∧ outranks .rack (.port .link) = true
      ∧ (∀ p : Port, outranks p (.port p) = false ∧ outranks p .safety = false)
      ∧ ∀ (p : Port) (claims : List Port),
          (∀ q, q ∈ joinClaims p claims ↔ q = p ∨ q ∈ claims)
            ∧ (joinClaims p claims).Pairwise (fun a b => outranks a (.port b) = true))
    ∧ (∀ (p q : Port) (s : State), takes p .claim s → s.arb.auth = .moving → s.arb.holder = some (.port q) →
          outranks p (.port q) = true →
            (∀ (x : Active) (e : Entry) (rest : List Entry), s.exe.active = some x → s.exe.queue = e :: rest →
                exec (.claim p) s =
                  .next
                    (answeredState p .claim .pending []
                      (placeAlways q (.authority .yieldDue (some .preempted) 0 (pastGroup e rest).length)
                        ((s.setExe
                              { s.exe with
                                queue := e :: groupBehind e rest, active := some { x with yieldDue := true } }).setArb
                          { claimed p s with auth := .yielding, releaseMark := false }))))
              ∧ (s.exe.active = none →
                  exec (.claim p) s =
                    .next
                      (answeredState p .claim .pending []
                        (placeAlways q (.authority .yieldDue (some .preempted) 0 s.exe.queue.length)
                          ((s.setExe { s.exe with queue := [] }).setArb
                            { claimed p s with auth := .yielding, releaseMark := false })))))
    ∧ (∀ (p : Port) (h : Party) (s : State), takes p .claim s → s.arb.holder = some h → h ≠ .port p →
          s.arb.auth = .yielding ∨ s.arb.auth = .manualPending ∨ (s.arb.auth = .moving ∧ outranks p h = false) →
            exec (.claim p) s =
              .next
                (answeredState p .claim (if outranks p h = true then .pending else .wait) [] (s.setArb (claimed p s))))

/-- WITHDRAW takes the port's claim off the list and changes nothing else; without a claim it is answered NO CLAIM, which is
every WITHDRAW of the holder (R28; a request brought directly: log 5). -/
def Obligations.WithdrawRemovesTheClaim : Prop :=
  ∀ (p : Port) (s : State), takes p .withdraw s →
    (p ∈ s.arb.claims →
        exec (.withdraw p) s =
          .next
            (doneState p .withdraw .done []
              (s.setArb { s.arb with claims := s.arb.claims.filter (fun q => q != p) })))
      ∧ (p ∉ s.arb.claims → exec (.withdraw p) s = .next (answeredState p .withdraw .noClaim [] s))
      ∧ (claimsFit s → s.arb.holder = some (.port p) →
          exec (.withdraw p) s = .next (answeredState p .withdraw .noClaim [] s))

/-- RELEASE in each state: authority passes to nobody or to the highest claim, or waits for the at-rest confirmation; in MOVING
the waiting entries outside the active group are discarded, all of them during a closing (R29, R30, R34, R64; that authority
passes to nobody at once, and that a RELEASE taken while another handover is deferred in HELD replaces it, are the model's
choice, log 19; a request brought directly: log 5). -/
def Obligations.ReleaseGivesUpAuthority : Prop :=
  ∀ (p : Port) (s : State), takes p .release s →
    (s.arb.holder ≠ some (.port p) → exec (.release p) s = .next (answeredState p .release .notHolder [] s))
      ∧ (s.arb.holder = some (.port p) →
          (s.arb.auth = .held → s.arb.claims = [] →
              exec (.release p) s = .next (answeredState p .release .done [] (s.setArb (freed s))))
            ∧ (∀ q others, s.arb.auth = .held → s.arb.claims = q :: others → atRest s →
                exec (.release p) s =
                  .next
                    (answeredState p .release .done []
                      (placeAlways q (.authority .granted (some .released) 0 0) (s.setArb (heldBy q s)))))
            ∧ (s.arb.auth = .held → s.arb.claims ≠ [] → ¬atRest s →
                exec (.release p) s =
                  .next
                    (answeredState p .release .done []
                      (s.setArb { s.arb with releaseMark := true, deferred := some .release, idle := none })))
            ∧ (∀ x e rest, s.arb.auth = .moving → s.exe.active = some x → s.exe.queue = e :: rest →
                exec (.release p) s =
                  .next
                    (answeredState p .release .done [byteOf (pastGroup e rest).length]
                      ((s.setExe
                            { s.exe with
                              queue := e :: groupBehind e rest, active := some { x with yieldDue := true } }).setArb
                        { s.arb with auth := .yielding, releaseMark := true })))
            ∧ (s.arb.auth = .moving → s.exe.active = none →
                exec (.release p) s =
                  .next
                    (answeredState p .release .done [byteOf s.exe.queue.length]
                      ((s.setExe { s.exe with queue := [] }).setArb { s.arb with auth := .yielding, releaseMark := true })))
            ∧ (s.arb.auth = .yielding →
                exec (.release p) s =
                  .next (answeredState p .release .done [0x00] (s.setArb { s.arb with releaseMark := true })))
            ∧ (s.arb.auth = .manualPending →
                exec (.release p) s =
                  .next (answeredState p .release .done [] (s.setArb { s.arb with releaseMark := true }))))

/-- The idle timer expires: the highest claim receives authority, at once or at the at-rest confirmation, or nobody does; a
timeout of 0 does not expire, and the expiry of a timer that does not run changes nothing, which is the model's choice (log 4).
A handover deferred in HELD, at a boundary in YIELDING, or at the end of a safety group is made by the reading that shows every
axis at rest or FAULTED: the highest claim becomes the holder, is told how, and the old holder is told that it lost authority;
in YIELDING, without a claim, the holder that has released loses it and another keeps it (R4, R24, R29, R33, R34, R36, R37,
R41). -/
def Obligations.IdleExpiryAndDeferral : Prop :=
   (∀ (p : Port) (limit : Int) (s : State), s.powered = true → s.arb.holder = some (.port p) → s.arb.idle = some limit →
      s.arb.auth = .held →
        (limit ≠ 0 →
          (s.arb.claims = [] →
              exec .idleTimerExpiry s =
                .next ((placeAlways p (.authority .lost (some .idle) 0 0) s).setArb (freed s)))
            ∧ (∀ q others, s.arb.claims = q :: others → atRest s →
                exec .idleTimerExpiry s =
                  .next
                    (placeAlways q (.authority .granted (some .idle) 0 0)
                      ((placeAlways p (.authority .lost (some .idle) 0 0) s).setArb (heldBy q s))))
            ∧ (s.arb.claims ≠ [] → ¬atRest s →
                exec .idleTimerExpiry s = .next (s.setArb { s.arb with deferred := some .idle, idle := none })))
          ∧ (limit = 0 → exec .idleTimerExpiry s = .next s))
    ∧ (∀ s : State, s.powered = true → s.arb.auth ≠ .held ∨ s.arb.idle = none → exec .idleTimerExpiry s = .next s)
    ∧ (∀ (d : Deferral) (r : Reading) (s u : State), s.powered = true → u = recordReading r s → s.arb.deferred = some d →
          s.arb.crankEnd = none → s.exe.active = none → s.exe.closing = none → atRest u →
            ∃ t, exec (.poseReading r) s = .next t ∧ t.exe = s.exe ∧ Outside u t ∧ sameBesides [2, 3, 12] s t
              ∧ (∀ (p q : Port) (others : List Port) (why : AuthReason), s.arb.auth = .held → s.arb.holder = some (.port p) →
                  s.arb.claims = q :: others → p ≠ q →
                    (d = .preempt ∧ why = .preempted ∧ outranks q (.port p) = true) ∨ (d = .release ∧ why = .released)
                        ∨ (d = .idle ∧ why = .idle) →
                      t.arb = heldBy q s ∧ tells q (.authority .granted (some why) 0 0) s t
                        ∧ tells p (.authority .lost (some why) 0 0) s t)
              ∧ (∀ p : Port, d = .yield → s.arb.auth = .yielding → s.arb.holder = some (.port p) → YieldMade p u t)
              ∧ (d = .safetyEnd → s.arb.auth = .moving → s.arb.holder = some .safety → s.arb.reasons = Reasons.empty →
                  GivenBack u t))

/-- The holder check: a request that acts on the mechanism from a port that is not the holder, and a submission from the holder
in YIELDING, in MANUAL PENDING or while a handover is deferred, is refused and changes nothing (R21; a request brought directly:
log 5). -/
def Obligations.MotionRequestsNeedTheHolder : Prop :=
  ∀ (c : Instr) (p : Port) (r : Request) (s : State), c.request? = some (p, r) → takes p r s →
    ((submits r = true ∨ acts r = true) → s.arb.holder ≠ some (.port p) →
        exec c s = .next (answeredState p r .notHolder [] s))
      ∧ (submits r = true → s.arb.holder = some (.port p) →
          s.arb.auth = .yielding ∨ s.arb.auth = .manualPending ∨ s.arb.deferred.isSome = true →
            exec c s = .next (answeredState p r .notPermitted [] s))

/-- CLEAR LOCKOUT: only RACK; ESTOP leaves the set if its line is negated, and then STOW FAILED; every port that admits it sees
the change; the set emptied in LOCKOUT gives FREE while PARK is asserted, and with PARK negated the park rule is applied in FREE:
a stowed pose adds INTERLOCK, one that cannot be stowed STOW BLOCKED, and a stowable one gives SAFETY the park stow (R43, R44,
R45, R96; the moment of the answer, and that STOW FAILED leaves the set whatever PARK is, are the model's choice, log 25, log 49;
a request brought directly: log 5). -/
def Obligations.ClearLockoutRemovesReasons : Prop :=
  ∀ (p : Port) (left : Reasons) (s : State), takes p .clearLockout s →
    left =
        { s.arb.reasons with
          estop := s.arb.reasons.estop && s.safe.estop
          stowFailed := s.arb.reasons.stowFailed && (s.arb.reasons.estop && s.safe.estop) } →
      (p ≠ .rack → exec (.clearLockout p) s = .next (answeredState p .clearLockout .notPermitted [] s))
        ∧ (p = .rack → s.arb.reasons = Reasons.empty →
            exec (.clearLockout p) s = .next (doneState p .clearLockout .done [0x00] s))
        ∧ (p = .rack → s.arb.reasons ≠ Reasons.empty → left = s.arb.reasons →
            exec (.clearLockout p) s = .next (answeredState p .clearLockout .lockedOut [left.byte] s))
        ∧ (p = .rack → left ≠ s.arb.reasons → s.arb.auth ≠ .lockout ∨ left ≠ Reasons.empty →
            ∃ u, exec (.clearLockout p) s = .next (doneState p .clearLockout .done [left.byte] u)
              ∧ onlyOutputs (fun _ => [12]) (s.setArb { s.arb with reasons := left }) u
              ∧ tellsAll (.condition .lockout left s.pose.latch s.safe.alarmPark s.safe.alarmWind s.settings.defaulted) s u)
        ∧ (p = .rack → left ≠ s.arb.reasons → s.arb.auth = .lockout → left = Reasons.empty → s.safe.park = true →
            ∃ u, exec (.clearLockout p) s = .next (answeredState p .clearLockout .done [0x00] u)
              ∧ onlyOutputs (fun _ => [12]) (s.setArb { freed s with reasons := left }) u
              ∧ tellsAll (.condition .lockout left s.pose.latch s.safe.alarmPark s.safe.alarmWind s.settings.defaulted) s u)
        ∧ (∀ v : State, p = .rack → left ≠ s.arb.reasons → s.arb.auth = .lockout → left = Reasons.empty → s.safe.park = false →
            s.exe.queue = [] → s.exe.active = none → s.exe.closing = none → s.safe.group = none → poseFollows s →
              v = s.setArb { freed s with reasons := left } →
                ∃ t, exec (.clearLockout p) s = .next t ∧ responds [3, 12, 14] p .clearLockout .done [0x00] s t ∧ Outside s t
                  ∧ (stowAxes s.pose.position = [] →
                      t.arb = lockedOut { Reasons.empty with interlock := true } v ∧ t.exe = s.exe)
                  ∧ (stowAxes s.pose.position ≠ [] → stowable s.pose.position s.pose.faulted = false →
                      t.arb = lockedOut { Reasons.empty with stowBlocked := true } v ∧ t.exe = s.exe)
                  ∧ (stowAxes s.pose.position ≠ [] → stowable s.pose.position s.pose.faulted = true →
                      s.exe.supply = .available → StowBegun v t))

/-! ### The segment queue and the motion executor -/

/-- QUEUE MOVES is checked for form, range and room in that order, and refused whole (R49 to R51; that a fault in the count or the
lock flag is answered before one in a move is the model's choice, log 50; a request brought directly: log 5). -/
def Obligations.QueueMovesIsChecked : Prop :=
  ∀ (p : Port) (lock : Byte) (moves : List RawMove) (r : Request) (s : State),
    r = .queueMoves lock moves → takes p r s → maySubmit p s →
      (moves.length = 0 ∨ 8 < moves.length ∨ (lock ≠ 0x00 ∧ lock ≠ 0x01) →
          exec (.queueMoves p lock moves) s = .next (answeredState p r .badRequest [0x00] s))
        ∧ ((lock = 0x00 ∨ lock = 0x01) → moves.length ≤ 8 →
            (∀ front m rest, moves = front ++ m :: rest → front.all goodForm = true → goodForm m = false →
                exec (.queueMoves p lock moves) s =
                  .next (answeredState p r .badRequest [byteOf (front.length + 1)] s))
              ∧ (∀ front m rest, moves = front ++ m :: rest → moves.all goodForm = true → front.all valueFits = true →
                  valueFits m = false →
                    exec (.queueMoves p lock moves) s =
                      .next (answeredState p r .outOfRange [byteOf (front.length + 1)] s))
              ∧ (moves ≠ [] → moves.all goodForm = true → moves.all valueFits = true →
                  16 < s.exe.queue.length + moves.length →
                    exec (.queueMoves p lock moves) s =
                      .next (answeredState p r .queueFull [byteOf (16 - s.exe.queue.length)] s)))

/-- An accepted QUEUE MOVES stands behind the entries present, in its order, with consecutive tags and, if locked, the first
tag as its group; behind an active entry nothing else changes (R46, R47, R48, R51, R63; a request brought directly: log 5). -/
def Obligations.AcceptedMovesWaitTheirTurn : Prop :=
  ∀ (p : Port) (lock : Byte) (moves : List RawMove) (r : Request) (s : State),
    r = .queueMoves lock moves → takes p r s → maySubmit p s → lock = 0x00 ∨ lock = 0x01 → moves ≠ [] →
      moves.all goodForm = true → moves.all valueFits = true → moves.length ≤ 8 →
        s.exe.queue.length + moves.length ≤ 16 → 1 ≤ s.exe.nextTag → s.exe.nextTag ≤ 255 → s.exe.active.isSome = true →
          s.exe.closing = none →
            ∃ added : List Entry,
              exec (.queueMoves p lock moves) s =
                  .next
                    (doneState p r .accepted
                      [byteOf s.exe.nextTag, byteOf moves.length, byteOf (s.exe.queue.length + moves.length)]
                      (s.setExe
                        { s.exe with
                          queue := s.exe.queue ++ added, nextTag := tagPlus s.exe.nextTag moves.length }))
                ∧ added.length = moves.length
                ∧ ∀ (i : Nat) (m : RawMove) (e : Entry), moves[i]? = some m → added[i]? = some e →
                    RawMove.motion m = some e.motion ∧ Rate.ofByte? m.rate = some e.rate
                      ∧ e.tag = tagPlus s.exe.nextTag i
                      ∧ e.group = (if lock = 0x01 then some s.exe.nextTag else none)
                      ∧ e.origin = .port p ∧ e.purpose = .plain ∧ e.slot = none ∧ e.target = none

/-- The first move of a holder in HELD becomes active at once, MOVE TO or MOVE BY. If it passes the start checks it is driven,
in MOVING, when it lies outside tolerance with the supply available; within tolerance it settles, or is complete if at rest; and
without the supply it is SUSPENDED. If it fails a check, the first that fails gives the reason, nothing is driven, and the
holder stands in HELD again (R3, R20, R51, R54, R55, R57, R61, R67, R68, R73, R78; the direction line for a difference of zero is
the model's choice, log 42; a request brought directly: log 5). -/
def Obligations.AFirstMoveStartsOrFails : Prop :=
  ∀ (p : Port) (m : RawMove) (a : Axis) (target : Int) (motion : Motion) (rate : Rate) (r : Request) (e : Entry)
      (b : Executor) (s : State),
    r = .queueMoves 0x00 [m] → takes p r s → s.arb.holder = some (.port p) → s.arb.auth = .held → s.arb.deferred = none →
      s.exe.queue = [] → s.exe.active = none → s.exe.closing = none → goodForm m = true → valueFits m = true →
        RawMove.motion m = some motion → Rate.ofByte? m.rate = some rate →
          motion = .moveTo a target ∨ motion = .moveBy a (target - s.pose.position.get a) →
            e =
                { tag := s.exe.nextTag, group := none, motion := motion, rate := rate, origin := .port p, purpose := .plain
                  slot := none, target := some target } →
              b = { s.exe with queue := [e], nextTag := tagAfter s.exe.nextTag } →
                (passes e a target s →
                    (s.exe.supply = .available → within a (s.pose.position.get a) target = false →
                        exec (.queueMoves p 0x00 [m]) s =
                          .next
                            (answeredState p r .accepted [byteOf s.exe.nextTag, 0x01, 0x01]
                              ((s.setExe
                                    { b with
                                      active := some (activeOn a target .running (drivingOn a s) s)
                                      drives := s.exe.drives.set a (drivenToward target rate a s) }).setArb
                                { s.arb with auth := .moving, idle := none })))
                      ∧ (s.exe.supply = .available → within a (s.pose.position.get a) target = true →
                          s.pose.atRest.get a = false →
                            exec (.queueMoves p 0x00 [m]) s =
                              .next
                                (answeredState p r .accepted [byteOf s.exe.nextTag, 0x01, 0x01]
                                  ((s.setExe
                                        { b with
                                          active := some (activeOn a target .running ((Axes.all .idle).set a .settling) s)
                                          drives := s.exe.drives.set a (settlingToward target a s) }).setArb
                                    { s.arb with auth := .moving, idle := none })))
                      ∧ (s.exe.supply = .available → within a (s.pose.position.get a) target = true →
                          s.pose.atRest.get a = true →
                            ∃ t, exec (.queueMoves p 0x00 [m]) s = .next t
                              ∧ responds [4] p r .accepted [byteOf s.exe.nextTag, 0x01, 0x01] s t
                              ∧ t.exe =
                                  { s.exe with
                                    nextTag := tagAfter s.exe.nextTag, suspension := none
                                    drives := s.exe.drives.set a (settlingToward target a s).stop }
                              ∧ t.arb = heldBy p s ∧ t.scan = s.scan ∧ Outside s t
                              ∧ tellsIf p (.segmentDone s.exe.nextTag 1 0) s t)
                      ∧ (s.exe.supply ≠ .available →
                          ∃ t, exec (.queueMoves p 0x00 [m]) s = .next t
                            ∧ responds [14] p r .accepted [byteOf s.exe.nextTag, 0x01, 0x01] s t
                            ∧ t.exe =
                                { b with
                                  active := some (activeOn a target .suspended (Axes.all .idle) s)
                                  suspension := some s.settings.inForce.suspension
                                  drives := s.exe.drives.set a (s.exe.drives.get a).stop }
                            ∧ t.arb = { s.arb with auth := .moving, idle := none } ∧ t.scan = s.scan ∧ Outside s t
                            ∧ tellsAll
                                (.supplySuspended s.exe.nextTag (.port p) .plain s.settings.inForce.suspension) s t))
                  ∧ ∀ why : EndReason, s.scan.scan = none →
                      (s.pose.faulted.get a = true ∧ why = .axisFaulted)
                          ∨ (s.pose.faulted.get a = false ∧ m.kind = 0x01 ∧ inRange a target = false ∧ why = .limit)
                          ∨ (s.pose.faulted.get a = false ∧ inRange a target = true ∧ envelope s (some a) target = some why)
                          ∨ (s.pose.faulted.get a = false ∧ inRange a target = true ∧ envelope s (some a) target = none
                              ∧ s.safe.park = false ∧ why = .interlock) →
                        ∃ t, exec (.queueMoves p 0x00 [m]) s = .next t
                          ∧ responds [5] p r .accepted [byteOf s.exe.nextTag, 0x01, 0x01] s t
                          ∧ t.exe.queue = [] ∧ t.exe.active = none ∧ t.exe.closing = none
                          ∧ (∀ c : Axis, c ≠ a → t.exe.drives.get c = s.exe.drives.get c)
                          ∧ (s.exe.drives.get a = (s.exe.drives.get a).stop → t.exe.drives.get a = s.exe.drives.get a)
                          ∧ t.arb = heldBy p s ∧ t.scan = s.scan ∧ Outside s t
                          ∧ tellsIf p (.segmentFailed s.exe.nextTag (some a) .plain none why 0 1) s t

/-- The envelope check: its verdicts, the first that applies (R12 to R16, R91). -/
def Obligations.EnvelopeVerdicts : Prop :=
  ∀ (s : State) (target ceiling : Int) (parkedBelow : Prop),
    ceiling = (match s.safe.windClass with
      | .normal => 15000
      | .caution => s.settings.inForce.ceiling
      | .limit => 3000) →
    (parkedBelow ↔ -5 ≤ s.pose.position.pan ∧ s.pose.position.pan ≤ 5 ∧ -1005 ≤ s.pose.position.tilt
        ∧ s.pose.position.tilt ≤ -995) →
      envelope s (some .pol) target = none
        ∧ (∀ axis, axis = some .pan ∨ axis = some .tilt ∨ axis = none →
            envelope s axis target = if s.pose.position.mast < 1200 then some .envelope else none)
        ∧ (s.pose.position.mast < target →
            (ceiling < target → envelope s (some .mast) target = some .wind)
              ∧ (target ≤ ceiling → s.pose.latch = true → envelope s (some .mast) target = some .obstructed)
              ∧ (target ≤ ceiling → s.pose.latch = false →
                  (s.pose.level.pitch < -500 ∨ 500 < s.pose.level.pitch ∨ s.pose.level.roll < -500
                      ∨ 500 < s.pose.level.roll →
                    envelope s (some .mast) target = some .outOfLevel)
                    ∧ (-500 ≤ s.pose.level.pitch → s.pose.level.pitch ≤ 500 → -500 ≤ s.pose.level.roll →
                        s.pose.level.roll ≤ 500 → envelope s (some .mast) target = none)))
        ∧ (target < s.pose.position.mast →
            (target < 1200 → ¬parkedBelow → envelope s (some .mast) target = some .envelope)
              ∧ (1200 ≤ target ∨ parkedBelow → envelope s (some .mast) target = none))
        ∧ (target = s.pose.position.mast → envelope s (some .mast) target = none)

/-- HALT ends the active entry and discards every waiting one, answers with the tag and their number, and its boundary is taken
when the axes have come to rest: in MOVING the holder stands in HELD, in YIELDING authority is handed on, in MANUAL PENDING the
crank is granted. During a closing, and with no entry active, it only discards; outside HELD and a closing that it then reports
no boundary, and that MANUAL BEGUN carries no tag and no discards of a HALT, which AUTHORITY LOST carries, are the model's
choice (R33, R65, R82, R86; log 21, log 36; a request brought directly: log 5). -/
def Obligations.HaltStopsTheHolder : Prop :=
  ∀ (p : Port) (s : State), takes p .halt s → s.arb.holder = some (.port p) →
    (∀ x e rest, activeIs x e rest s →
        ∃ t, exec (.halt p) s = .next t ∧ responds [2, 7, 13] p .halt .done [byteOf e.tag, byteOf rest.length] s t
          ∧ t.exe.queue = [] ∧ t.exe.active = none ∧ t.exe.suspension = none ∧ t.exe.nextTag = s.exe.nextTag
          ∧ stopsOnly e.motion.axes s t ∧ scanEnds .halted s t ∧ Outside s t
          ∧ (¬restedOn e.motion.axes s → s.arb.auth ≠ .held →
              t.arb = s.arb
                ∧ ∃ c, t.exe.closing = some c ∧ c.ending.boundary = true ∧ c.ending.halted = e.tag
                  ∧ c.ending.discarded = rest.length)
          ∧ (restedOn e.motion.axes s → t.exe.closing = none ∧ Boundary p e.tag rest.length s t))
      ∧ (s.exe.active = none → (∀ c, s.exe.closing = some c → ¬restedOn c.axes s) → s.exe.suspension = none →
          exec (.halt p) s =
            .next
              (doneState p .halt .done [0x00, byteOf s.exe.queue.length]
                (s.setExe { s.exe with queue := [] })))

/-- A fault line asserted sets FAULTED, and fails the active entry if it drives that axis; negated, it leaves the flag set; CLEAR
AXIS of the holder clears the flag while the line is negated, and a new assertion sets it again (R6, R7, R59, R60; a request
brought directly: log 5). -/
def Obligations.FaultedFlag : Prop :=
   (∀ (a : Axis) (s u : State), s.powered = true → nothingWaits s →
      u = s.setPose
          { s.pose with faulted := s.pose.faulted.set a true, faultLine := s.pose.faultLine.set a true } →
        (s.pose.faultLine.get a = true → exec (.faultLineAsserted a) s = .next s)
          ∧ (s.pose.faultLine.get a = false → s.exe.active = none → s.exe.closing = none →
              exec (.faultLineAsserted a) s = .next u)
          ∧ (∀ x e rest, activeIs x e rest s → s.pose.faultLine.get a = false →
              (e.motion.axes.get a = false → exec (.faultLineAsserted a) s = .next u)
                ∧ (e.motion.axes.get a = true →
                    ∃ t, exec (.faultLineAsserted a) s = .next t ∧ Failed e rest.length .driveFault u t))
          ∧ exec (.faultLineNegated a) s =
              .next (s.setPose { s.pose with faultLine := s.pose.faultLine.set a false }))
    ∧ (∀ (p : Port) (code : Byte) (s : State), takes p (.clearAxis code) s →
          (s.arb.holder ≠ some (.port p) →
              exec (.clearAxis p code) s = .next (answeredState p (.clearAxis code) .notHolder [] s))
            ∧ (s.arb.holder = some (.port p) → ∀ a : Axis, axisOf? code = some a →
                (s.pose.faulted.get a = false →
                    exec (.clearAxis p code) s = .next (doneState p (.clearAxis code) .done [] s))
                  ∧ (s.pose.faulted.get a = true → s.pose.faultLine.get a = false →
                      exec (.clearAxis p code) s =
                          .next
                            (doneState p (.clearAxis code) .done []
                              (s.setPose { s.pose with faulted := s.pose.faulted.set a false }))
                        ∧ ∃ t, exec (.faultLineAsserted a) (after s (exec (.clearAxis p code) s)) = .next t
                            ∧ t.pose.faulted.get a = true)
                  ∧ (s.pose.faulted.get a = true → s.pose.faultLine.get a = true →
                      exec (.clearAxis p code) s = .next (answeredState p (.clearAxis code) .faultPresent [] s))))

/-- An obstruction edge sets the latch, told to every port that admits it if the latch was clear, and fails a raising entry,
running or suspended, and no other; CLEAR LATCHES clears it for the holder and for RACK, and an edge after it sets it again (R9
to R11; a request brought directly: log 5). -/
def Obligations.ObstructionLatch : Prop :=
   (∀ (s u : State), s.powered = true → u = s.setPose { s.pose with latch := true } →
      ((∀ x, s.exe.active = some x → x.mastClass ≠ some .raising) →
          (s.pose.latch = true → exec .obstructionEdge s = .next s)
            ∧ (s.pose.latch = false →
                ∃ t, exec .obstructionEdge s = .next t ∧ onlyOutputs (fun _ => [12]) u t
                  ∧ tellsAll
                      (.condition .latch s.arb.reasons true s.safe.alarmPark s.safe.alarmWind s.settings.defaulted) s t))
        ∧ ∀ x e rest, activeIs x e rest s → x.mastClass = some .raising →
            ∃ t, exec .obstructionEdge s = .next t ∧ Failed e rest.length .obstructed u t)
    ∧ (∀ (p : Port) (s : State), takes p .clearLatches s →
          (s.arb.holder = some (.port p) ∨ p = .rack →
              exec (.clearLatches p) s =
                  .next (doneState p .clearLatches .done [] (s.setPose { s.pose with latch := false }))
                ∧ ∃ t, exec .obstructionEdge (after s (exec (.clearLatches p) s)) = .next t ∧ t.pose.latch = true)
            ∧ (s.arb.holder ≠ some (.port p) → p ≠ .rack →
                exec (.clearLatches p) s = .next (answeredState p .clearLatches .notPermitted [] s)))

/-- A reading replaces counts, positions and at-rest flags, and the lamp and the alarm causes follow it; while nothing moves and
nothing waits that is all, but for the condition notice of a changed alarm. One that shows the running move within tolerance and
at rest completes it: the origin is told and the drive is stopped. With nothing behind it the boundary is taken: a port holder
stands in HELD, hands authority on in YIELDING, or gives way to the crank in MANUAL PENDING; SAFETY gives authority back, or
LOCKOUT is entered with INTERLOCK after a park stow with PARK negated. A member of its group behind it, and in MOVING of a port
any entry, becomes active next and is driven, the authority state unchanged. Else the running axis goes from driving to settling
when it has entered tolerance, with STOP presented, and back when it has left it, driven toward the same target with a stall
window that starts afresh; pan and tilt of a scan's move do the same. A step move whose axes both stand is stopped and its dwell
begins; the final move ends the scan COMPLETE, and what it solves is learned. A suspended entry, and a scan in a dwell or a
level wait, are not touched (R4, R5, R19, R31 to R33, R41, R54, R56 to R58, R67, R69, R82, R94, R98, R100, R126 to R128, R147,
R152, R155). That a settled axis of a scan's move keeps settling until the other has arrived, and is driven again if it drifts
out, is the model's choice (log 14); so is that an idle axis of such a move stays undriven (log 15), and that the last condition
notice of a boundary carries the alarm as the same reading left it (log 45). -/
def Obligations.ReadingsMoveThePose : Prop :=
   (∀ (r : Reading) (s : State), s.powered = true →
      (∃ t, exec (.poseReading r) s = .next t ∧ t.pose.counts = r.counts ∧ t.pose.atRest = r.atRest
          ∧ t.pose.level = s.pose.level ∧ t.pose.latch = s.pose.latch ∧ t.pose.faulted = s.pose.faulted
          ∧ t.pose.position.mast = max 0 (min 15000 ((r.counts.mast + 5) / 10 * 10))
          ∧ t.pose.position.pan = max (-27000) (min 27000 r.counts.pan)
          ∧ t.pose.position.tilt = max (-1000) (min 9000 r.counts.tilt)
          ∧ t.pose.position.pol = max (-9000) (min 9000 r.counts.pol)
          ∧ (t.pose.lamp = true ↔ t.pose.position.mast ≤ 20 ∧ -5 ≤ t.pose.position.pan ∧ t.pose.position.pan ≤ 5
              ∧ t.pose.position.tilt ≤ -995))
        ∧ ∀ (park wind : Bool) (u : State), park = (s.safe.alarmPark && !(recordReading r s).pose.lamp) →
            wind = (s.safe.alarmWind && decide (3000 < (recordReading r s).pose.position.mast)) →
              u = (recordReading r s).setSafe { s.safe with alarmPark := park, alarmWind := wind, alarm := park || wind } →
                s.exe.active = none → s.exe.closing = none → nothingWaits s →
                  (s.safe.alarm = (park || wind) → exec (.poseReading r) s = .next u)
                    ∧ (s.safe.alarm ≠ (park || wind) →
                        ∃ t, exec (.poseReading r) s = .next t ∧ onlyOutputs (fun _ => [12]) u t
                          ∧ tellsAll
                              (.condition .alarm s.arb.reasons s.pose.latch park wind s.settings.defaulted) s t))
    ∧ (∀ (a : Axis) (v : Int) (w : Option Int) (x : Active) (e : Entry) (rest : List Entry) (r : Reading) (s u : State),
          s.powered = true → u = recordReading r s → activeIs x e rest s → nothingWaits s → e.motion.axis = some a →
            e.target = some v → x.execution = .running →
              x.phases.get a = (match w with
                | some count => .driving count
                | none => .settling) →
                within a (u.pose.position.get a) v = true → r.atRest.get a = true →
                  (rest = [] → s.exe.suspension = none → ∃ t, exec (.poseReading r) s = .next t ∧ Completed [] e u t)
                    ∧ ∀ (e2 : Entry) (more : List Entry) (a2 : Axis) (v2 : Int), rest = e2 :: more → passes e2 a2 v2 u →
                        s.exe.supply = .available → within a2 (u.pose.position.get a2) v2 = false → s.arb.auth ≠ .held →
                          inGroup e e2 = true ∨ (s.arb.auth = .moving ∧ (holderPort s).isSome = true) →
                            ∃ t, exec (.poseReading r) s = .next t
                              ∧ t.exe.queue = { e2 with target := some v2 } :: more ∧ t.exe.closing = none
                              ∧ t.exe.active = some (activeOn a2 v2 .running (drivingOn a2 u) u)
                              ∧ (∀ b : Axis, t.exe.drives.get b =
                                  if b = a2 then drivenToward v2 e2.rate a2 u else haltedDrive b s)
                              ∧ t.exe.nextTag = s.exe.nextTag ∧ t.arb = s.arb ∧ t.scan = s.scan ∧ Outside u t
                              ∧ t.safe.group = s.safe.group ∧ sameBesides [4, 12] s t
                              ∧ ∀ p : Port, e.origin = .port p → tellsIf p (.segmentDone e.tag 1 (more.length + 1)) s t)
    ∧ ∀ (x : Active) (e : Entry) (rest : List Entry) (r : Reading) (s u : State), s.powered = true → activeIs x e rest s →
        nothingWaits s → u = readingTaken r s →
          (x.execution = .suspended → ∃ t, exec (.poseReading r) s = .next t ∧ leaves u s t)
            ∧ (∀ a v, x.execution = .running → e.motion.axis = some a → e.target = some v →
                within a (u.pose.position.get a) v = false ∨ r.atRest.get a = false →
                  ∃ t, exec (.poseReading r) s = .next t
                    ∧ leaves
                        (u.setExe
                          { s.exe with
                            active := some { x with phases := x.phases.set a (phaseAfter v a (x.phases.get a) u) }
                            drives := s.exe.drives.set a (driveAfter v e.rate a (x.phases.get a) u) })
                        s t)
            ∧ ∀ q z result, scanRuns x e rest q z result s →
                (z.phase = .dwell ∨ z.phase = .levelWait → ∃ t, exec (.poseReading r) s = .next t ∧ leaves u s t)
                  ∧ (z.phase = .stepMove ∨ z.phase = .finalMove → ¬scanStands z.target u →
                      ∃ t, exec (.poseReading r) s = .next t
                        ∧ leaves
                            (u.setExe
                              { s.exe with
                                active :=
                                  some
                                    { x with
                                      phases :=
                                        { x.phases with
                                          pan := phaseAfter z.target.pan .pan x.phases.pan u
                                          tilt := phaseAfter z.target.tilt .tilt x.phases.tilt u } }
                                drives :=
                                  { s.exe.drives with
                                    pan := driveAfter z.target.pan .slow .pan x.phases.pan u
                                    tilt := driveAfter z.target.tilt .slow .tilt x.phases.tilt u } })
                            s t)
                  ∧ (z.phase = .stepMove → scanStands z.target u →
                      ∃ t, exec (.poseReading r) s = .next t ∧ leaves (stepArrived x z u) s t)
                  ∧ (z.phase = .finalMove → scanStands z.target u → rest = [] →
                      ∃ t w, exec (.poseReading r) s = .next t ∧ ScanDone [] e w (recordReading r s) t
                        ∧ EndsComplete result w (recordReading r s) t)

/-- The stall watch: a window of fewer than 10 counts, or a settling of 2 s that has not arrived, fails the entry; a window of
more begins the next one; an axis in neither phase is not watched. A failed safety entry ends its group at once, whether its
axis has come to rest or not, and a wind lowering then sets the WIND cause, which is the model's choice (log 54). The rest
watch: an axis of a closing that has not come to rest becomes FAULTED and the boundary is taken; a failed park stow with PARK
negated adds STOW FAILED there (R32, R33, R41, R58, R61, R62, R82, R94, R98; that the next window begins at the count as it
stands, that a timeout at an arrived axis and a rest watch with no closing change nothing, are the model's choice, log 4, log
13, log 14). -/
def Obligations.StallAndRestWatches : Prop :=
   (∀ (a : Axis) (x : Active) (e : Entry) (rest : List Entry) (s : State),
      s.powered = true → activeIs x e rest s →
        (∀ w, x.execution = .running → x.phases.get a = .driving w → (s.pose.counts.get a - w).natAbs < 10 →
            ∃ t, exec (.stallWindowExpiry a) s = .next t ∧ Failed e rest.length .stalled s t)
          ∧ (∀ w, x.execution = .running → x.phases.get a = .driving w → 10 ≤ (s.pose.counts.get a - w).natAbs →
              exec (.stallWindowExpiry a) s =
                .next
                  (s.setExe
                    { s.exe with
                      active := some { x with phases := x.phases.set a (.driving (s.pose.counts.get a)) } }))
          ∧ (∀ v, x.execution = .running → x.phases.get a = .settling → e.motion.axis = some a → e.target = some v →
              (arrived a v s = false →
                  ∃ t, exec (.settlingTimeout a) s = .next t ∧ Failed e rest.length .stalled s t)
                ∧ (arrived a v s = true → exec (.settlingTimeout a) s = .next s))
          ∧ (x.execution = .suspended ∨ x.phases.get a = .idle →
              exec (.stallWindowExpiry a) s = .next s ∧ exec (.settlingTimeout a) s = .next s)
          ∧ (∀ w, x.execution = .running → x.phases.get a = .driving w → (s.pose.counts.get a - w).natAbs < 10 →
              e.origin = .safety → s.safe.group.isSome = true →
                ∃ t, exec (.stallWindowExpiry a) s = .next t ∧ t.safe.group = none
                  ∧ (s.safe.group = some .windLowering → t.safe.alarmWind = true ∧ t.safe.alarm = true
                      ∧ (s.safe.alarm = false →
                          tellsAll
                            (.condition .alarm s.arb.reasons s.pose.latch s.safe.alarmPark true s.settings.defaulted) s t))))
    ∧ (∀ (s : State), s.powered = true →
          (∀ c : Closing, s.exe.closing = some c → c.ending.boundary = true → s.exe.queue = [] → s.exe.active = none →
              nothingWaits s →
                ∃ (u t : State) (faulted : Axes Bool),
                  (∀ a : Axis, faulted.get a = (s.pose.faulted.get a || (c.axes.get a && !s.pose.atRest.get a)))
                    ∧ u = (s.setPose { s.pose with faulted := faulted }).setExe { s.exe with closing := none }
                    ∧ exec .restWatchExpiry s = .next t ∧ t.exe = u.exe ∧ Outside u t ∧ sameBesides [2, 3, 12, 13] s t
                    ∧ (∀ p : Port, s.arb.holder = some (.port p) →
                        Boundary p c.ending.halted c.ending.discarded u t
                          ∧ (s.arb.auth = .moving → t = u.setArb (heldBy p s)))
                    ∧ (s.arb.holder = some .safety → s.arb.auth = .moving ∨ s.arb.auth = .manualPending → s.safe.group = none →
                        SafetyBoundary (reasonsAfter c.ending.failed false u) u t))
            ∧ (s.exe.closing = none → exec .restWatchExpiry s = .next s))

/-! ### Supply suspension and the hand crank -/

/-- The supply: its loss suspends a running entry where it stands, outside MANUAL PENDING; its return settles, and the settle
timer restarts a suspended entry: a move toward the target that it kept, driven, settling within tolerance, or complete if it is
there at rest as well, its boundary then being taken; a scan with its dwell begun anew, or its step move or final move driven to
the same target, the dwell beginning if a step is already there, and a final move that is already there, with no entry behind
it, ending the scan COMPLETE, what it solves being learned; or the scan that had not begun beginning. Each is told to every port
that admits it; the suspension limit fails the suspended entry with ABANDONED SUPPLY. A line change to the level at which SUPPLY
OK stands is no event by R88 (R3, R32, R33, R41, R55, R56, R57, R67, R69 to R75, R77, R78, R88, R126 to R128, R145, R147, R152,
R154, R155; the seconds that SETTLE_TIMER_EXPIRY brings, the expiry of a timer that does not run, and the direction line for a
difference of zero are the model's choice, log 3, log 4, log 42). -/
def Obligations.SupplyIsFollowed : Prop :=
   (∀ (s u : State), s.powered = true →
      u = (s.setSafe { s.safe with supplyOk := false }).setExe { s.exe with supply := .absent, settle := false } →
        (s.safe.supplyOk = false → exec .supplyOkNegated s = .next s)
          ∧ (s.safe.supplyOk = true → s.exe.active = none → exec .supplyOkNegated s = .next u)
          ∧ ∀ x e rest, s.safe.supplyOk = true → activeIs x e rest s →
              (x.execution = .suspended → exec .supplyOkNegated s = .next u)
                ∧ (x.execution = .running → s.arb.auth ≠ .manualPending →
                    ∃ (t : State) (drives : Axes Drive),
                      exec .supplyOkNegated s = .next t
                        ∧ onlyOutputs (fun _ => [14])
                            (u.setExe
                              { u.exe with
                                active := some { x with execution := .suspended, phases := Axes.all .idle }
                                suspension := some s.settings.inForce.suspension
                                drives := drives })
                            t
                        ∧ stopsOnly e.motion.axes s t
                        ∧ tellsAll (.supplySuspended e.tag e.origin e.purpose s.settings.inForce.suspension) s t))
    ∧ (∀ (s : State), s.powered = true →
          (s.safe.supplyOk = true → exec .supplyOkAsserted s = .next s)
            ∧ (s.safe.supplyOk = false → s.exe.supply = .absent →
                exec .supplyOkAsserted s =
                  .next
                    ((s.setSafe { s.safe with supplyOk := true }).setExe { s.exe with supply := .settling, settle := true }))
            ∧ ∀ seconds : Nat,
                (s.exe.settle = false → exec (.settleTimerExpiry seconds) s = .next s)
                  ∧ (s.exe.settle = true → (∀ x, s.exe.active = some x → x.execution = .running) →
                      exec (.settleTimerExpiry seconds) s =
                        .next (s.setExe { s.exe with supply := .available, settle := false })))
    ∧ (∀ (seconds : Nat) (x : Active) (e : Entry) (rest : List Entry) (b : Executor) (s : State), s.powered = true →
          s.exe.settle = true → activeIs x e rest s → x.execution = .suspended →
            b = { s.exe with supply := .available, settle := false, suspension := none } →
              (∀ a v, e.motion.axis = some a → e.target = some v →
                (within a (s.pose.position.get a) v = false →
                    ∃ t, exec (.settleTimerExpiry seconds) s = .next t
                      ∧ onlyOutputs (fun _ => [14])
                          (s.setExe
                            { b with
                              active := some { x with execution := .running, phases := drivingOn a s }
                              drives := s.exe.drives.set a (drivenToward v e.rate a s) })
                          t
                      ∧ tellsAll (.supplyResumed e.tag e.origin e.purpose seconds) s t)
                  ∧ (within a (s.pose.position.get a) v = true → s.pose.atRest.get a = false →
                      ∃ t, exec (.settleTimerExpiry seconds) s = .next t
                        ∧ onlyOutputs (fun _ => [14])
                            (s.setExe
                              { b with
                                active := some { x with execution := .running, phases := (Axes.all .idle).set a .settling }
                                drives := s.exe.drives.set a (settlingToward v a s) })
                            t
                        ∧ tellsAll (.supplyResumed e.tag e.origin e.purpose seconds) s t)
                  ∧ (within a (s.pose.position.get a) v = true → s.pose.atRest.get a = true → rest = [] →
                      ∃ t, exec (.settleTimerExpiry seconds) s = .next t
                        ∧ Completed [14] e (s.setExe { s.exe with supply := .available, settle := false }) t
                        ∧ tellsAll (.supplyResumed e.tag e.origin e.purpose seconds) s t))
                ∧ (∀ q, e.motion = .scan q → s.scan.scan = none →
                    ∃ t, exec (.settleTimerExpiry seconds) s = .next t
                      ∧ onlyOutputs (fun _ => [14])
                          ((s.setExe
                                { b with active := some { x with execution := .running, phases := Axes.all .idle } }).setScan
                            (scanBegun e.tag e.slot q.steps s))
                          t
                      ∧ tellsAll (.supplyResumed e.tag e.origin e.purpose seconds) s t)
                ∧ ∀ q z, e.motion = .scan q → s.scan.scan = some z →
                    (z.phase = .dwell ∨ z.phase = .levelWait →
                        ∃ t, exec (.settleTimerExpiry seconds) s = .next t
                          ∧ onlyOutputs (fun _ => [14])
                              ((s.setExe
                                    { b with active := some { x with execution := .running, phases := Axes.all .idle } }).setScan
                                (dwellBegun z s))
                              t
                          ∧ tellsAll (.supplyResumed e.tag e.origin e.purpose seconds) s t)
                      ∧ (z.phase = .stepMove ∨ z.phase = .finalMove → ¬scanStands z.target s →
                          ∃ t, exec (.settleTimerExpiry seconds) s = .next t
                            ∧ onlyOutputs (fun _ => [14])
                                (s.setExe
                                  { b with
                                    active :=
                                      some { x with execution := .running, phases := scanPhases z.target s }
                                    drives := scanDrives z.target s })
                                t
                            ∧ tellsAll (.supplyResumed e.tag e.origin e.purpose seconds) s t)
                      ∧ (z.phase = .stepMove → scanStands z.target s →
                          ∃ t, exec (.settleTimerExpiry seconds) s = .next t
                            ∧ onlyOutputs (fun _ => [14])
                                ((s.setExe
                                      { b with
                                        active := some { x with execution := .running, phases := Axes.all .idle }
                                        drives :=
                                          { s.exe.drives with
                                            pan := s.exe.drives.pan.stop, tilt := s.exe.drives.tilt.stop } }).setScan
                                  (dwellBegun z s))
                                t
                            ∧ tellsAll (.supplyResumed e.tag e.origin e.purpose seconds) s t)
                      ∧ (z.phase = .finalMove → scanStands z.target s → rest = [] → ∀ r u, s.scan.result = some r →
                          u = s.setExe { s.exe with supply := .available, settle := false } →
                            ∃ t w, exec (.settleTimerExpiry seconds) s = .next t ∧ ScanDone [14] e w u t
                              ∧ EndsComplete r w u t
                              ∧ tellsAll (.supplyResumed e.tag e.origin e.purpose seconds) s t))
    ∧ (∀ (x : Active) (e : Entry) (rest : List Entry) (s : State), s.powered = true →
          (activeIs x e rest s → x.execution = .suspended →
              ∃ t, exec .suspensionLimitExpiry s = .next t ∧ Failed e rest.length .abandonedSupply s t)
            ∧ (activeIs x e rest s → x.execution = .running → exec .suspensionLimitExpiry s = .next s)
            ∧ (s.exe.active = none → exec .suspensionLimitExpiry s = .next s))

/-- MANUAL REQ: the crank is granted at once in FREE, HELD and LOCKOUT, where a handover is deferred at a boundary, and in the
wait at the end of a crank. With a running entry, or during a closing, MANUAL PENDING waits for the boundary of a port or of
SAFETY: the waiting entries outside the active group are discarded, and a port holder is told that its yield is due;
ReadingsMoveThePose and StallAndRestWatches state the grant at that boundary. A suspended entry is abandoned and the crank
granted, as it is when the supply fails in MANUAL PENDING; a safety group so abandoned ends, and a lowering sets the WIND cause
(R34, R64, R80 to R82, R85, R86, R94, R98, R100). -/
def Obligations.CrankIsGranted : Prop :=
   (∀ (s : State), s.powered = true → s.safe.manualReq = false →
      (s.arb.auth = .free ∨ s.arb.auth = .held ∨ s.arb.auth = .lockout
            ∨ ((s.arb.auth = .moving ∨ s.arb.auth = .yielding) ∧ s.arb.deferred.isSome = true) →
          ∃ t, exec .manualReqAsserted s = .next t
            ∧ onlyOutputs (fun p => if s.arb.holder = some (.port p) ∧ s.arb.releaseMark = false then [2, 13] else [13])
                ((s.setSafe { s.safe with manualReq := true }).setArb (crankGranted s)) t
            ∧ tellsAll (.manualBegun s.arb.auth s.arb.holder 0 0) s t
            ∧ ∀ p : Port, s.arb.holder = some (.port p) → s.arb.releaseMark = false →
                tells p (.authority .lost (some .manual) 0 0) s t)
        ∧ (s.arb.auth = .manual →
            exec .manualReqAsserted s =
              .next
                ((s.setSafe { s.safe with manualReq := true }).setArb { s.arb with grant := true, crankEnd := none })))
    ∧ (∀ s v : State,
          s.powered = true → s.safe.manualReq = false → s.arb.auth = .moving ∨ s.arb.auth = .yielding → s.arb.deferred = none →
            v = (s.setSafe { s.safe with manualReq := true }).setArb { s.arb with auth := .manualPending } →
              (∀ x e rest, activeIs x e rest s → x.execution = .running →
                (∀ q : Port, s.arb.holder = some (.port q) →
                    exec .manualReqAsserted s =
                      .next
                        (placeAlways q (.authority .yieldDue (some .manual) 0 (pastGroup e rest).length)
                          (v.setExe
                            { s.exe with
                              queue := e :: groupBehind e rest, active := some { x with crankDue := true } })))
                  ∧ (s.arb.holder = some .safety →
                      exec .manualReqAsserted s =
                        .next
                          (v.setExe
                            { s.exe with
                              queue := e :: groupBehind e rest, active := some { x with crankDue := true } })))
                ∧ (s.exe.active = none →
                    (∀ q : Port, s.arb.holder = some (.port q) →
                        exec .manualReqAsserted s =
                          .next
                            (placeAlways q (.authority .yieldDue (some .manual) 0 s.exe.queue.length)
                              (v.setExe { s.exe with queue := [] })))
                      ∧ (s.arb.holder = some .safety →
                          exec .manualReqAsserted s = .next (v.setExe { s.exe with queue := [] }))))
    ∧ (∀ (c : Instr) (h : Party) (x : Active) (e : Entry) (rest : List Entry) (s : State),
          s.powered = true → activeIs x e rest s → s.arb.holder = some h → s.arb.deferred = none →
            (c = .manualReqAsserted ∧ s.safe.manualReq = false ∧ x.execution = .suspended
                  ∧ (s.arb.auth = .moving ∨ s.arb.auth = .yielding))
                ∨ (c = .supplyOkNegated ∧ s.safe.supplyOk = true ∧ x.execution = .running
                  ∧ s.arb.auth = .manualPending) →
              ∃ t, exec c s = .next t ∧ t.exe.queue = [] ∧ t.exe.active = none ∧ t.exe.suspension = none
                ∧ stopsOnly e.motion.axes s t ∧ scanEnds .endedManual s t ∧ t.arb = crankGranted s
                ∧ tellsAll (.manualBegun s.arb.auth (some h) e.tag rest.length) s t
                ∧ (∀ q : Port, h = .port q → s.arb.releaseMark = false →
                    tells q (.authority .lost (some .manual) e.tag rest.length) s t)
                ∧ t.safe.group = none ∧ sameBesides [2, 7, 12, 13, 14] s t
                ∧ (s.safe.group ≠ some .windLowering → t.safe.alarmWind = s.safe.alarmWind)
                ∧ (s.safe.group = some .windLowering →
                    t.safe.alarmWind = true ∧ t.safe.alarm = true
                      ∧ (s.safe.alarm = false →
                          tellsAll
                            (.condition .alarm s.arb.reasons s.pose.latch s.safe.alarmPark true s.settings.defaulted) s t)))

/-- The key is turned back: in MANUAL the grant is negated and, once every axis is at rest or FAULTED, then or at a later
reading, the crank ends. With PARK negated STOW BLOCKED first leaves the set if the pose read is stowable. A reason in the set
gives LOCKOUT, every claim being refused; else, with PARK asserted, authority goes to the highest claim or to nobody, and with
PARK negated the park rule adds INTERLOCK or STOW BLOCKED, with LOCKOUT, or gives SAFETY the park stow. In MANUAL PENDING the
request is withdrawn: the state returns to YIELDING of a port that has released or is outranked by a claim, else to MOVING, of
SAFETY too, and a running scan is told to yield at its next step boundary or to go on (R42, R43, R45, R82, R85, R86, R96, R100).
Whether a yield due mark set before MANUAL PENDING outlives a return to MOVING is a free value, `Config.yieldMarkOutlives`, and
the statement holds for either (R82 has the scan go on, R151 has the mark stay set, log 23); that the notice and the judgement
use the positions of the reading is the model's choice (log 22). -/
def Obligations.CrankEnds : Prop :=
   (∀ (c : Instr) (r : Reading) (position : Axes Int) (s : State), s.powered = true → endsCrank c r position s →
      s.safe.park = true →
        (s.arb.reasons = Reasons.empty → s.arb.claims = [] →
            ∃ t, exec c s = .next t ∧ t.arb = { freed s with grant := false, crankEnd := none }
              ∧ t.pose = (recordReading r s).pose ∧ t.exe = s.exe
              ∧ tellsAll (.manualEnded true .free none position Reasons.empty) s t)
          ∧ (∀ q others, s.arb.reasons = Reasons.empty → s.arb.claims = q :: others →
              ∃ t, exec c s = .next t ∧ t.arb = { heldBy q s with grant := false, crankEnd := none }
                ∧ t.pose = (recordReading r s).pose ∧ t.exe = s.exe
                ∧ tells q (.authority .granted (some .manual) 0 0) s t
                ∧ tellsAll (.manualEnded true .held (some (.port q)) position Reasons.empty) s t)
          ∧ (s.arb.reasons ≠ Reasons.empty →
              ∃ t, exec c s = .next t ∧ t.arb = lockedOut s.arb.reasons s ∧ t.pose = (recordReading r s).pose ∧ t.exe = s.exe
                ∧ (∀ q, q ∈ s.arb.claims → tells q .claimRefused s t)
                ∧ tellsAll (.manualEnded true .lockout none position s.arb.reasons) s t))
    ∧ (∀ (c : Instr) (r : Reading) (position : Axes Int) (left : Reasons) (s : State), s.powered = true →
          endsCrank c r position s → s.safe.park = false → s.exe.queue = [] → s.safe.group = none → s.arb.holder = none →
            left =
                { s.arb.reasons with stowBlocked := s.arb.reasons.stowBlocked && !stowable position s.pose.faulted } →
              ∃ t, exec c s = .next t ∧ t.pose = (recordReading r s).pose
                ∧ tellsAll (.manualEnded true t.arb.auth t.arb.holder position t.arb.reasons) s t
                ∧ (left ≠ Reasons.empty →
                    t.arb = lockedOut left s ∧ t.exe = s.exe ∧ t.safe.group = none
                      ∧ (∀ q, q ∈ s.arb.claims → tells q .claimRefused s t)
                      ∧ (left ≠ s.arb.reasons →
                          tellsAll
                            (.condition .lockout left s.pose.latch t.safe.alarmPark t.safe.alarmWind s.settings.defaulted)
                            s t))
                ∧ (left = Reasons.empty → stowAxes position = [] →
                    t.arb = lockedOut { Reasons.empty with interlock := true } s ∧ t.exe = s.exe
                      ∧ ∀ q, q ∈ s.arb.claims → tells q .claimRefused s t)
                ∧ (left = Reasons.empty → stowAxes position ≠ [] → stowable position s.pose.faulted = false →
                    t.arb = lockedOut { Reasons.empty with stowBlocked := true } s ∧ t.exe = s.exe
                      ∧ ∀ q, q ∈ s.arb.claims → tells q .claimRefused s t)
                ∧ (left = Reasons.empty → stowAxes position ≠ [] → stowable position s.pose.faulted = true →
                    s.exe.supply = .available → position = positionsOf r.counts →
                      ∃ u,
                        u =
                            (recordReading r s).setArb
                              { s.arb with reasons := Reasons.empty, grant := false, crankEnd := none }
                          ∧ StowBegun u t))
    ∧ (∀ (r : Reading) (s : State), s.powered = true → s.safe.manualReq = true → s.arb.auth = .manual → s.exe.active = none →
          s.exe.closing = none → nothingWaits s → (∃ a : Axis, r.atRest.get a = false ∧ s.pose.faulted.get a = false) →
            ∃ t, exec (.manualReqNegated r) s = .next t
              ∧ t.arb = { s.arb with grant := false, crankEnd := some (positionsOf r.counts) }
              ∧ t.pose = (recordReading r s).pose ∧ t.exe = s.exe)
    ∧ ∀ (r : Reading) (h : Party) (back : AuthState) (s : State), s.powered = true → s.safe.manualReq = true →
        s.arb.auth = .manualPending → s.arb.holder = some h →
          (back = .yielding ∧ ∃ q, h = .port q
                ∧ (s.arb.releaseMark = true ∨ ∃ c, c ∈ s.arb.claims ∧ outranks c (.port q) = true))
              ∨ (back = .moving ∧ ∀ q, h = .port q →
                  s.arb.releaseMark = false ∧ ∀ c, c ∈ s.arb.claims → outranks c (.port q) = false) →
            ∃ t, exec (.manualReqNegated r) s = .next t
              ∧ onlyOutputs (fun _ => [13])
                  (((s.setSafe { s.safe with manualReq := false }).setArb { s.arb with auth := back }).setExe
                    { s.exe with
                      active :=
                        s.exe.active.map
                          (fun x =>
                            { x with
                              crankDue := false
                              yieldDue := back == .yielding || (x.yieldDue && Config.yieldMarkOutlives) }) })
                  t
              ∧ tellsAll (.manualEnded false back (some h) s.pose.position s.arb.reasons) s t

/-! ### Safety -/

/-- ESTOP: its assertion stops every drive at once and, where ESTOP is no reason yet, ends all work and locks out, every claim
being refused and a port holder told; a running safety group ends, a lowering setting the WIND cause; in MANUAL the crank goes
on, and in MANUAL PENDING it is granted from the lockout. The ending report of a park stow that has failed and still closes with
PARK negated is taken as LOCKOUT is entered and adds STOW FAILED, which is the model's reading (log 54). An assertion of the
line already asserted is no event by R88; its negation records the line and removes no reason (R42, R45, R62, R88, R94, R98,
R100 to R102). -/
def Obligations.EstopLocksOut : Prop :=
  ∀ (left : Reasons) (s : State), s.powered = true →
    left =
        { s.arb.reasons with
          estop := true
          stowFailed := s.arb.reasons.stowFailed || (decide (closingFailed s = some .parkStow) && !s.safe.park) } →
      (s.safe.estop = true → exec .estopAsserted s = .next s)
        ∧ (s.safe.estop = false →
            ∃ t, exec .estopAsserted s = .next t ∧ t.safe.estop = true ∧ stopsOnly (Axes.all true) s t ∧ t.pose = s.pose
              ∧ t.store = s.store ∧ t.cache = s.cache ∧ t.heading = s.heading ∧ t.settings = s.settings
              ∧ sameBesides [2, 3, 7, 12, 13] s t
              ∧ (s.arb.reasons.estop = true → t.arb = s.arb ∧ t.ports = s.ports ∧ t.scan = s.scan ∧ t.exe.queue = s.exe.queue)
              ∧ (s.arb.reasons.estop = false →
                  (s.arb.auth = .free →
                      t.arb = lockedOut { s.arb.reasons with estop := true } s
                        ∧ ∀ c, c ∈ s.arb.claims → tells c .claimRefused s t)
                    ∧ (s.arb.auth = .manual ∨ s.arb.auth = .lockout →
                        t.arb = { s.arb with reasons := { s.arb.reasons with estop := true } })
                    ∧ (s.arb.auth = .free ∨ s.arb.auth = .manual ∨ s.arb.auth = .lockout →
                        tellsAll
                          (.condition .lockout { s.arb.reasons with estop := true } s.pose.latch s.safe.alarmPark
                            s.safe.alarmWind s.settings.defaulted) s t)
                    ∧ (s.arb.auth = .held ∨ s.arb.auth = .moving ∨ s.arb.auth = .yielding ∨ s.arb.auth = .manualPending →
                        LockedOut .estop .estop left s t ∧ t.safe.group = none
                          ∧ (s.safe.group ≠ some .windLowering →
                              t.safe.alarmWind = s.safe.alarmWind
                                ∧ tellsAll
                                    (.condition .lockout left s.pose.latch s.safe.alarmPark s.safe.alarmWind
                                      s.settings.defaulted) s t)
                          ∧ (s.safe.group = some .windLowering →
                              t.safe.alarmWind = true ∧ t.safe.alarm = true
                                ∧ (s.safe.alarm = false →
                                    tellsAll
                                      (.condition .alarm left s.pose.latch s.safe.alarmPark true s.settings.defaulted)
                                      s t)))))
        ∧ exec .estopNegated s = .next (s.setSafe { s.safe with estop := false })

/-- PARK is negated: the heading is unknown and the cache is flushed, and the park rule acts on the pose by its rows. With a
port holder or none, a stowed pose adds INTERLOCK and one that cannot be stowed STOW BLOCKED, each with LOCKOUT, and a stowable
one gives SAFETY the park stow, in the stow order at FAST, its first entry driven. A wind lowering runs on beside an added
reason, and the park stow replaces it, the WIND cause being set. A park stow runs on, as does MANUAL, and in LOCKOUT a stowed
pose alone adds INTERLOCK. The PARK cause is set wherever the STOWED lamp is negated, and a changed alarm told. A negation of
the line already negated is no event by R88 (R38, R40, R42, R45, R88, R94 to R97, R100, R131). That the reason or the group
comes before the alarm cause is the model's choice (log 35), and on it rest the contents of the condition notice: event ALARM
last where STOW BLOCKED is added too, and the WIND cause alone when the park stow replaces a lowering. That a park stow which
has failed and still closes counts as held by SAFETY is the model's choice (log 54). That positions and outputs follow the
reading is the invariant of OutputsFollowIsKept (R4, R19). -/
def Obligations.ParkNegationActs : Prop :=
  ∀ (s : State), s.powered = true → outputsFollow s →
    (s.safe.park = false → exec .parkNegated s = .next s)
      ∧ (s.safe.park = true →
          ∃ t, exec .parkNegated s = .next t ∧ t.heading = none ∧ t.cache = { entries := [], reference := none }
            ∧ t.safe.park = false ∧ t.pose = s.pose ∧ t.store = s.store ∧ t.settings = s.settings
            ∧ tellsAll (.cacheFlushed .park none none s.cache.entries.length 0) s t
            ∧ sameBesides [2, 3, 7, 10, 12, 13, 14] s t
            ∧ (t.safe.alarmPark = true ↔ s.safe.alarmPark = true ∨ s.pose.lamp = false)
            ∧ (s.safe.alarm = false → s.pose.lamp = false → s.safe.group ≠ some .windLowering →
                tellsAll (.condition .alarm t.arb.reasons s.pose.latch true false s.settings.defaulted) s t)
            ∧ ((s.arb.auth = .free ∧ s.exe.queue = [] ∧ s.exe.active = none ∧ s.exe.closing = none
                    ∧ s.exe.suspension = none ∧ s.safe.group = none ∧ s.arb.holder = none)
                  ∨ ((s.arb.auth = .held ∨ s.arb.auth = .moving ∨ s.arb.auth = .yielding ∨ s.arb.auth = .manualPending)
                    ∧ (holderPort s).isSome = true ∧ s.safe.group = none ∧ closingFailed s = none) →
                (stowAxes s.pose.position = [] → s.arb.reasons.interlock = false →
                    LockedOut .lockout .lockout { s.arb.reasons with interlock := true } s t)
                  ∧ (stowAxes s.pose.position ≠ [] → stowable s.pose.position s.pose.faulted = false →
                      s.arb.reasons.stowBlocked = false →
                        LockedOut .lockout .lockout { s.arb.reasons with stowBlocked := true } s t)
                  ∧ (stowAxes s.pose.position ≠ [] → stowable s.pose.position s.pose.faulted = true →
                      s.exe.supply = .available → StowBegun s t))
            ∧ (s.arb.auth = .moving ∨ s.arb.auth = .manualPending → s.arb.holder = some .safety →
                s.safe.group = some .windLowering → closingFailed s = none →
                  (stowAxes s.pose.position = [] →
                      t.arb = { s.arb with reasons := { s.arb.reasons with interlock := true } } ∧ t.exe = s.exe
                        ∧ t.safe.group = some .windLowering)
                    ∧ (stowAxes s.pose.position ≠ [] → stowable s.pose.position s.pose.faulted = false →
                        t.arb = { s.arb with reasons := { s.arb.reasons with stowBlocked := true } } ∧ t.exe = s.exe
                          ∧ t.safe.group = some .windLowering)
                    ∧ (stowAxes s.pose.position ≠ [] → stowable s.pose.position s.pose.faulted = true →
                        s.exe.supply = .available →
                          StowBegun s t ∧ t.safe.alarmWind = true
                            ∧ (s.safe.alarm = false →
                                tellsAll
                                  (.condition .alarm s.arb.reasons s.pose.latch s.safe.alarmPark true
                                    s.settings.defaulted) s t)))
            ∧ (s.arb.auth = .manual
                  ∨ ((s.arb.auth = .moving ∨ s.arb.auth = .manualPending) ∧ s.arb.holder = some .safety
                    ∧ (s.safe.group = some .parkStow ∨ closingFailed s = some .parkStow)) →
                t.arb = s.arb ∧ t.exe = s.exe ∧ t.scan = s.scan ∧ t.safe.group = s.safe.group)
            ∧ (s.arb.auth = .lockout → s.safe.group = none → closingFailed s = none →
                t.exe = s.exe ∧ t.scan = s.scan
                  ∧ (stowAxes s.pose.position = [] →
                      t.arb = { s.arb with reasons := { s.arb.reasons with interlock := true } }
                        ∧ (s.arb.reasons.interlock = false →
                            tellsAll
                              (.condition .lockout { s.arb.reasons with interlock := true } s.pose.latch s.safe.alarmPark
                                s.safe.alarmWind s.settings.defaulted) s t))
                  ∧ (stowAxes s.pose.position ≠ [] → t.arb = s.arb)))

/-- PARK is asserted: INTERLOCK, STOW BLOCKED and STOW FAILED leave the set and the PARK cause is cleared, a changed set and a
changed alarm being told; the set emptied in LOCKOUT gives FREE; the heading and the cache are left as they stand. An assertion
of the line already asserted is no event by R88 (R43, R45, R88, R99, R100). -/
def Obligations.ParkAssertionRemovesReasons : Prop :=
  ∀ (left : Reasons) (s : State), s.powered = true →
    left = { s.arb.reasons with interlock := false, stowBlocked := false, stowFailed := false } →
      (s.safe.park = true → exec .parkAsserted s = .next s)
        ∧ (s.safe.park = false →
            ∃ t, exec .parkAsserted s = .next t
              ∧ onlyOutputs
                  (fun _ => if left = s.arb.reasons ∧ s.safe.alarm = s.safe.alarmWind then [] else [12])
                  ((s.setSafe { s.safe with park := true, alarmPark := false, alarm := s.safe.alarmWind }).setArb
                    (if s.arb.auth = .lockout ∧ left = Reasons.empty then { freed s with reasons := left }
                    else { s.arb with reasons := left }))
                  t
              ∧ (left ≠ s.arb.reasons → s.safe.alarm = s.safe.alarmWind →
                  tellsAll
                    (.condition .lockout left s.pose.latch s.safe.alarmPark s.safe.alarmWind s.settings.defaulted) s t)
              ∧ (s.safe.alarm ≠ s.safe.alarmWind →
                  tellsAll (.condition .alarm left s.pose.latch false s.safe.alarmWind s.settings.defaulted) s t))

/-- The class rule: each row of the table, both counts being set to 0 by every change of class, and a wind sample applies it in
every authority state (R90). -/
def Obligations.WindClassRule : Prop :=
  (∀ s : State, s.powered = true →
    ∃ t, exec .windSample s = .next t
      ∧ (⟨t.safe.windClass, t.safe.calm, t.safe.ease⟩ : WindState) =
          classRule ⟨s.safe.windClass, s.safe.calm, s.safe.ease⟩ t.safe.speed)
    ∧ ∀ (calm ease speed : Nat),
        (65 ≤ speed → classRule ⟨.normal, calm, ease⟩ speed = ⟨.limit, 0, 0⟩)
          ∧ (40 ≤ speed → speed ≤ 64 → classRule ⟨.normal, calm, ease⟩ speed = ⟨.caution, 0, 0⟩)
          ∧ (speed < 40 → classRule ⟨.normal, calm, ease⟩ speed = ⟨.normal, calm, ease⟩)
          ∧ (65 ≤ speed → classRule ⟨.caution, calm, ease⟩ speed = ⟨.limit, 0, 0⟩)
          ∧ (32 ≤ speed → speed ≤ 64 → classRule ⟨.caution, calm, ease⟩ speed = ⟨.caution, 0, ease⟩)
          ∧ (speed < 32 → calm + 1 < 30 → classRule ⟨.caution, calm, ease⟩ speed = ⟨.caution, calm + 1, ease⟩)
          ∧ (speed < 32 → 30 ≤ calm + 1 → classRule ⟨.caution, calm, ease⟩ speed = ⟨.normal, 0, 0⟩)
          ∧ (55 ≤ speed → classRule ⟨.limit, calm, ease⟩ speed = ⟨.limit, calm, 0⟩)
          ∧ (speed < 55 → ease + 1 < 60 → classRule ⟨.limit, calm, ease⟩ speed = ⟨.limit, calm, ease + 1⟩)
          ∧ (speed < 55 → 60 ≤ ease + 1 → classRule ⟨.limit, calm, ease⟩ speed = ⟨.caution, 0, 0⟩)

/-- The wind: pulses are counted; a sample closes the interval, computes the speed, 12 N / P rounded with a half upward and at
most 200, and applies the class rule; a change is told to every port that admits it, and a changed alarm too. Entry into LIMIT
with the mast above 3,000 mm: in MANUAL, in LOCKOUT, and in MOVING and MANUAL PENDING of SAFETY with a park stow running or
failed and still closing, the WIND cause alone is set. In FREE, HELD, MOVING, YIELDING and MANUAL PENDING, with no safety group
running nor a failed one still closing, SAFETY takes authority with the one entry MAST TO 3,000 at FAST, the work before it
ended, and MANUAL PENDING keeps its request. The entry is driven with the mast above 3,010 mm; within tolerance it settles
undriven, or is complete at once where the mast stands. With the mast FAULTED it fails with its boundary taken, and without the
supply it is suspended, or in MANUAL PENDING abandoned and the crank granted (R38, R40, R41, R54, R55, R73, R81, R82, R89, R92
to R94, R100; that the WIND notice comes first, and that a failed park stow still closing counts as held by SAFETY, are the
model's choice, log 38, log 54). -/
def Obligations.WindIsSampled : Prop :=
   (∀ (s u : State) (speed : Nat) (next : WindState), s.powered = true →
      speed = windSpeed (s.safe.pulses.current + s.safe.pulses.last + s.safe.pulses.beforeLast)
          s.settings.inForce.pulses.toNat →
      next = classRule ⟨s.safe.windClass, s.safe.calm, s.safe.ease⟩ speed →
      u = s.setSafe
          { s.safe with
            pulses := { current := 0, last := s.safe.pulses.current, beforeLast := s.safe.pulses.last }
            speed := speed, windClass := next.windClass, calm := next.calm, ease := next.ease } →
        exec .anemometerPulse s =
            .next (s.setSafe { s.safe with pulses := { s.safe.pulses with current := s.safe.pulses.current + 1 } })
          ∧ (next.windClass = s.safe.windClass → exec .windSample s = .next u)
          ∧ (next.windClass ≠ s.safe.windClass → next.windClass ≠ .limit ∨ s.pose.position.mast ≤ 3000 →
              ∃ t, exec .windSample s = .next t
                ∧ tellsAll
                    (.wind next.windClass s.safe.windClass speed (ceilingOf next.windClass s.settings.inForce.ceiling)
                      s.pose.position.mast) s t
                ∧ (s.safe.windClass = .limit → s.safe.alarm ≠ s.safe.alarmPark →
                    tellsAll
                      (.condition .alarm s.arb.reasons s.pose.latch s.safe.alarmPark false s.settings.defaulted) s t)
                ∧ onlyOutputs
                    (fun _ => if s.safe.windClass = .limit ∧ s.safe.alarm ≠ s.safe.alarmPark then [11, 12] else [11])
                    (if s.safe.windClass = .limit then
                      u.setSafe { u.safe with alarmWind := false, alarm := s.safe.alarmPark }
                    else u)
                    t)
          ∧ ∀ n k : Nat, 0 < k →
              windSpeed n k ≤ 200 ∧ (windSpeed n k < 200 → 2 * k * windSpeed n k ≤ 24 * n + k
                  ∧ 24 * n + k < 2 * k * (windSpeed n k + 1))
                ∧ (windSpeed n k = 200 → 400 * k ≤ 24 * n + k))
    ∧ (∀ (e : Entry) (taken : Arbiter) (s u v : State), s.powered = true → s.safe.windClass ≠ .limit →
          65 ≤ windSpeed (s.safe.pulses.current + s.safe.pulses.last + s.safe.pulses.beforeLast)
              s.settings.inForce.pulses.toNat →
            3000 < s.pose.position.mast →
              e = { tag := s.exe.nextTag, group := none, motion := .moveTo .mast 3000, rate := .fast, origin := .safety,
                    purpose := .lower, slot := none, target := some 3000 } →
              taken =
                  { s.arb with
                    auth := if s.arb.auth = .manualPending then .manualPending else .moving
                    holder := some .safety, releaseMark := false, idle := none, deferred := none } →
              u = s.setSafe
                  { s.safe with
                    pulses := { current := 0, last := s.safe.pulses.current, beforeLast := s.safe.pulses.last }
                    speed :=
                      windSpeed (s.safe.pulses.current + s.safe.pulses.last + s.safe.pulses.beforeLast)
                        s.settings.inForce.pulses.toNat
                    windClass := .limit, calm := 0, ease := 0 } →
              v = ((u.setSafe { u.safe with group := some .windLowering }).setArb taken).setExe
                  { s.exe with
                    queue := [e], active := none, closing := none, suspension := none, nextTag := tagAfter s.exe.nextTag
                    drives :=
                      { mast := haltedDrive .mast s, pan := haltedDrive .pan s, tilt := haltedDrive .tilt s
                        pol := haltedDrive .pol s } } →
              ∃ t, exec .windSample s = .next t ∧ Outside u t
                ∧ tellsAll (.wind .limit s.safe.windClass t.safe.speed 3000 s.pose.position.mast) s t
                ∧ sameBesides [2, 3, 7, 11, 12, 13, 14] s t ∧ t.cache = s.cache
                ∧ (s.arb.auth = .manual ∨ s.arb.auth = .lockout
                      ∨ ((s.arb.auth = .moving ∨ s.arb.auth = .manualPending) ∧ s.arb.holder = some .safety
                        ∧ (s.safe.group = some .parkStow
                          ∨ (s.safe.group = none ∧ closingFailed s = some .parkStow))) →
                    t.safe.alarmWind = true ∧ t.safe.alarm = true ∧ t.arb = s.arb ∧ t.exe = s.exe
                      ∧ t.safe.group = s.safe.group
                      ∧ (s.safe.alarm = false →
                          tellsAll
                            (.condition .alarm s.arb.reasons s.pose.latch s.safe.alarmPark true s.settings.defaulted) s t))
                ∧ (s.arb.auth = .free ∨ s.arb.auth = .held ∨ s.arb.auth = .moving ∨ s.arb.auth = .yielding
                      ∨ s.arb.auth = .manualPending →
                    s.safe.group = none → closingFailed s = none →
                      (∀ x f rest, activeIs x f rest s → scanEnds .safety s t)
                        ∧ (s.pose.faulted.mast = false → s.exe.supply = .available →
                            (3010 < s.pose.position.mast ∨ s.pose.atRest.mast = false →
                                t.arb = taken ∧ t.safe.group = some .windLowering ∧ t.exe.queue = [e]
                                  ∧ t.exe.suspension = none ∧ t.exe.closing = none
                                  ∧ (3010 < s.pose.position.mast →
                                      t.exe.active = some (activeOn .mast 3000 .running (drivingOn .mast s) s)
                                        ∧ t.exe.drives.mast = drivenToward 3000 .fast .mast s)
                                  ∧ (s.pose.position.mast ≤ 3010 →
                                      t.exe.active =
                                          some (activeOn .mast 3000 .running ((Axes.all .idle).set .mast .settling) s)
                                        ∧ t.exe.drives.mast = settlingToward 3000 .mast s)
                                  ∧ ∀ p : Port, s.arb.holder = some (.port p) →
                                      tells p (.authority .lost (some .safety) (activeTag s) (waitingCount s)) s t)
                              ∧ (s.pose.position.mast ≤ 3010 → s.pose.atRest.mast = true →
                                  (∀ p : Port, s.arb.holder = some (.port p) → p ∉ s.arb.claims) →
                                    EntryDone e v t ∧ t.safe.alarm = s.safe.alarmPark
                                      ∧ ∀ p : Port, s.arb.holder = some (.port p) →
                                          tells p (.authority .lost (some .safety) (activeTag s) (waitingCount s)) s t))
                        ∧ (s.pose.faulted.mast = true → (∀ p : Port, s.arb.holder = some (.port p) → p ∉ s.arb.claims) →
                            t.exe.queue = [] ∧ t.exe.active = none ∧ t.exe.closing = none
                              ∧ SafetyBoundary s.arb.reasons v t ∧ t.safe.alarmWind = true ∧ t.safe.alarm = true
                              ∧ (s.safe.alarm = false →
                                  tellsAll
                                    (.condition .alarm s.arb.reasons s.pose.latch s.safe.alarmPark true
                                      s.settings.defaulted) s t)
                              ∧ ∀ p : Port, s.arb.holder = some (.port p) →
                                  tells p (.authority .lost (some .safety) (activeTag s) (waitingCount s)) s t)
                        ∧ (s.pose.faulted.mast = false → s.exe.supply ≠ .available →
                            (∀ p : Port, s.arb.holder = some (.port p) →
                                tells p (.authority .lost (some .safety) (activeTag s) (waitingCount s)) s t)
                              ∧ tellsAll
                                (.supplySuspended e.tag .safety .lower s.settings.inForce.suspension) s t
                              ∧ (s.arb.auth ≠ .manualPending →
                                  t.arb = taken ∧ t.safe.group = some .windLowering ∧ t.exe.queue = [e]
                                    ∧ t.exe.active = some (activeOn .mast 3000 .suspended (Axes.all .idle) s)
                                    ∧ t.exe.suspension = some s.settings.inForce.suspension ∧ t.exe.closing = none)
                              ∧ (s.arb.auth = .manualPending →
                                  t.arb = crankGranted v ∧ t.safe.group = none ∧ t.exe.queue = [] ∧ t.exe.active = none
                                    ∧ t.exe.suspension = none ∧ t.safe.alarmWind = true ∧ t.safe.alarm = true
                                    ∧ tellsAll (.manualBegun .manualPending (some .safety) e.tag 0) s t))))

/-! ### Aiming and peaking -/

/-- SET HEADING, answered DONE with the heading set, or refused with a value outside 0 to 35,999; and AIM's and PEAK's own
checks in their order, each answered with a position where it has one, and nothing changed; of more than one parameter of PEAK
at fault the lowest position is answered, which is the model's choice (R135, R136, R143, log 52; a request brought directly: log
5). -/
def Obligations.AimAndPeakAreChecked : Prop :=
   (∀ (p : Port) (v : Int) (s : State), takes p (.setHeading v) s →
      (0 ≤ v → v ≤ 35999 →
          exec (.setHeading p v) s = .next (doneState p (.setHeading v) .done [] (s.setHeading (some v))))
        ∧ (v < 0 ∨ 35999 < v → exec (.setHeading p v) s = .next (answeredState p (.setHeading v) .outOfRange [] s)))
    ∧ (∀ (p : Port) (slot : Nat) (heading : Option Int) (flag : Byte) (r : Request) (s : State),
          r = .aim slot heading flag → takes p r s → maySubmit p s →
            (2 < flag.toNat → exec (.aim p slot heading flag) s = .next (answeredState p r .badRequest [] s))
              ∧ (flag.toNat ≤ 2 → 47 < slot →
                  exec (.aim p slot heading flag) s = .next (answeredState p r .outOfRange [0x01] s))
              ∧ (∀ v, flag.toNat ≤ 2 → slot ≤ 47 → heading = some v → v < 0 ∨ 35999 < v →
                  exec (.aim p slot heading flag) s = .next (answeredState p r .outOfRange [0x02] s)))
    ∧ (∀ (p : Port) (q : PeakParams) (s : State), takes p (.peak q) s → maySubmit p s →
          (∀ x, q.pattern = some x → x.1 ≠ 0x00 → x.1 ≠ 0x01 →
              exec (.peak p q) s = .next (answeredState p (.peak q) .badRequest [0x02] s))
            ∧ ((∀ x, q.pattern = some x → x.1 = 0x00 ∨ x.1 = 0x01) →
                (∀ b, q.source = some b → b ≠ 0x00 → b ≠ 0x01 →
                    exec (.peak p q) s = .next (answeredState p (.peak q) .badRequest [0x05] s))
                  ∧ ((∀ b, q.source = some b → b = 0x00 ∨ b = 0x01) →
                      (q.slot = none →
                          (q.pattern = none →
                              exec (.peak p q) s = .next (answeredState p (.peak q) .badRequest [0x02] s))
                            ∧ (q.pattern.isSome = true → q.stepSize = none →
                                exec (.peak p q) s = .next (answeredState p (.peak q) .badRequest [0x03] s))
                            ∧ (q.pattern.isSome = true → q.stepSize.isSome = true → q.steps = none →
                                exec (.peak p q) s = .next (answeredState p (.peak q) .badRequest [0x04] s)))
                        ∧ (∀ n, q.slot = some n → 47 < n →
                            exec (.peak p q) s = .next (answeredState p (.peak q) .outOfRange [0x01] s))
                        ∧ (q.slot.isSome = true ∨ (q.pattern.isSome = true ∧ q.stepSize.isSome = true ∧ q.steps.isSome = true) →
                            (¬peakFits q → ∃ k : Nat, 1 ≤ k ∧ k ≤ 7 ∧ peakParamFits q k = false)
                              ∧ ∀ k : Nat, peakParamFits q k = false → (∀ j : Nat, j < k → peakParamFits q j = true) →
                                  exec (.peak p q) s = .next (answeredState p (.peak q) .outOfRange [byteOf k] s)))))

/-- AIM and PEAK of a slot that is not COMMITTED, and AIM with the heading unknown, are answered from the slot's state; a
heading that the AIM carries is set all the same (R120, R136, R137, R143; a request brought directly: log 5). -/
def Obligations.SlotsThatCannotBeAimedAt : Prop :=
  ∀ (p : Port) (slot : Nat) (c : Instr) (r : Request) (s u : State), takes p r s → maySubmit p s → slot ≤ 47 →
    (∃ heading flag, c = .aim p slot heading flag ∧ r = .aim slot heading flag ∧ flag.toNat ≤ 2
          ∧ (∀ v, heading = some v → 0 ≤ v ∧ v ≤ 35999) ∧ u = s.setHeading (heading.or s.heading))
        ∨ (∃ q, c = .peak p q ∧ r = .peak q ∧ peakFits q ∧ q.slot = some slot ∧ u = s) →
      (∀ who n, s.store.engine = .erase who n → exec c s = .next (answeredState p r .tableBusy [0x02] u))
        ∧ (s.store.engine.erasing = false →
            ((s.store.slotAt slot).state = .free → exec c s = .next (answeredState p r .noSite [] u))
              ∧ ((s.store.slotAt slot).state = .writing → s.store.engine ≠ .idle →
                  exec c s = .next (answeredState p r .tableBusy [0x01] u))
              ∧ ((s.store.slotAt slot).state = .damaged → exec c s = .next (answeredState p r .gone [0x04] u))
              ∧ (∀ k, (s.store.slotAt slot).state = .retired → (s.store.slotAt slot).contents = some k →
                  exec c s =
                    .next
                      (if k.redirection = 0xFF then answeredState p r .gone [0x03] u
                      else answeredState p r .redirected [k.redirection] u))
              ∧ (∀ k flag, (s.store.slotAt slot).state = .committed → (s.store.slotAt slot).contents = some k →
                  c = .aim p slot none flag → s.heading = none →
                    exec c s = .next (answeredState p r .noHeading [] u)))

/-- The pan target of an AIM: a candidate within the range of pan that points the dish along the bearing, the one nearer the
pan of the pose, and of two equally near the one that is not negative (R139). -/
def Obligations.PanTargetIsTheNearerCandidate : Prop :=
  ∀ (bearing heading pan relative target : Int), relative = (bearing - heading) % 36000 →
    target = panTarget bearing heading pan →
      (target = relative ∨ target = relative - 36000) ∧ -27000 ≤ target ∧ target ≤ 27000
        ∧ (-27000 ≤ relative - 36000 → relative ≤ 27000 →
            ((relative - 36000 - pan).natAbs < (relative - pan).natAbs → target = relative - 36000)
              ∧ ((relative - pan).natAbs ≤ (relative - 36000 - pan).natAbs → target = relative))

/-- AIM of a COMMITTED slot with the heading known: one locked group of the axes outside tolerance of their targets, from the
cache's entry or the record, the height taken down to the wind ceiling, then the SCAN entry if the flag asks for it, with
consecutive tags; or QUEUE FULL. A cache entry found moves to the front of the recency order. Behind an active entry they wait;
in HELD with nothing queued the first becomes active at once: a move that passes its start checks is driven, a scan alone
begins, and with nothing to place the holder stays in HELD (R20, R48, R54, R55, R129, R138, R140, R141, R145; that QUEUE FULL
carries the free room is the model's choice, log 30; a request brought directly: log 5). -/
def Obligations.AimQueuesItsGroup : Prop :=
  ∀ (p : Port) (slot : Nat) (heading : Option Int) (flag : Byte) (h height : Int) (k : Contents) (aim : AimFields)
      (hit : Bool) (targets : List (Axis × Int)) (found : Cache) (r : Request) (s u : State),
    r = .aim slot heading flag → takes p r s → maySubmit p s → slot ≤ 47 → flag.toNat ≤ 2 →
      (∀ v, heading = some v → 0 ≤ v ∧ v ≤ 35999) → s.store.engine.erasing = false →
        (s.store.slotAt slot).state = .committed → (s.store.slotAt slot).contents = some k →
          heading.or s.heading = some h →
            (match s.cache.entries.find? (fun e => e.slot == slot) with
              | some e =>
                hit = true ∧ aim = { bearing := e.bearing, tilt := e.elevation, polarisation := e.polarisation, height := e.height }
              | none =>
                hit = false
                  ∧ aim =
                    { bearing := k.site.bearing.toNat, tilt := k.site.elevation.toInt
                      polarisation := k.site.polarisation.toInt, height := k.site.height.toNat }) →
              height = min aim.height (windCeiling s) →
                targets =
                    [(Axis.mast, height), (.pan, panTarget aim.bearing h s.pose.position.pan), (.tilt, aim.tilt),
                        (.pol, aim.polarisation)].filter
                      (fun t => !within t.1 (s.pose.position.get t.1) t.2) →
                  found =
                      (match s.cache.entries.find? (fun e => e.slot == slot) with
                        | some e => { s.cache with entries := e :: s.cache.entries.filter (fun x => x.slot != slot) }
                        | none => s.cache) →
                  u = (s.setHeading (some h)).setCache found →
                    ∃ (group scan : List Entry) (n : Nat) (fields : List Byte),
                      n = group.length + scan.length
                        ∧ fields =
                          [if n = 0 then 0x00 else byteOf s.exe.nextTag, byteOf n, boolByte hit,
                            boolByte (decide (windCeiling s < aim.height)), boolByte (!scan.isEmpty)]
                        ∧ queuedAs group (targets.map (fun t => Motion.moveTo t.1 t.2)) s.exe.nextTag .normal .aim (some slot) p
                        ∧ scan.map Entry.motion =
                            (if flag = 0x02 ∨ (flag = 0x01 ∧ hit = false) then
                              [Motion.scan (recordScan k.site s.settings.inForce)]
                            else [])
                        ∧ (∀ e, e ∈ scan → e.group = none ∧ e.rate = .slow ∧ e.purpose = .scan ∧ e.slot = some slot
                            ∧ e.origin = .port p ∧ e.target = none)
                        ∧ tagged (group ++ scan) s.exe.nextTag
                        ∧ (16 < s.exe.queue.length + n →
                            exec (.aim p slot heading flag) s =
                              .next (answeredState p r .queueFull [byteOf (16 - s.exe.queue.length)] u))
                        ∧ (s.exe.queue.length + n ≤ 16 → s.exe.active.isSome = true → s.exe.closing = none →
                            exec (.aim p slot heading flag) s =
                              .next
                                (doneState p r .aimed fields
                                  (u.setExe
                                    { s.exe with
                                      queue := s.exe.queue ++ group ++ scan, nextTag := tagsAfter s.exe.nextTag n })))
                        ∧ (idlesInHeld s →
                            (n = 0 → exec (.aim p slot heading flag) s = .next (doneState p r .aimed fields u))
                              ∧ (∀ a v e others, targets.head? = some (a, v) → group = e :: others → mayDrive a v s →
                                  exec (.aim p slot heading flag) s =
                                    .next
                                      (answeredState p r .aimed fields
                                        ((u.setExe (begunOn a v e (others ++ scan) s)).setArb
                                          { s.arb with auth := .moving, idle := none })))
                              ∧ (∀ e, group = [] → scan = [e] → s.pose.faulted.pan = false → s.pose.faulted.tilt = false →
                                  1200 ≤ s.pose.position.mast → s.safe.park = true → s.exe.supply = .available →
                                    ∃ t, exec (.aim p slot heading flag) s = .next t ∧ responds [] p r .aimed fields s t
                                      ∧ t.exe.queue = [e] ∧ t.exe.drives = s.exe.drives
                                      ∧ t.scan =
                                        scanBegun s.exe.nextTag (some slot) (recordScan k.site s.settings.inForce).steps s
                                      ∧ t.arb = { s.arb with auth := .moving, idle := none }
                                      ∧ t.heading = some h ∧ t.cache = found))

/-- Stowability: the axes not parked, in the stow order, and a pose that is clear with none of them FAULTED. STOW: blocked,
nothing to do, or one locked group in the stow order at NORMAL with consecutive tags, which waits behind an active entry, and
whose first move, in HELD with nothing queued, is driven if it passes its start checks; or QUEUE FULL (R18, R20, R48, R54, R55,
R142; that QUEUE FULL carries the free room is the model's choice, log 30; a request brought directly: log 5). -/
def Obligations.StowQueuesItsGroup : Prop :=
   (∀ (position : Axes Int) (faulted : Axes Bool),
      (∀ a : Axis, a ∈ stowAxes position ↔ tolerance a < (position.get a - parkValue a).natAbs)
        ∧ List.Sublist (stowAxes position) [.pol, .tilt, .pan, .mast]
        ∧ (stowable position faulted = true ↔
            (1200 ≤ position.mast ∨ (Axis.pan ∉ stowAxes position ∧ Axis.tilt ∉ stowAxes position))
              ∧ ∀ a : Axis, a ∈ stowAxes position → faulted.get a = false))
    ∧ (∀ (p : Port) (needed : List Axis) (s : State), takes p .stow s → maySubmit p s → needed = stowAxes s.pose.position →
          (s.pose.position.mast < 1200 → (Axis.pan ∈ needed ∨ Axis.tilt ∈ needed) →
              exec (.stow p) s = .next (answeredState p .stow .stowBlocked [0x00] s))
            ∧ (1200 ≤ s.pose.position.mast ∨ (Axis.pan ∉ needed ∧ Axis.tilt ∉ needed) →
                (∀ front a rest, needed = front ++ a :: rest → (∀ b, b ∈ front → s.pose.faulted.get b = false) →
                    s.pose.faulted.get a = true →
                      exec (.stow p) s = .next (answeredState p .stow .stowBlocked [0x01, axisCode a] s))
                  ∧ (needed = [] → exec (.stow p) s = .next (doneState p .stow .done [0x00] s))
                  ∧ (needed ≠ [] → (∀ b, b ∈ needed → s.pose.faulted.get b = false) →
                      (16 < s.exe.queue.length + needed.length →
                          exec (.stow p) s =
                            .next (answeredState p .stow .queueFull [byteOf (16 - s.exe.queue.length)] s))
                        ∧ ∃ (group : List Entry) (fields : List Byte),
                            fields =
                                [byteOf s.exe.nextTag, byteOf needed.length, byteOf (s.exe.queue.length + needed.length)]
                              ∧ queuedAs group (needed.map (fun a => Motion.moveTo a (parkValue a))) s.exe.nextTag .normal .stow
                                  none p
                              ∧ tagged group s.exe.nextTag
                              ∧ (s.exe.queue.length + needed.length ≤ 16 → s.exe.active.isSome = true → s.exe.closing = none →
                                  exec (.stow p) s =
                                    .next
                                      (doneState p .stow .accepted fields
                                        (s.setExe
                                          { s.exe with
                                            queue := s.exe.queue ++ group
                                            nextTag := tagsAfter s.exe.nextTag needed.length })))
                              ∧ (∀ a others e rest, idlesInHeld s → needed = a :: others → group = e :: rest →
                                  mayDrive a (parkValue a) s →
                                    exec (.stow p) s =
                                      .next
                                        (answeredState p .stow .accepted fields
                                          ((s.setExe (begunOn a (parkValue a) e rest s)).setArb
                                            { s.arb with auth := .moving, idle := none }))))))

/-- PEAK places one SCAN entry, behind an active entry, each parameter as given or else from the record of a COMMITTED slot or
the settings, and answers with them; or QUEUE FULL (R144; the order and the widths of the parameters that ACCEPTED carries, and
that QUEUE FULL carries the free room, are the model's choice, log 29, log 30; a request brought directly: log 5). -/
def Obligations.PeakPlacesItsScan : Prop :=
  ∀ (p : Port) (q : PeakParams) (base given : ScanParams) (s : State), takes p (.peak q) s → maySubmit p s → peakFits q →
    ((q.slot = none ∧ base.source = (if s.settings.inForce.levelSource = 1 then .link else .analog))
        ∨ ∃ n k, q.slot = some n ∧ s.store.engine.erasing = false ∧ (s.store.slotAt n).state = .committed
            ∧ (s.store.slotAt n).contents = some k ∧ base.pattern = sitePattern k.site
            ∧ base.rowLength = k.site.rowLength.toNat ∧ base.stepSize = k.site.stepSize.toNat
            ∧ base.steps = (if k.site.defaultSteps = 0x00 then 256 else k.site.defaultSteps.toNat)
            ∧ base.source = recordSource k.site s.settings.inForce) →
      base.dwell = s.settings.inForce.dwell → base.block = s.settings.inForce.block.toNat →
        (∀ x, q.pattern = some x →
            given.pattern = (if x.1 = 0x00 then .spiral else .raster) ∧ given.rowLength = x.2) →
          (q.pattern = none → given.pattern = base.pattern ∧ given.rowLength = base.rowLength) →
            given.stepSize = q.stepSize.getD base.stepSize →
              given.steps = (match q.steps with
                | some n => if n = 0 then 256 else n
                | none => base.steps) →
                given.source = (match q.source with
                  | some b => if b = 0x00 then .analog else .link
                  | none => base.source) →
                  given.dwell = (match q.dwell with
                    | some n => (n : Int)
                    | none => base.dwell) →
                    given.block = q.block.getD base.block →
                      (16 ≤ s.exe.queue.length →
                          exec (.peak p q) s =
                            .next (answeredState p (.peak q) .queueFull [byteOf (16 - s.exe.queue.length)] s))
                        ∧ (s.exe.queue.length < 16 → s.exe.active.isSome = true → s.exe.closing = none →
                            exec (.peak p q) s =
                              .next
                                (doneState p (.peak q) .accepted
                                  (byteOf s.exe.nextTag :: byteOf (s.exe.queue.length + 1) :: scanParamBytes given)
                                  (s.setExe
                                    { s.exe with
                                      queue :=
                                        s.exe.queue
                                          ++ [{ tag := s.exe.nextTag, group := none, motion := .scan given, rate := .slow,
                                                origin := .port p, purpose := .scan, slot := q.slot, target := none }]
                                      nextTag := tagAfter s.exe.nextTag })))

/-- A PEAK without a slot of a holder in HELD, whose entry passes its start checks, begins its scan with the parameters that it
carries, or else the settings: the start pose, index 0, the dwell, and the result replaced, no drive being enabled (R54, R69,
R144, R145; a request brought directly: log 5). -/
def Obligations.APeakBeginsItsScan : Prop :=
  ∀ (p : Port) (q : PeakParams) (s : State), takes p (.peak q) s → peakFits q → q.slot = none →
    s.arb.holder = some (.port p) → s.arb.auth = .held → s.arb.deferred = none → s.exe.queue = [] →
      s.exe.active = none → s.exe.closing = none → s.pose.faulted.pan = false → s.pose.faulted.tilt = false →
        1200 ≤ s.pose.position.mast → s.safe.park = true → s.exe.supply = .available →
          ∃ t e given fields, exec (.peak p q) s = .next t ∧ t.exe.queue = [e] ∧ e.motion = .scan given
            ∧ responds [] p (.peak q) .accepted fields s t
            ∧ (∀ x, q.pattern = some x → given.pattern = (if x.1 = 0x00 then .spiral else .raster) ∧ given.rowLength = x.2)
            ∧ q.stepSize = some given.stepSize ∧ (∀ n, q.steps = some n → given.steps = if n = 0 then 256 else n)
            ∧ given.source =
                (match q.source with
                  | some b => if b = 0x00 then .analog else .link
                  | none => if s.settings.inForce.levelSource = 1 then .link else .analog)
            ∧ given.dwell =
                (match q.dwell with
                  | some n => (n : Int)
                  | none => s.settings.inForce.dwell)
            ∧ given.block = q.block.getD s.settings.inForce.block.toNat
            ∧ e.tag = s.exe.nextTag ∧ t.exe.drives = s.exe.drives ∧ Outside s t
            ∧ t.arb = { s.arb with auth := .moving, idle := none }
            ∧ t.scan = scanBegun s.exe.nextTag none given.steps s

/-- The patterns: the runs of the square spiral, of lengths 1, 1, 2, 2, 3, 3 and so on, in the cycle of the directions; the
rows of the raster, odd ones run back; and the step target (R146). -/
def Obligations.ScanPatterns : Prop :=
  ∀ (start : PanTilt) (q : ScanParams) (i : Nat),
    scanTarget start q i =
        { pan := start.pan + (scanOffset q i).pan * q.stepSize, tilt := start.tilt + (scanOffset q i).tilt * q.stepSize }
      ∧ (q.pattern = .spiral →
          (i = 0 → scanOffset q i = { pan := 0, tilt := 0 })
            ∧ ∀ run : Nat, (run + 1) * (run + 1) / 4 ≤ i → i < (run + 2) * (run + 2) / 4 →
                scanOffset q (i + 1) =
                  { pan := (scanOffset q i).pan + (unitMove run).pan
                    tilt := (scanOffset q i).tilt + (unitMove run).tilt })
      ∧ (q.pattern = .raster → ∀ row column : Nat, column < q.rowLength → i = row * q.rowLength + column + 1 →
          scanOffset q i =
            { pan := ((if row % 2 = 1 then q.rowLength - 1 - column else column : Nat) : Int)
                - ((q.rowLength / 2 : Nat) : Int)
              tilt := (row : Int) - ((q.rowLength / 2 : Nat) : Int) })

/-- A sample is taken: it counts its step and sets the best if it is greater, and SCAN PROGRESS is placed at a whole report
block. Then a due mark ends the scan; else, with steps left, the next step's move begins, pan and tilt driven at SLOW where they
lie outside tolerance, its dwell beginning at once if both stand there, or the scan fails with LIMIT or ENVELOPE; and with every
step done the final move begins toward the best pose in the same way, fails with ENVELOPE, or, if both stand there and nothing
is queued behind, ends the scan COMPLETE, what it solves being learned (R5, R14, R36, R57, R61, R69, R126 to R128, R147 to R153,
R155; the input in millivolts, and that a half is rounded as a free value says, are the model's choice, log 17; a request
brought directly: log 5). -/
def Obligations.ASampleIsTaken : Prop :=
  ∀ (c : Instr) (level : Int) (x : Active) (e : Entry) (rest : List Entry) (q : ScanParams) (z : Scan) (r now : ScanResult)
      (keep : Bool) (aim : PanTilt) (s : State),
    s.powered = true → scanRuns x e rest q z r s → brings c level q z s →
      keep = (z.index != 0 && r.bestLevel.any (fun best => decide (level ≤ best))) →
        now =
            { r with
              done := if z.index = 0 then r.done else z.index
              bestLevel := if keep = true then r.bestLevel else some level
              bestPose := if keep = true then r.bestPose else some z.target } →
          aim = scanTarget z.start q (z.index + 1) →
            ∃ v t : State, exec c s = .next t ∧ Sampled c e q now s v
              ∧ (x.crankDue = true ∨ x.yieldDue = true → rest = [] →
                  ∃ w,
                    w =
                        { now with
                          endReason := some (if x.crankDue = true then .endedManual else .yielded), learned := false }
                      ∧ ScanDone [] e w v t ∧ t.cache = s.cache)
              ∧ (x.crankDue = false → x.yieldDue = false →
                  (now.done < now.requested →
                      (inRange .pan aim.pan = false ∨ inRange .tilt aim.tilt = false → Failed e rest.length .limit v t)
                        ∧ (inRange .pan aim.pan = true → inRange .tilt aim.tilt = true →
                            (s.pose.position.mast < 1200 → Failed e rest.length .envelope v t)
                              ∧ (1200 ≤ s.pose.position.mast →
                                  (¬scanStands aim s → t = scanDriven x .stepMove aim { z with index := z.index + 1 } v)
                                    ∧ (scanStands aim s →
                                        t = stepArrived x { z with index := z.index + 1, target := aim } v))))
                    ∧ ∀ best, now.done = now.requested → now.bestPose = some best →
                        (s.pose.position.mast < 1200 → Failed e rest.length .envelope v t)
                          ∧ (1200 ≤ s.pose.position.mast →
                              (¬scanStands best s → t = scanDriven x .finalMove best z v)
                                ∧ (scanStands best s → rest = [] →
                                    ∃ w, ScanDone [] e w v t ∧ EndsComplete now w v t)))

/-- The levels: the ANALOG level lies within half a tenth of a dB of -1,000 plus 100 times the voltage, limited to its ends; a
LINK dwell without a report waits, and the wait's expiry fails the scan; LEVEL REPORT is taken from LINK alone, in its range
(R148, R149; the input in millivolts, and that DWELL_END and LEVEL_WAIT_EXPIRY in another phase change nothing, are the model's
choice, log 4, log 17; a request brought directly: log 5). -/
def Obligations.LevelsAreTaken : Prop :=
  (∀ v : Int, (v < 0 → analogLevel v = -1000) ∧ (10000 < v → analogLevel v = 0)
      ∧ (0 ≤ v → v ≤ 10000 → (10 * (analogLevel v + 1000) - v).natAbs ≤ 5))
    ∧ (∀ (x : Active) (e : Entry) (rest : List Entry) (q : ScanParams) (z : Scan) (r : ScanResult) (v : Int) (s : State),
        s.powered = true → scanRuns x e rest q z r s →
          (z.phase = .dwell → q.source = .link → (∀ w, s.scan.report = some w → w.sinceDwell = false) →
              exec (.dwellEnd v) s = .next (s.setScan { s.scan with scan := some { z with phase := .levelWait } }))
            ∧ (z.phase = .levelWait →
                ∃ t, exec .levelWaitExpiry s = .next t ∧ Failed e rest.length .levelLost s t)
            ∧ (z.phase ≠ .levelWait → exec .levelWaitExpiry s = .next s)
            ∧ (z.phase ≠ .dwell → exec (.dwellEnd v) s = .next s))
    ∧ ∀ (p : Port) (level : Int) (s : State), takes p (.levelReport level) s →
        (p ≠ .link → exec (.levelReport p level) s = .next (answeredState p (.levelReport level) .notPermitted [] s))
          ∧ (p = .link → level < -1200 ∨ 0 < level →
              exec (.levelReport p level) s = .next (answeredState p (.levelReport level) .outOfRange [] s))
          ∧ (p = .link → -1200 ≤ level → level ≤ 0 → (∀ z, s.scan.scan = some z → z.phase ≠ .levelWait) →
              exec (.levelReport p level) s =
                .next
                  (doneState p (.levelReport level) .done []
                    (s.setScan { s.scan with report := some { level := level, sinceDwell := true } })))

/-- The final move arrives: the scan ends COMPLETE, and what it learned, with PARK asserted, the heading known and the slot
COMMITTED and allowed, stands first in the cache (R127, R128, R152). -/
def Obligations.ACompleteScanLearns : Prop :=
  ∀ (x : Active) (e : Entry) (q : ScanParams) (z : Scan) (r : ScanResult) (n : Nat) (k : Contents) (level h : Int)
      (best : PanTilt) (reading : Reading) (s : State),
    s.powered = true → scanRuns x e [] q z r s → z.phase = .finalMove → z.target = best → nothingWaits s →
      within .pan (positionsOf reading.counts).pan best.pan = true → reading.atRest.pan = true →
        within .tilt (positionsOf reading.counts).tilt best.tilt = true → reading.atRest.tilt = true →
          r.slot = some n → r.bestLevel = some level → r.bestPose = some best → s.heading = some h →
            s.settings.inForce.learnThreshold ≤ level → s.safe.park = true → s.store.engine.erasing = false →
              (s.store.slotAt n).state = .committed → (s.store.slotAt n).contents = some k → k.site.learn = 0x01 →
                ∃ t, exec (.poseReading reading) s = .next t ∧ t.scan.scan = none
                  ∧ t.scan.result = some { r with endReason := some .complete, learned := true }
                  ∧ t.cache.entries =
                      { slot := n, bearing := (best.pan + h) % 36000, elevation := best.tilt
                        polarisation := (positionsOf reading.counts).pol
                        height := (positionsOf reading.counts).mast, peak := level }
                        :: (s.cache.entries.filter (fun c => c.slot != n)).take 11
                  ∧ t.cache.reference = (if s.cache.entries = [] then some s.pose.level else s.cache.reference)
                  ∧ t.exe.queue = [] ∧ t.exe.active = none ∧ t.exe.closing = none

/-! ### The site table and the solution cache -/

/-- STAGE SITE: checked for its slot, the table state and its fields, the first field out of range giving the position, then
placed in the sender's staging area with the check of the request's body, which the answer carries (R105, R106, R108 to R110,
R166; a request brought directly: log 5). -/
def Obligations.StageSiteStagesACandidate : Prop :=
  ∀ (p : Port) (slot : Nat) (f : SiteFields) (r : Request) (s : State), r = .stageSite slot f → takes p r s →
    (47 < slot → exec (.stageSite p slot f) s = .next (answeredState p r .outOfRange [] s))
      ∧ (∀ who n, slot ≤ 47 → s.store.engine = .erase who n →
          exec (.stageSite p slot f) s = .next (answeredState p r .tableBusy [0x02] s))
      ∧ (slot ≤ 47 → s.store.engine.erasing = false →
          (¬fieldsFit f → ∃ k : Nat, 1 ≤ k ∧ k ≤ 11 ∧ fieldFits f k = false)
            ∧ (∀ k : Nat, fieldFits f k = false → (∀ j : Nat, j < k → fieldFits f j = true) →
                exec (.stageSite p slot f) s = .next (answeredState p r .outOfRange [byteOf k] s))
            ∧ (fieldsFit f →
                exec (.stageSite p slot f) s =
                  .next
                    (doneState p r .done (wordBytes (crc16 (requestBody r)) ++ [(s.store.slotAt slot).state.code])
                      (s.setStore
                        { s.store with
                          staging :=
                            s.store.staging.set p
                              (some { slot := slot, site := siteStored f, check := crc16 (requestBody r) }) }))))

/-- COMMIT SITE and RETIRE SITE: their answers in their order, and the slot that an accepted one makes WRITING; a retire takes the
slot's entry out of the cache (R105, R107, R111, R115, R132, R134; a request brought directly: log 5). -/
def Obligations.SiteWritesBegin : Prop :=
   (∀ (p : Port) (slot : Nat) (check : Check) (r : Request) (s : State), r = .commitSite slot check → takes p r s →
      (47 < slot → exec (.commitSite p slot check) s = .next (answeredState p r .outOfRange [] s))
        ∧ (∀ who n, slot ≤ 47 → s.store.engine = .erase who n →
            exec (.commitSite p slot check) s = .next (answeredState p r .tableBusy [0x02] s))
        ∧ (slot ≤ 47 → s.store.engine.erasing = false →
            ((∀ c, s.store.staging.get p = some c → c.slot ≠ slot) →
                exec (.commitSite p slot check) s = .next (answeredState p r .nothingStaged [] s))
              ∧ ∀ c, s.store.staging.get p = some c → c.slot = slot →
                  (check ≠ c.check →
                      exec (.commitSite p slot check) s = .next (answeredState p r .checkMismatch [] s))
                    ∧ (check = c.check → s.store.engine ≠ .idle →
                        exec (.commitSite p slot check) s = .next (answeredState p r .tableBusy [0x01] s))
                    ∧ (check = c.check → s.store.engine = .idle → (s.store.slotAt slot).state ≠ .free →
                        exec (.commitSite p slot check) s =
                          .next (answeredState p r .slotTaken [(s.store.slotAt slot).state.code] s))
                    ∧ (check = c.check → s.store.engine = .idle → (s.store.slotAt slot).state = .free →
                        exec (.commitSite p slot check) s =
                          .next
                            (doneState p r .accepted [byteOf slot]
                              (s.setStore
                                { slots :=
                                    s.store.slots.set slot
                                      { state := .writing, recorded := .writing
                                        contents :=
                                          some { site := c.site, redirection := 0xFF, check := recordCheck c.site 0xFF } }
                                  staging := s.store.staging.set p none, engine := .commit slot p })))))
    ∧ (∀ (p : Port) (slot : Nat) (redirection : Option Nat) (r : Request) (s : State), r = .retireSite slot redirection →
          takes p r s →
            (47 < slot ∨ (∃ n, redirection = some n ∧ 47 < n) →
                exec (.retireSite p slot redirection) s = .next (answeredState p r .outOfRange [] s))
              ∧ (slot ≤ 47 → (∀ n, redirection = some n → n ≤ 47) →
                  (∀ who n, s.store.engine = .erase who n →
                      exec (.retireSite p slot redirection) s = .next (answeredState p r .tableBusy [0x02] s))
                    ∧ (s.store.engine ≠ .idle → s.store.engine.erasing = false →
                        exec (.retireSite p slot redirection) s = .next (answeredState p r .tableBusy [0x01] s))
                    ∧ (s.store.engine = .idle → (s.store.slotAt slot).state ≠ .committed →
                        exec (.retireSite p slot redirection) s =
                          .next (answeredState p r .notCommitted [(s.store.slotAt slot).state.code] s))
                    ∧ ∀ k, s.store.engine = .idle → (s.store.slotAt slot).state = .committed →
                        (s.store.slotAt slot).contents = some k →
                          (∀ n, redirection = some n → n = slot ∨ (s.store.slotAt n).state ≠ .committed →
                              exec (.retireSite p slot redirection) s =
                                .next (answeredState p r .badRedirection [(s.store.slotAt n).state.code] s))
                            ∧ ((∀ n, redirection = some n → n ≠ slot ∧ (s.store.slotAt n).state = .committed) →
                                ∃ u, onlyOutputs (fun _ => [10]) s u
                                  ∧ (holds slot s.cache = true →
                                      tellsAll
                                        (.cacheFlushed .retire (some slot) none 1 (cacheWithout slot s.cache).entries.length) s u)
                                  ∧ (holds slot s.cache = false → u = s)
                                  ∧ exec (.retireSite p slot redirection) s =
                                      .next
                                        (doneState p r .accepted [byteOf slot, optionByte redirection]
                                          ((u.setCache (if holds slot s.cache = true then cacheWithout slot s.cache else s.cache)).setStore
                                            { s.store with
                                              slots :=
                                                s.store.slots.set slot
                                                  { state := .writing, recorded := .writing
                                                    contents :=
                                                      some
                                                        { site := k.site, redirection := optionByte redirection
                                                          check := recordCheck k.site (optionByte redirection) } }
                                              engine := .retire slot p })))))

/-- A slot write ends: COMMITTED or RETIRED with its read-back good, DAMAGED with it bad, the record check then not matching;
the writer is told whatever its mask, the other ports under theirs; with no write in flight nothing happens (R112, R113, R116,
R121; that an end with no write in flight changes nothing, and that a bad read-back differs in its check, are the model's choice,
log 4, log 8). -/
def Obligations.ASlotWriteEnds : Prop :=
  ∀ (back : ReadBack) (slot : Nat) (writer : Port) (retire : Bool) (reached : SlotState) (k : Contents) (s : State),
    s.powered = true →
      (s.store.engine.write = none → exec (.slotWriteEnd back) s = .next s)
        ∧ (s.store.engine = (if retire = true then .retire slot writer else .commit slot writer) → storeFits s →
            (s.store.slotAt slot).contents = some k →
              reached =
                  (match back with
                  | .good => if retire = true then .retired else .committed
                  | .bad _ _ _ => .damaged) →
                ∃ t, exec (.slotWriteEnd back) s = .next t ∧ onlyOutputs (fun _ => [8]) (s.setStore t.store) t ∧ onlySlot slot s t
                  ∧ t.store.engine = .idle ∧ t.store.staging = s.store.staging
                  ∧ (t.store.slotAt slot).state = reached
                  ∧ (back = .good → (t.store.slotAt slot).contents = some k)
                  ∧ (back ≠ .good → ∃ found, (t.store.slotAt slot).contents = some found ∧ found.good = false)
                  ∧ tells writer
                      (.siteWritten slot reached (if retire = true then .retire else .commit) writer k.redirection 1) s t
                  ∧ ∀ q : Port, q ≠ writer →
                      tellsIf q
                        (.siteWritten slot reached (if retire = true then .retire else .commit) writer k.redirection 1) s t)

/-- ERASE TABLE: only RACK, refused while a write or an erase is in flight or a SCAN entry is queued; accepted, it empties the
cache and the staging areas and answers the number of slots not FREE; at its end every slot is FREE (R105, R117, R118, R131; that
ERASE_END with no erase changes nothing, and that the slots keep their states until the end, are the model's choice, log 4,
log 44; a request brought directly: log 5). -/
def Obligations.EraseTableFreesEverySlot : Prop :=
  ∀ (p : Port) (n : Nat) (s : State), n = (s.store.slots.filter (fun x => x.state != .free)).length →
    (takes p .eraseTable s →
        (p ≠ .rack → exec (.eraseTable p) s = .next (answeredState p .eraseTable .notPermitted [] s))
          ∧ (p = .rack →
              (s.store.engine ≠ .idle ∨ (∃ e q, e ∈ s.exe.queue ∧ e.motion = .scan q) →
                  exec (.eraseTable p) s =
                    .next (answeredState p .eraseTable .tableBusy [Engine.tableByte s.store.engine] s))
                ∧ (s.store.engine = .idle → (∀ e q, e ∈ s.exe.queue → e.motion ≠ .scan q) →
                    ∃ u, exec (.eraseTable p) s = .next (doneState p .eraseTable .accepted [byteOf n] u)
                      ∧ onlyOutputs (fun _ => [10])
                          ((s.setCache { entries := [], reference := none }).setStore
                            { s.store with engine := .erase .rack n, staging := Ports.all none })
                          u
                      ∧ tellsAll (.cacheFlushed .erase none (some .rack) s.cache.entries.length 0) s u)))
      ∧ (s.powered = true →
          (∀ who k, s.store.engine = .erase who k →
              ∃ t, exec .eraseEnd s = .next t
                ∧ onlyOutputs (fun _ => [9])
                    (s.setStore
                      { s.store with
                        slots := List.replicate 48 { state := .free, recorded := .free, contents := none }
                        engine := .idle })
                    t
                ∧ tellsAll (.tableErased who k) s t)
            ∧ (s.store.engine.erasing = false → exec .eraseEnd s = .next s))

/-- The cache's removals: INVALIDATE SITE from LINK and RACK, FLUSH CACHE, and a sample beyond the level tolerance of the
reference; each removal is told to every port that admits it (R8, R126, R130 to R132, R134; a request brought directly: log 5). -/
def Obligations.CacheRemovals : Prop :=
  ∀ (p : Port) (slot : Nat) (sample : Level) (s u : State),
    u = s.setPose
        { s.pose with
          level :=
            { pitch := max (-3000) (min 3000 sample.pitch), roll := max (-3000) (min 3000 sample.roll) } } →
      (takes p (.invalidateSite slot) s →
          (p = .cab →
              exec (.invalidateSite p slot) s = .next (answeredState p (.invalidateSite slot) .notPermitted [] s))
            ∧ (p ≠ .cab → 47 < slot →
                exec (.invalidateSite p slot) s = .next (answeredState p (.invalidateSite slot) .outOfRange [] s))
            ∧ (p ≠ .cab → slot ≤ 47 → holds slot s.cache = false →
                exec (.invalidateSite p slot) s = .next (doneState p (.invalidateSite slot) .done [0x00] s))
            ∧ (p ≠ .cab → slot ≤ 47 → holds slot s.cache = true →
                ∃ v, exec (.invalidateSite p slot) s = .next (doneState p (.invalidateSite slot) .done [0x01] v)
                  ∧ onlyOutputs (fun _ => [10]) (s.setCache (cacheWithout slot s.cache)) v
                  ∧ tellsAll
                      (.cacheFlushed .invalidate (some slot) (some p) 1 (cacheWithout slot s.cache).entries.length) s v))
        ∧ (takes p .flushCache s →
            ∃ v, exec (.flushCache p) s = .next (doneState p .flushCache .done [byteOf s.cache.entries.length] v)
              ∧ onlyOutputs (fun _ => [10]) (s.setCache { entries := [], reference := none }) v
              ∧ tellsAll (.cacheFlushed .flush none (some p) s.cache.entries.length 0) s v)
        ∧ (s.powered = true →
            (levelWithin s.settings.inForce.tolerance u → exec (.inclinometerSample sample) s = .next u)
              ∧ (¬levelWithin s.settings.inForce.tolerance u →
                  ∃ t, exec (.inclinometerSample sample) s = .next t
                    ∧ onlyOutputs (fun _ => [10]) (u.setCache { entries := [], reference := none }) t
                    ∧ tellsAll (.cacheFlushed .level none none s.cache.entries.length 0) s t))

/-! ### Settings, starts and power -/

/-- CONFIGURE and REVERT from RACK: the value is in force and the write begins, the port's answer waiting for its end; the end of
the write stores the set with a fresh check and answers DONE with the code and the value (R130, R170; when the value is in force,
and that an end with no write in flight changes nothing, are the model's choice, log 4, log 12; a request brought directly:
log 5). -/
def Obligations.SettingsAreWritten : Prop :=
  ∀ (p : Port) (feature : Byte) (x : Int) (s : State),
    (takes p (.configure feature x) s →
        (p ≠ .rack →
            exec (.configure p feature x) s = .next (answeredState p (.configure feature x) .notPermitted [] s))
          ∧ (p = .rack → feature ≠ 0x7F → ¬supported feature x →
              exec (.configure p feature x) s = .next (answeredState p (.configure feature x) .unsupported [] s))
          ∧ (p = .rack → supported feature x →
              ∃ v, featureValue v feature = some x
                ∧ (∀ g, g ≠ feature → featureValue v g = featureValue s.settings.inForce g)
                ∧ (feature ≠ 0x08 ∨ levelWithin x s →
                    exec (.configure p feature x) s =
                      .next
                        (withPort .rack { s.ports.rack with inHand := .working }
                          (s.setSettings { s.settings with inForce := v, writing := some (feature, x) })))
                ∧ (feature = 0x08 → ¬levelWithin x s →
                    ∃ t, exec (.configure p feature x) s = .next t
                      ∧ onlyOutputs (fun _ => [10])
                          (withPort .rack { s.ports.rack with inHand := .working }
                            ((s.setSettings { s.settings with inForce := v, writing := some (feature, x) }).setCache
                              { entries := [], reference := none }))
                          t
                      ∧ tellsAll (.cacheFlushed .level none none s.cache.entries.length 0) s t)))
      ∧ (takes p .revert s →
          (p ≠ .rack → exec (.revert p) s = .next (answeredState p .revert .notPermitted [] s))
            ∧ (p = .rack → s.settings.inForce.tolerance = 30 ∨ levelWithin 30 s →
                exec (.revert p) s =
                  .next
                    (withPort .rack { s.ports.rack with inHand := .working }
                      (s.setSettings
                        { s.settings with inForce := SettingValues.defaults, writing := some (0x7F, 0) })))
            ∧ (p = .rack → s.settings.inForce.tolerance ≠ 30 → ¬levelWithin 30 s →
                ∃ t, exec (.revert p) s = .next t
                  ∧ onlyOutputs (fun _ => [10])
                      (withPort .rack { s.ports.rack with inHand := .working }
                        ((s.setSettings
                            { s.settings with inForce := SettingValues.defaults, writing := some (0x7F, 0) }).setCache
                          { entries := [], reference := none }))
                      t
                  ∧ tellsAll (.cacheFlushed .level none none s.cache.entries.length 0) s t))
      ∧ (s.powered = true →
          (s.settings.writing = none → exec .settingsWriteEnd s = .next s)
            ∧ (s.settings.writing = some (feature, x) →
                exec .settingsWriteEnd s =
                  .next
                    (doneState .rack (.configure feature x) .done (feature :: intBytes x)
                      (s.setSettings
                        { s.settings with
                          stored := { values := s.settings.inForce, check := settingsCheck s.settings.inForce }
                          writing := none }))))

/-- The cold start: each block with its cold start values, the slots examined, the stored settings loaded if they pass their
test, else the defaults; then the lines found are taken in their order: ESTOP asserted as an assertion, PARK negated as a
negation, and MANUAL REQ asserted as an assertion in the state then reached (R79, R88, R95, R101, R107, R122, R167, R168, R171;
that power may be applied in any state is the model's choice, log 7). -/
def Obligations.AColdStartStartsAfresh : Prop :=
  ∀ (i : StartInputs) (s : State),
    ∃ t u, exec (.powerApplied i) s = .next u ∧ linesRead i false t u ∧ Started .cold Reasons.empty i t
      ∧ t.pose.level = { pitch := max (-3000) (min 3000 i.level.pitch), roll := max (-3000) (min 3000 i.level.roll) }
      ∧ t.pose.latch = false ∧ t.pose.faulted = i.faultLine ∧ t.cache = { entries := [], reference := none }
      ∧ t.safe.pulses = { current := 0, last := 0, beforeLast := 0 } ∧ t.safe.speed = 0 ∧ t.safe.windClass = .normal
      ∧ t.safe.calm = 0 ∧ t.safe.ease = 0 ∧ t.safe.alarmPark = false ∧ t.safe.alarmWind = false ∧ t.safe.alarm = false
      ∧ t.settings.stored = s.settings.stored
      ∧ (s.settings.stored.check = settingsCheck s.settings.stored.values → settingsInRange s.settings.stored.values = true →
          t.settings.inForce = s.settings.stored.values ∧ t.settings.defaulted = false)
      ∧ (s.settings.stored.check ≠ settingsCheck s.settings.stored.values ∨ settingsInRange s.settings.stored.values = false →
          t.settings.inForce = SettingValues.defaults ∧ t.settings.defaulted = true)
      ∧ ∀ (n : Nat) (x : Slot), s.store.slots[n]? = some x → ∃ y, t.store.slots[n]? = some y
          ∧ (x.recorded = .free → y = { state := .free, recorded := .free, contents := none })
          ∧ (x.recorded ≠ .free → y.recorded = x.recorded ∧ y.contents = x.contents)
          ∧ (∀ k, x.contents = some k → k.check = recordCheck k.site k.redirection →
              (x.recorded = .committed → y.state = .committed) ∧ (x.recorded = .retired → y.state = .retired))
          ∧ (∀ k, x.contents = some k → k.check ≠ recordCheck k.site k.redirection → x.recorded ≠ .free →
              y.state = .damaged)
          ∧ (x.recorded = .writing ∨ x.recorded = .other → y.state = .damaged)

/-- The warm start, by an assertion of RESET or by RESTART from RACK: ports, authority, queue, heading, scan and staging areas
start afresh; level, latch, FAULTED flags, cache, wind, settings, reasons and slots are kept, a write in flight having run to
its end unreported, its read-back good or bad; RESTART from another port is refused, and a line held asserted does not repeat
the start; then the lines found are taken in their order, ESTOP asserted, PARK negated or seen negated during the start, the
kept class LIMIT with the mast above 3,000 mm, and MANUAL REQ asserted (R4, R20, R79, R88, R95, R100, R101, R113, R123, R131,
R168, R169; that a transmission in flight is dropped, and that the emptied alarm causes give no notice, are the model's choice,
log 39; a request brought directly: log 5). -/
def Obligations.AWarmStartKeepsWhatItMust : Prop :=
  ∀ (i : StartInputs) (p : Port) (s : State), s.powered = true →
    (∀ (c : Instr) (cause : StartCause),
        (c = .reset i ∧ s.safe.resetLine = false ∧ cause = .warmReset)
            ∨ (c = .restart .rack i ∧ takes .rack .restart s ∧ cause = .warmRestart) →
          ∃ t u, exec c s = .next u ∧ linesRead i i.parkNegatedDuring t u ∧ Started cause s.arb.reasons i t
            ∧ t.pose.level = s.pose.level ∧ t.pose.latch = s.pose.latch
            ∧ (∀ a : Axis, t.pose.faulted.get a = (s.pose.faulted.get a || i.faultLine.get a))
            ∧ t.cache = s.cache ∧ t.safe.pulses = s.safe.pulses ∧ t.safe.speed = s.safe.speed
            ∧ t.safe.windClass = s.safe.windClass ∧ t.safe.calm = s.safe.calm ∧ t.safe.ease = s.safe.ease
            ∧ t.safe.alarmPark = false ∧ t.safe.alarmWind = false ∧ t.safe.alarm = false
            ∧ t.settings.inForce = s.settings.inForce ∧ t.settings.defaulted = s.settings.defaulted
            ∧ (s.settings.writing.isSome = true →
                t.settings.stored = { values := s.settings.inForce, check := settingsCheck s.settings.inForce })
            ∧ (s.settings.writing = none → t.settings.stored = s.settings.stored)
            ∧ (s.store.engine = .idle → t.store.slots = s.store.slots)
            ∧ (∀ who n, s.store.engine = .erase who n →
                t.store.slots = List.replicate 48 { state := .free, recorded := .free, contents := none })
            ∧ ∀ n who retire, s.store.engine.write = some (n, who, retire) → storeFits s →
                onlySlot n s t
                  ∧ (i.readBack = .good →
                      (t.store.slotAt n).state = (if retire = true then .retired else .committed)
                        ∧ (t.store.slotAt n).contents = (s.store.slotAt n).contents)
                  ∧ (i.readBack ≠ .good → (t.store.slotAt n).state = .damaged))
      ∧ (s.safe.resetLine = true → exec (.reset i) s = .next s)
      ∧ (takes p .restart s → p ≠ .rack → exec (.restart p i) s = .next (answeredState p .restart .notPermitted [] s))
      ∧ exec .resetNegated s = .next (s.setSafe { s.safe with resetLine := false })

/-- A power loss leaves nonvolatile memory alone but for an operation in flight: a slot being written stays recorded as WRITING,
and the next cold start makes it DAMAGED; the slots that an erase had reached are FREE and those not reached as they were; the
stored settings are the old set or one whose check does not match. Without power nothing but POWER_APPLIED has an effect, which
is the model's choice, log 6 (R113, R122, R171). -/
def Obligations.PowerLossStopsTheController : Prop :=
  ∀ (left : PowerLoss) (s : State),
    (s.powered = true →
        ∃ t, exec (.powerLoss left) s = .next t ∧ t.powered = false ∧ t.pending = s.pending
          ∧ (s.store.engine = .idle → t.store.slots = s.store.slots)
          ∧ (∀ n who retire, s.store.engine.write = some (n, who, retire) → storeFits s →
              onlySlot n s t ∧ (t.store.slotAt n).recorded = .writing
                ∧ ∀ i : StartInputs, quiet i →
                    ∃ u, exec (.powerApplied i) t = .next u ∧ (u.store.slotAt n).state = .damaged)
          ∧ (∀ who k n, s.store.engine = .erase who k → s.store.slots.length = 48 →
              (n < left.erased → n < 48 → t.store.slots[n]? = some { state := .free, recorded := .free, contents := none })
                ∧ (left.erased < n → t.store.slots[n]? = s.store.slots[n]?))
          ∧ (s.settings.writing = none ∨ left.settings = none → t.settings.stored = s.settings.stored)
          ∧ (∀ v error, s.settings.writing.isSome = true → left.settings = some (v, error) →
              t.settings.stored.values = v ∧ t.settings.stored.check ≠ settingsCheck v))
      ∧ (s.powered = false → ∀ c : Instr, (∀ i, c ≠ .powerApplied i) → exec c s = .next s)

/-! ### The invariants -/

/-- Every command keeps the positions following the counts, and the outputs following what they show (R4, R19, R79, R100,
R101). -/
def Obligations.OutputsFollowIsKept : Prop := ∀ (c : Instr) (s t : State), outputsFollow s → exec c s = .next t → outputsFollow t

/-- Every step keeps the motion invariant: who holds authority and who waits for it, that only the running entry's axes are
driven, and that motion and handovers stand only where the authority state allows them (R3, R20, R23, R34, R62). -/
def Obligations.MotionFitsIsKept : Prop := ∀ s t : State, motionFits s → step s = .next t → motionFits t

/-- Every command keeps the capacities: 16 entries, 4 frames received, one response and one notice of each kind, and no more
steps done than requested (R46, R154, R159, R161; a request brought directly is taken only where a frame would be, log 5). -/
def Obligations.CapacitiesAreKept : Prop :=
  ∀ (c : Instr) (s t : State), queueFits s → scanFits s → portsFit s → exec c s = .next t →
    queueFits t ∧ scanFits t ∧ portsFit t

/-- Every step keeps the site table and the cache together: 48 slots, the slot written WRITING, and at most 12 entries, one for
a slot, of COMMITTED slots alone (R104, R105, R113, R124, R126). -/
def Obligations.TableFitsIsKept : Prop := ∀ s t : State, tableFits s → step s = .next t → tableFits t

/-- Every command keeps the settings in their ranges, and every cache entry under PARK and within the level tolerance (R130,
R170). -/
def Obligations.GuardFitsIsKept : Prop := ∀ (c : Instr) (s t : State), guardFits s → exec c s = .next t → guardFits t

/-- The reset state has every invariant. -/
def Obligations.ResetHasTheInvariants : Prop :=
  outputsFollow State.reset ∧ motionFits State.reset ∧ queueFits State.reset ∧ scanFits State.reset
    ∧ portsFit State.reset ∧ tableFits State.reset ∧ guardFits State.reset
end

