-- ==== Sys2Proof/Laws/State.lean ====
section
/-! SUPPORT. One lemma per field per update of State, all true by rfl, so that no proof unfolds a record update; and the laws of
the per-port and per-axis items. -/

namespace Sys2Proof

@[simp] theorem Ports.get_set_same {α : Type} (m : Ports α) (p : Port) (x : α) : (m.set p x).get p = x := by cases p <;> rfl

theorem Ports.get_set_other {α : Type} (m : Ports α) {p q : Port} (x : α) (h : q ≠ p) : (m.set p x).get q = m.get q := by
  cases p <;> cases q <;> first | rfl | exact absurd rfl h

theorem Ports.get_set {α : Type} (m : Ports α) (p q : Port) (x : α) :
    (m.set p x).get q = if q = p then x else m.get q := by
  cases p <;> cases q <;> rfl

@[simp] theorem Ports.set_get {α : Type} (m : Ports α) (p : Port) : m.set p (m.get p) = m := by cases p <;> rfl

@[simp] theorem Ports.set_set {α : Type} (m : Ports α) (p : Port) (x y : α) : (m.set p x).set p y = m.set p y := by
  cases p <;> rfl

@[simp] theorem Axes.get_set_same {α : Type} (m : Axes α) (a : Axis) (x : α) : (m.set a x).get a = x := by cases a <;> rfl

theorem Axes.get_set_other {α : Type} (m : Axes α) {a b : Axis} (x : α) (h : b ≠ a) : (m.set a x).get b = m.get b := by
  cases a <;> cases b <;> first | rfl | exact absurd rfl h

theorem Axes.get_set {α : Type} (m : Axes α) (a b : Axis) (x : α) :
    (m.set a x).get b = if b = a then x else m.get b := by
  cases a <;> cases b <;> rfl

end Sys2Proof

namespace Sys2Proof.Machine

@[simp] theorem State.setPending_pending (s : State) (x : List Instr) : (s.setPending x).pending = x := rfl
@[simp] theorem State.setPending_powered (s : State) (x : List Instr) : (s.setPending x).powered = s.powered := rfl
@[simp] theorem State.setPending_ports (s : State) (x : List Instr) : (s.setPending x).ports = s.ports := rfl
@[simp] theorem State.setPending_arb (s : State) (x : List Instr) : (s.setPending x).arb = s.arb := rfl
@[simp] theorem State.setPending_exe (s : State) (x : List Instr) : (s.setPending x).exe = s.exe := rfl
@[simp] theorem State.setPending_pose (s : State) (x : List Instr) : (s.setPending x).pose = s.pose := rfl
@[simp] theorem State.setPending_safe (s : State) (x : List Instr) : (s.setPending x).safe = s.safe := rfl
@[simp] theorem State.setPending_store (s : State) (x : List Instr) : (s.setPending x).store = s.store := rfl
@[simp] theorem State.setPending_cache (s : State) (x : List Instr) : (s.setPending x).cache = s.cache := rfl
@[simp] theorem State.setPending_heading (s : State) (x : List Instr) : (s.setPending x).heading = s.heading := rfl
@[simp] theorem State.setPending_scan (s : State) (x : List Instr) : (s.setPending x).scan = s.scan := rfl
@[simp] theorem State.setPending_settings (s : State) (x : List Instr) : (s.setPending x).settings = s.settings := rfl

@[simp] theorem State.setPowered_pending (s : State) (x : Bool) : (s.setPowered x).pending = s.pending := rfl
@[simp] theorem State.setPowered_powered (s : State) (x : Bool) : (s.setPowered x).powered = x := rfl
@[simp] theorem State.setPowered_ports (s : State) (x : Bool) : (s.setPowered x).ports = s.ports := rfl
@[simp] theorem State.setPowered_arb (s : State) (x : Bool) : (s.setPowered x).arb = s.arb := rfl
@[simp] theorem State.setPowered_exe (s : State) (x : Bool) : (s.setPowered x).exe = s.exe := rfl
@[simp] theorem State.setPowered_pose (s : State) (x : Bool) : (s.setPowered x).pose = s.pose := rfl
@[simp] theorem State.setPowered_safe (s : State) (x : Bool) : (s.setPowered x).safe = s.safe := rfl
@[simp] theorem State.setPowered_store (s : State) (x : Bool) : (s.setPowered x).store = s.store := rfl
@[simp] theorem State.setPowered_cache (s : State) (x : Bool) : (s.setPowered x).cache = s.cache := rfl
@[simp] theorem State.setPowered_heading (s : State) (x : Bool) : (s.setPowered x).heading = s.heading := rfl
@[simp] theorem State.setPowered_scan (s : State) (x : Bool) : (s.setPowered x).scan = s.scan := rfl
@[simp] theorem State.setPowered_settings (s : State) (x : Bool) : (s.setPowered x).settings = s.settings := rfl

@[simp] theorem State.setPorts_pending (s : State) (x : Ports PortState) : (s.setPorts x).pending = s.pending := rfl
@[simp] theorem State.setPorts_powered (s : State) (x : Ports PortState) : (s.setPorts x).powered = s.powered := rfl
@[simp] theorem State.setPorts_ports (s : State) (x : Ports PortState) : (s.setPorts x).ports = x := rfl
@[simp] theorem State.setPorts_arb (s : State) (x : Ports PortState) : (s.setPorts x).arb = s.arb := rfl
@[simp] theorem State.setPorts_exe (s : State) (x : Ports PortState) : (s.setPorts x).exe = s.exe := rfl
@[simp] theorem State.setPorts_pose (s : State) (x : Ports PortState) : (s.setPorts x).pose = s.pose := rfl
@[simp] theorem State.setPorts_safe (s : State) (x : Ports PortState) : (s.setPorts x).safe = s.safe := rfl
@[simp] theorem State.setPorts_store (s : State) (x : Ports PortState) : (s.setPorts x).store = s.store := rfl
@[simp] theorem State.setPorts_cache (s : State) (x : Ports PortState) : (s.setPorts x).cache = s.cache := rfl
@[simp] theorem State.setPorts_heading (s : State) (x : Ports PortState) : (s.setPorts x).heading = s.heading := rfl
@[simp] theorem State.setPorts_scan (s : State) (x : Ports PortState) : (s.setPorts x).scan = s.scan := rfl
@[simp] theorem State.setPorts_settings (s : State) (x : Ports PortState) : (s.setPorts x).settings = s.settings := rfl

@[simp] theorem State.setArb_pending (s : State) (x : Arbiter) : (s.setArb x).pending = s.pending := rfl
@[simp] theorem State.setArb_powered (s : State) (x : Arbiter) : (s.setArb x).powered = s.powered := rfl
@[simp] theorem State.setArb_ports (s : State) (x : Arbiter) : (s.setArb x).ports = s.ports := rfl
@[simp] theorem State.setArb_arb (s : State) (x : Arbiter) : (s.setArb x).arb = x := rfl
@[simp] theorem State.setArb_exe (s : State) (x : Arbiter) : (s.setArb x).exe = s.exe := rfl
@[simp] theorem State.setArb_pose (s : State) (x : Arbiter) : (s.setArb x).pose = s.pose := rfl
@[simp] theorem State.setArb_safe (s : State) (x : Arbiter) : (s.setArb x).safe = s.safe := rfl
@[simp] theorem State.setArb_store (s : State) (x : Arbiter) : (s.setArb x).store = s.store := rfl
@[simp] theorem State.setArb_cache (s : State) (x : Arbiter) : (s.setArb x).cache = s.cache := rfl
@[simp] theorem State.setArb_heading (s : State) (x : Arbiter) : (s.setArb x).heading = s.heading := rfl
@[simp] theorem State.setArb_scan (s : State) (x : Arbiter) : (s.setArb x).scan = s.scan := rfl
@[simp] theorem State.setArb_settings (s : State) (x : Arbiter) : (s.setArb x).settings = s.settings := rfl

@[simp] theorem State.setExe_pending (s : State) (x : Executor) : (s.setExe x).pending = s.pending := rfl
@[simp] theorem State.setExe_powered (s : State) (x : Executor) : (s.setExe x).powered = s.powered := rfl
@[simp] theorem State.setExe_ports (s : State) (x : Executor) : (s.setExe x).ports = s.ports := rfl
@[simp] theorem State.setExe_arb (s : State) (x : Executor) : (s.setExe x).arb = s.arb := rfl
@[simp] theorem State.setExe_exe (s : State) (x : Executor) : (s.setExe x).exe = x := rfl
@[simp] theorem State.setExe_pose (s : State) (x : Executor) : (s.setExe x).pose = s.pose := rfl
@[simp] theorem State.setExe_safe (s : State) (x : Executor) : (s.setExe x).safe = s.safe := rfl
@[simp] theorem State.setExe_store (s : State) (x : Executor) : (s.setExe x).store = s.store := rfl
@[simp] theorem State.setExe_cache (s : State) (x : Executor) : (s.setExe x).cache = s.cache := rfl
@[simp] theorem State.setExe_heading (s : State) (x : Executor) : (s.setExe x).heading = s.heading := rfl
@[simp] theorem State.setExe_scan (s : State) (x : Executor) : (s.setExe x).scan = s.scan := rfl
@[simp] theorem State.setExe_settings (s : State) (x : Executor) : (s.setExe x).settings = s.settings := rfl

@[simp] theorem State.setPose_pending (s : State) (x : PoseMonitor) : (s.setPose x).pending = s.pending := rfl
@[simp] theorem State.setPose_powered (s : State) (x : PoseMonitor) : (s.setPose x).powered = s.powered := rfl
@[simp] theorem State.setPose_ports (s : State) (x : PoseMonitor) : (s.setPose x).ports = s.ports := rfl
@[simp] theorem State.setPose_arb (s : State) (x : PoseMonitor) : (s.setPose x).arb = s.arb := rfl
@[simp] theorem State.setPose_exe (s : State) (x : PoseMonitor) : (s.setPose x).exe = s.exe := rfl
@[simp] theorem State.setPose_pose (s : State) (x : PoseMonitor) : (s.setPose x).pose = x := rfl
@[simp] theorem State.setPose_safe (s : State) (x : PoseMonitor) : (s.setPose x).safe = s.safe := rfl
@[simp] theorem State.setPose_store (s : State) (x : PoseMonitor) : (s.setPose x).store = s.store := rfl
@[simp] theorem State.setPose_cache (s : State) (x : PoseMonitor) : (s.setPose x).cache = s.cache := rfl
@[simp] theorem State.setPose_heading (s : State) (x : PoseMonitor) : (s.setPose x).heading = s.heading := rfl
@[simp] theorem State.setPose_scan (s : State) (x : PoseMonitor) : (s.setPose x).scan = s.scan := rfl
@[simp] theorem State.setPose_settings (s : State) (x : PoseMonitor) : (s.setPose x).settings = s.settings := rfl

@[simp] theorem State.setSafe_pending (s : State) (x : SafetyMonitor) : (s.setSafe x).pending = s.pending := rfl
@[simp] theorem State.setSafe_powered (s : State) (x : SafetyMonitor) : (s.setSafe x).powered = s.powered := rfl
@[simp] theorem State.setSafe_ports (s : State) (x : SafetyMonitor) : (s.setSafe x).ports = s.ports := rfl
@[simp] theorem State.setSafe_arb (s : State) (x : SafetyMonitor) : (s.setSafe x).arb = s.arb := rfl
@[simp] theorem State.setSafe_exe (s : State) (x : SafetyMonitor) : (s.setSafe x).exe = s.exe := rfl
@[simp] theorem State.setSafe_pose (s : State) (x : SafetyMonitor) : (s.setSafe x).pose = s.pose := rfl
@[simp] theorem State.setSafe_safe (s : State) (x : SafetyMonitor) : (s.setSafe x).safe = x := rfl
@[simp] theorem State.setSafe_store (s : State) (x : SafetyMonitor) : (s.setSafe x).store = s.store := rfl
@[simp] theorem State.setSafe_cache (s : State) (x : SafetyMonitor) : (s.setSafe x).cache = s.cache := rfl
@[simp] theorem State.setSafe_heading (s : State) (x : SafetyMonitor) : (s.setSafe x).heading = s.heading := rfl
@[simp] theorem State.setSafe_scan (s : State) (x : SafetyMonitor) : (s.setSafe x).scan = s.scan := rfl
@[simp] theorem State.setSafe_settings (s : State) (x : SafetyMonitor) : (s.setSafe x).settings = s.settings := rfl

@[simp] theorem State.setStore_pending (s : State) (x : Store) : (s.setStore x).pending = s.pending := rfl
@[simp] theorem State.setStore_powered (s : State) (x : Store) : (s.setStore x).powered = s.powered := rfl
@[simp] theorem State.setStore_ports (s : State) (x : Store) : (s.setStore x).ports = s.ports := rfl
@[simp] theorem State.setStore_arb (s : State) (x : Store) : (s.setStore x).arb = s.arb := rfl
@[simp] theorem State.setStore_exe (s : State) (x : Store) : (s.setStore x).exe = s.exe := rfl
@[simp] theorem State.setStore_pose (s : State) (x : Store) : (s.setStore x).pose = s.pose := rfl
@[simp] theorem State.setStore_safe (s : State) (x : Store) : (s.setStore x).safe = s.safe := rfl
@[simp] theorem State.setStore_store (s : State) (x : Store) : (s.setStore x).store = x := rfl
@[simp] theorem State.setStore_cache (s : State) (x : Store) : (s.setStore x).cache = s.cache := rfl
@[simp] theorem State.setStore_heading (s : State) (x : Store) : (s.setStore x).heading = s.heading := rfl
@[simp] theorem State.setStore_scan (s : State) (x : Store) : (s.setStore x).scan = s.scan := rfl
@[simp] theorem State.setStore_settings (s : State) (x : Store) : (s.setStore x).settings = s.settings := rfl

@[simp] theorem State.setCache_pending (s : State) (x : Cache) : (s.setCache x).pending = s.pending := rfl
@[simp] theorem State.setCache_powered (s : State) (x : Cache) : (s.setCache x).powered = s.powered := rfl
@[simp] theorem State.setCache_ports (s : State) (x : Cache) : (s.setCache x).ports = s.ports := rfl
@[simp] theorem State.setCache_arb (s : State) (x : Cache) : (s.setCache x).arb = s.arb := rfl
@[simp] theorem State.setCache_exe (s : State) (x : Cache) : (s.setCache x).exe = s.exe := rfl
@[simp] theorem State.setCache_pose (s : State) (x : Cache) : (s.setCache x).pose = s.pose := rfl
@[simp] theorem State.setCache_safe (s : State) (x : Cache) : (s.setCache x).safe = s.safe := rfl
@[simp] theorem State.setCache_store (s : State) (x : Cache) : (s.setCache x).store = s.store := rfl
@[simp] theorem State.setCache_cache (s : State) (x : Cache) : (s.setCache x).cache = x := rfl
@[simp] theorem State.setCache_heading (s : State) (x : Cache) : (s.setCache x).heading = s.heading := rfl
@[simp] theorem State.setCache_scan (s : State) (x : Cache) : (s.setCache x).scan = s.scan := rfl
@[simp] theorem State.setCache_settings (s : State) (x : Cache) : (s.setCache x).settings = s.settings := rfl

@[simp] theorem State.setHeading_pending (s : State) (x : Option Int) : (s.setHeading x).pending = s.pending := rfl
@[simp] theorem State.setHeading_powered (s : State) (x : Option Int) : (s.setHeading x).powered = s.powered := rfl
@[simp] theorem State.setHeading_ports (s : State) (x : Option Int) : (s.setHeading x).ports = s.ports := rfl
@[simp] theorem State.setHeading_arb (s : State) (x : Option Int) : (s.setHeading x).arb = s.arb := rfl
@[simp] theorem State.setHeading_exe (s : State) (x : Option Int) : (s.setHeading x).exe = s.exe := rfl
@[simp] theorem State.setHeading_pose (s : State) (x : Option Int) : (s.setHeading x).pose = s.pose := rfl
@[simp] theorem State.setHeading_safe (s : State) (x : Option Int) : (s.setHeading x).safe = s.safe := rfl
@[simp] theorem State.setHeading_store (s : State) (x : Option Int) : (s.setHeading x).store = s.store := rfl
@[simp] theorem State.setHeading_cache (s : State) (x : Option Int) : (s.setHeading x).cache = s.cache := rfl
@[simp] theorem State.setHeading_heading (s : State) (x : Option Int) : (s.setHeading x).heading = x := rfl
@[simp] theorem State.setHeading_scan (s : State) (x : Option Int) : (s.setHeading x).scan = s.scan := rfl
@[simp] theorem State.setHeading_settings (s : State) (x : Option Int) : (s.setHeading x).settings = s.settings := rfl

@[simp] theorem State.setScan_pending (s : State) (x : ScanEngine) : (s.setScan x).pending = s.pending := rfl
@[simp] theorem State.setScan_powered (s : State) (x : ScanEngine) : (s.setScan x).powered = s.powered := rfl
@[simp] theorem State.setScan_ports (s : State) (x : ScanEngine) : (s.setScan x).ports = s.ports := rfl
@[simp] theorem State.setScan_arb (s : State) (x : ScanEngine) : (s.setScan x).arb = s.arb := rfl
@[simp] theorem State.setScan_exe (s : State) (x : ScanEngine) : (s.setScan x).exe = s.exe := rfl
@[simp] theorem State.setScan_pose (s : State) (x : ScanEngine) : (s.setScan x).pose = s.pose := rfl
@[simp] theorem State.setScan_safe (s : State) (x : ScanEngine) : (s.setScan x).safe = s.safe := rfl
@[simp] theorem State.setScan_store (s : State) (x : ScanEngine) : (s.setScan x).store = s.store := rfl
@[simp] theorem State.setScan_cache (s : State) (x : ScanEngine) : (s.setScan x).cache = s.cache := rfl
@[simp] theorem State.setScan_heading (s : State) (x : ScanEngine) : (s.setScan x).heading = s.heading := rfl
@[simp] theorem State.setScan_scan (s : State) (x : ScanEngine) : (s.setScan x).scan = x := rfl
@[simp] theorem State.setScan_settings (s : State) (x : ScanEngine) : (s.setScan x).settings = s.settings := rfl

@[simp] theorem State.setSettings_pending (s : State) (x : Settings) : (s.setSettings x).pending = s.pending := rfl
@[simp] theorem State.setSettings_powered (s : State) (x : Settings) : (s.setSettings x).powered = s.powered := rfl
@[simp] theorem State.setSettings_ports (s : State) (x : Settings) : (s.setSettings x).ports = s.ports := rfl
@[simp] theorem State.setSettings_arb (s : State) (x : Settings) : (s.setSettings x).arb = s.arb := rfl
@[simp] theorem State.setSettings_exe (s : State) (x : Settings) : (s.setSettings x).exe = s.exe := rfl
@[simp] theorem State.setSettings_pose (s : State) (x : Settings) : (s.setSettings x).pose = s.pose := rfl
@[simp] theorem State.setSettings_safe (s : State) (x : Settings) : (s.setSettings x).safe = s.safe := rfl
@[simp] theorem State.setSettings_store (s : State) (x : Settings) : (s.setSettings x).store = s.store := rfl
@[simp] theorem State.setSettings_cache (s : State) (x : Settings) : (s.setSettings x).cache = s.cache := rfl
@[simp] theorem State.setSettings_heading (s : State) (x : Settings) : (s.setSettings x).heading = s.heading := rfl
@[simp] theorem State.setSettings_scan (s : State) (x : Settings) : (s.setSettings x).scan = s.scan := rfl
@[simp] theorem State.setSettings_settings (s : State) (x : Settings) : (s.setSettings x).settings = x := rfl

@[simp] theorem State.setPending_self (s : State) : s.setPending s.pending = s := rfl
@[simp] theorem State.setPowered_self (s : State) : s.setPowered s.powered = s := rfl
@[simp] theorem State.setPorts_self (s : State) : s.setPorts s.ports = s := rfl
@[simp] theorem State.setArb_self (s : State) : s.setArb s.arb = s := rfl
@[simp] theorem State.setExe_self (s : State) : s.setExe s.exe = s := rfl
@[simp] theorem State.setPose_self (s : State) : s.setPose s.pose = s := rfl
@[simp] theorem State.setSafe_self (s : State) : s.setSafe s.safe = s := rfl
@[simp] theorem State.setStore_self (s : State) : s.setStore s.store = s := rfl
@[simp] theorem State.setCache_self (s : State) : s.setCache s.cache = s := rfl
@[simp] theorem State.setHeading_self (s : State) : s.setHeading s.heading = s := rfl
@[simp] theorem State.setScan_self (s : State) : s.setScan s.scan = s := rfl
@[simp] theorem State.setSettings_self (s : State) : s.setSettings s.settings = s := rfl

@[simp] theorem State.setPending_setPending (s : State) (x y : List Instr) :
    (s.setPending x).setPending y = s.setPending y := rfl
@[simp] theorem State.setPowered_setPowered (s : State) (x y : Bool) :
    (s.setPowered x).setPowered y = s.setPowered y := rfl
@[simp] theorem State.setPorts_setPorts (s : State) (x y : Ports PortState) :
    (s.setPorts x).setPorts y = s.setPorts y := rfl
@[simp] theorem State.setArb_setArb (s : State) (x y : Arbiter) :
    (s.setArb x).setArb y = s.setArb y := rfl
@[simp] theorem State.setExe_setExe (s : State) (x y : Executor) :
    (s.setExe x).setExe y = s.setExe y := rfl
@[simp] theorem State.setPose_setPose (s : State) (x y : PoseMonitor) :
    (s.setPose x).setPose y = s.setPose y := rfl
@[simp] theorem State.setSafe_setSafe (s : State) (x y : SafetyMonitor) :
    (s.setSafe x).setSafe y = s.setSafe y := rfl
@[simp] theorem State.setStore_setStore (s : State) (x y : Store) :
    (s.setStore x).setStore y = s.setStore y := rfl
@[simp] theorem State.setCache_setCache (s : State) (x y : Cache) :
    (s.setCache x).setCache y = s.setCache y := rfl
@[simp] theorem State.setHeading_setHeading (s : State) (x y : Option Int) :
    (s.setHeading x).setHeading y = s.setHeading y := rfl
@[simp] theorem State.setScan_setScan (s : State) (x y : ScanEngine) :
    (s.setScan x).setScan y = s.setScan y := rfl
@[simp] theorem State.setSettings_setSettings (s : State) (x y : Settings) :
    (s.setSettings x).setSettings y = s.setSettings y := rfl

end Sys2Proof.Machine
end

