-- ==== Sys2Proof/Laws/FramesExecutor.lean ====
section
/-! SUPPORT. The frames of the shared operations of Ops, Executor and ScanOps: for each, the parts of State that it leaves
unchanged. A conjunction is one simp rule for each of its parts. -/

namespace Sys2Proof.Machine

/-! ### Notices and responses -/

@[simp] theorem updatePort_frame (p : Port) (f : PortState → PortState) (s : State) :
    (updatePort p f s).pending = s.pending ∧ (updatePort p f s).powered = s.powered ∧ (updatePort p f s).arb = s.arb
      ∧ (updatePort p f s).exe = s.exe ∧ (updatePort p f s).pose = s.pose ∧ (updatePort p f s).safe = s.safe
      ∧ (updatePort p f s).store = s.store ∧ (updatePort p f s).cache = s.cache
      ∧ (updatePort p f s).heading = s.heading ∧ (updatePort p f s).scan = s.scan
      ∧ (updatePort p f s).settings = s.settings := by
  unfold updatePort
  try dsimp only
  repeat' split
  all_goals simp

@[simp] theorem placeAlways_frame (p : Port) (body : NoticeBody) (s : State) :
    (placeAlways p body s).pending = s.pending ∧ (placeAlways p body s).powered = s.powered
      ∧ (placeAlways p body s).arb = s.arb ∧ (placeAlways p body s).exe = s.exe
      ∧ (placeAlways p body s).pose = s.pose ∧ (placeAlways p body s).safe = s.safe
      ∧ (placeAlways p body s).store = s.store ∧ (placeAlways p body s).cache = s.cache
      ∧ (placeAlways p body s).heading = s.heading ∧ (placeAlways p body s).scan = s.scan
      ∧ (placeAlways p body s).settings = s.settings := by
  unfold placeAlways
  try dsimp only
  repeat' split
  all_goals simp

@[simp] theorem placeOn_frame (p : Port) (body : NoticeBody) (s : State) :
    (placeOn p body s).pending = s.pending ∧ (placeOn p body s).powered = s.powered ∧ (placeOn p body s).arb = s.arb
      ∧ (placeOn p body s).exe = s.exe ∧ (placeOn p body s).pose = s.pose ∧ (placeOn p body s).safe = s.safe
      ∧ (placeOn p body s).store = s.store ∧ (placeOn p body s).cache = s.cache
      ∧ (placeOn p body s).heading = s.heading ∧ (placeOn p body s).scan = s.scan
      ∧ (placeOn p body s).settings = s.settings := by
  unfold placeOn
  try dsimp only
  repeat' split
  all_goals simp

@[simp] theorem placeAll_frame (body : NoticeBody) (s : State) :
    (placeAll body s).pending = s.pending ∧ (placeAll body s).powered = s.powered ∧ (placeAll body s).arb = s.arb
      ∧ (placeAll body s).exe = s.exe ∧ (placeAll body s).pose = s.pose ∧ (placeAll body s).safe = s.safe
      ∧ (placeAll body s).store = s.store ∧ (placeAll body s).cache = s.cache ∧ (placeAll body s).heading = s.heading
      ∧ (placeAll body s).scan = s.scan ∧ (placeAll body s).settings = s.settings := by
  unfold placeAll
  try dsimp only
  repeat' split
  all_goals simp

@[simp] theorem placeOrigin_frame (origin : Party) (body : NoticeBody) (s : State) :
    (placeOrigin origin body s).pending = s.pending ∧ (placeOrigin origin body s).powered = s.powered
      ∧ (placeOrigin origin body s).arb = s.arb ∧ (placeOrigin origin body s).exe = s.exe
      ∧ (placeOrigin origin body s).pose = s.pose ∧ (placeOrigin origin body s).safe = s.safe
      ∧ (placeOrigin origin body s).store = s.store ∧ (placeOrigin origin body s).cache = s.cache
      ∧ (placeOrigin origin body s).heading = s.heading ∧ (placeOrigin origin body s).scan = s.scan
      ∧ (placeOrigin origin body s).settings = s.settings := by
  unfold placeOrigin
  try dsimp only
  repeat' split
  all_goals simp

@[simp] theorem placeCondition_frame (event : ConditionEvent) (s : State) :
    (placeCondition event s).pending = s.pending ∧ (placeCondition event s).powered = s.powered
      ∧ (placeCondition event s).arb = s.arb ∧ (placeCondition event s).exe = s.exe
      ∧ (placeCondition event s).pose = s.pose ∧ (placeCondition event s).safe = s.safe
      ∧ (placeCondition event s).store = s.store ∧ (placeCondition event s).cache = s.cache
      ∧ (placeCondition event s).heading = s.heading ∧ (placeCondition event s).scan = s.scan
      ∧ (placeCondition event s).settings = s.settings := by
  unfold placeCondition
  try dsimp only
  repeat' split
  all_goals simp

@[simp] theorem placeAuthority_frame (h : Option Party) (event : AuthEvent) (reason : Option AuthReason) (halted discarded : Nat) (s : State) :
    (placeAuthority h event reason halted discarded s).pending = s.pending
      ∧ (placeAuthority h event reason halted discarded s).powered = s.powered
      ∧ (placeAuthority h event reason halted discarded s).arb = s.arb
      ∧ (placeAuthority h event reason halted discarded s).exe = s.exe
      ∧ (placeAuthority h event reason halted discarded s).pose = s.pose
      ∧ (placeAuthority h event reason halted discarded s).safe = s.safe
      ∧ (placeAuthority h event reason halted discarded s).store = s.store
      ∧ (placeAuthority h event reason halted discarded s).cache = s.cache
      ∧ (placeAuthority h event reason halted discarded s).heading = s.heading
      ∧ (placeAuthority h event reason halted discarded s).scan = s.scan
      ∧ (placeAuthority h event reason halted discarded s).settings = s.settings := by
  unfold placeAuthority
  try dsimp only
  repeat' split
  all_goals simp

@[simp] theorem startIdle_frame (s : State) :
    (startIdle s).pending = s.pending ∧ (startIdle s).powered = s.powered ∧ (startIdle s).ports = s.ports
      ∧ (startIdle s).exe = s.exe ∧ (startIdle s).pose = s.pose ∧ (startIdle s).safe = s.safe
      ∧ (startIdle s).store = s.store ∧ (startIdle s).cache = s.cache ∧ (startIdle s).heading = s.heading
      ∧ (startIdle s).scan = s.scan ∧ (startIdle s).settings = s.settings := by
  unfold startIdle
  try dsimp only
  repeat' split
  all_goals simp

@[simp] theorem restartIdle_frame (p : Port) (status : Status) (s : State) :
    (restartIdle p status s).pending = s.pending ∧ (restartIdle p status s).powered = s.powered
      ∧ (restartIdle p status s).ports = s.ports ∧ (restartIdle p status s).exe = s.exe
      ∧ (restartIdle p status s).pose = s.pose ∧ (restartIdle p status s).safe = s.safe
      ∧ (restartIdle p status s).store = s.store ∧ (restartIdle p status s).cache = s.cache
      ∧ (restartIdle p status s).heading = s.heading ∧ (restartIdle p status s).scan = s.scan
      ∧ (restartIdle p status s).settings = s.settings := by
  unfold restartIdle
  try dsimp only
  repeat' split
  all_goals simp

@[simp] theorem respondParts_frame (p : Port) (r : Request) (status : Status) (parts : List (List Byte)) (s : State) :
    (respondParts p r status parts s).pending = s.pending ∧ (respondParts p r status parts s).powered = s.powered
      ∧ (respondParts p r status parts s).exe = s.exe ∧ (respondParts p r status parts s).pose = s.pose
      ∧ (respondParts p r status parts s).safe = s.safe ∧ (respondParts p r status parts s).store = s.store
      ∧ (respondParts p r status parts s).cache = s.cache ∧ (respondParts p r status parts s).heading = s.heading
      ∧ (respondParts p r status parts s).scan = s.scan ∧ (respondParts p r status parts s).settings = s.settings := by
  unfold respondParts
  try dsimp only
  repeat' split
  all_goals simp

@[simp] theorem respond_frame (p : Port) (r : Request) (status : Status) (fields : List Byte) (s : State) :
    (respond p r status fields s).pending = s.pending ∧ (respond p r status fields s).powered = s.powered
      ∧ (respond p r status fields s).exe = s.exe ∧ (respond p r status fields s).pose = s.pose
      ∧ (respond p r status fields s).safe = s.safe ∧ (respond p r status fields s).store = s.store
      ∧ (respond p r status fields s).cache = s.cache ∧ (respond p r status fields s).heading = s.heading
      ∧ (respond p r status fields s).scan = s.scan ∧ (respond p r status fields s).settings = s.settings := by
  unfold respond
  try dsimp only
  repeat' split
  all_goals simp

/-! ### The alarm and readings -/

@[simp] theorem setAlarmCauses_frame (park wind : Bool) (s : State) :
    (setAlarmCauses park wind s).pending = s.pending ∧ (setAlarmCauses park wind s).powered = s.powered
      ∧ (setAlarmCauses park wind s).arb = s.arb ∧ (setAlarmCauses park wind s).exe = s.exe
      ∧ (setAlarmCauses park wind s).pose = s.pose ∧ (setAlarmCauses park wind s).safe.pulses = s.safe.pulses
      ∧ (setAlarmCauses park wind s).safe.speed = s.safe.speed
      ∧ (setAlarmCauses park wind s).safe.windClass = s.safe.windClass
      ∧ (setAlarmCauses park wind s).safe.calm = s.safe.calm ∧ (setAlarmCauses park wind s).safe.ease = s.safe.ease
      ∧ (setAlarmCauses park wind s).safe.park = s.safe.park ∧ (setAlarmCauses park wind s).safe.estop = s.safe.estop
      ∧ (setAlarmCauses park wind s).safe.supplyOk = s.safe.supplyOk
      ∧ (setAlarmCauses park wind s).safe.manualReq = s.safe.manualReq
      ∧ (setAlarmCauses park wind s).safe.resetLine = s.safe.resetLine
      ∧ (setAlarmCauses park wind s).safe.group = s.safe.group ∧ (setAlarmCauses park wind s).store = s.store
      ∧ (setAlarmCauses park wind s).cache = s.cache ∧ (setAlarmCauses park wind s).heading = s.heading
      ∧ (setAlarmCauses park wind s).scan = s.scan ∧ (setAlarmCauses park wind s).settings = s.settings := by
  unfold setAlarmCauses
  try dsimp only
  repeat' split
  all_goals simp

@[simp] theorem raiseParkAlarm_frame (s : State) :
    (raiseParkAlarm s).pending = s.pending ∧ (raiseParkAlarm s).powered = s.powered ∧ (raiseParkAlarm s).arb = s.arb
      ∧ (raiseParkAlarm s).exe = s.exe ∧ (raiseParkAlarm s).pose = s.pose
      ∧ (raiseParkAlarm s).safe.pulses = s.safe.pulses ∧ (raiseParkAlarm s).safe.speed = s.safe.speed
      ∧ (raiseParkAlarm s).safe.windClass = s.safe.windClass ∧ (raiseParkAlarm s).safe.calm = s.safe.calm
      ∧ (raiseParkAlarm s).safe.ease = s.safe.ease ∧ (raiseParkAlarm s).safe.park = s.safe.park
      ∧ (raiseParkAlarm s).safe.estop = s.safe.estop ∧ (raiseParkAlarm s).safe.supplyOk = s.safe.supplyOk
      ∧ (raiseParkAlarm s).safe.manualReq = s.safe.manualReq ∧ (raiseParkAlarm s).safe.resetLine = s.safe.resetLine
      ∧ (raiseParkAlarm s).safe.group = s.safe.group ∧ (raiseParkAlarm s).store = s.store
      ∧ (raiseParkAlarm s).cache = s.cache ∧ (raiseParkAlarm s).heading = s.heading
      ∧ (raiseParkAlarm s).scan = s.scan ∧ (raiseParkAlarm s).settings = s.settings := by
  unfold raiseParkAlarm
  try dsimp only
  repeat' split
  all_goals simp

@[simp] theorem clearParkAlarm_frame (s : State) :
    (clearParkAlarm s).pending = s.pending ∧ (clearParkAlarm s).powered = s.powered ∧ (clearParkAlarm s).arb = s.arb
      ∧ (clearParkAlarm s).exe = s.exe ∧ (clearParkAlarm s).pose = s.pose
      ∧ (clearParkAlarm s).safe.pulses = s.safe.pulses ∧ (clearParkAlarm s).safe.speed = s.safe.speed
      ∧ (clearParkAlarm s).safe.windClass = s.safe.windClass ∧ (clearParkAlarm s).safe.calm = s.safe.calm
      ∧ (clearParkAlarm s).safe.ease = s.safe.ease ∧ (clearParkAlarm s).safe.park = s.safe.park
      ∧ (clearParkAlarm s).safe.estop = s.safe.estop ∧ (clearParkAlarm s).safe.supplyOk = s.safe.supplyOk
      ∧ (clearParkAlarm s).safe.manualReq = s.safe.manualReq ∧ (clearParkAlarm s).safe.resetLine = s.safe.resetLine
      ∧ (clearParkAlarm s).safe.group = s.safe.group ∧ (clearParkAlarm s).store = s.store
      ∧ (clearParkAlarm s).cache = s.cache ∧ (clearParkAlarm s).heading = s.heading
      ∧ (clearParkAlarm s).scan = s.scan ∧ (clearParkAlarm s).settings = s.settings := by
  unfold clearParkAlarm
  try dsimp only
  repeat' split
  all_goals simp

@[simp] theorem raiseWindAlarm_frame (s : State) :
    (raiseWindAlarm s).pending = s.pending ∧ (raiseWindAlarm s).powered = s.powered ∧ (raiseWindAlarm s).arb = s.arb
      ∧ (raiseWindAlarm s).exe = s.exe ∧ (raiseWindAlarm s).pose = s.pose
      ∧ (raiseWindAlarm s).safe.pulses = s.safe.pulses ∧ (raiseWindAlarm s).safe.speed = s.safe.speed
      ∧ (raiseWindAlarm s).safe.windClass = s.safe.windClass ∧ (raiseWindAlarm s).safe.calm = s.safe.calm
      ∧ (raiseWindAlarm s).safe.ease = s.safe.ease ∧ (raiseWindAlarm s).safe.park = s.safe.park
      ∧ (raiseWindAlarm s).safe.estop = s.safe.estop ∧ (raiseWindAlarm s).safe.supplyOk = s.safe.supplyOk
      ∧ (raiseWindAlarm s).safe.manualReq = s.safe.manualReq ∧ (raiseWindAlarm s).safe.resetLine = s.safe.resetLine
      ∧ (raiseWindAlarm s).safe.group = s.safe.group ∧ (raiseWindAlarm s).store = s.store
      ∧ (raiseWindAlarm s).cache = s.cache ∧ (raiseWindAlarm s).heading = s.heading
      ∧ (raiseWindAlarm s).scan = s.scan ∧ (raiseWindAlarm s).settings = s.settings := by
  unfold raiseWindAlarm
  try dsimp only
  repeat' split
  all_goals simp

@[simp] theorem clearWindAlarm_frame (s : State) :
    (clearWindAlarm s).pending = s.pending ∧ (clearWindAlarm s).powered = s.powered ∧ (clearWindAlarm s).arb = s.arb
      ∧ (clearWindAlarm s).exe = s.exe ∧ (clearWindAlarm s).pose = s.pose
      ∧ (clearWindAlarm s).safe.pulses = s.safe.pulses ∧ (clearWindAlarm s).safe.speed = s.safe.speed
      ∧ (clearWindAlarm s).safe.windClass = s.safe.windClass ∧ (clearWindAlarm s).safe.calm = s.safe.calm
      ∧ (clearWindAlarm s).safe.ease = s.safe.ease ∧ (clearWindAlarm s).safe.park = s.safe.park
      ∧ (clearWindAlarm s).safe.estop = s.safe.estop ∧ (clearWindAlarm s).safe.supplyOk = s.safe.supplyOk
      ∧ (clearWindAlarm s).safe.manualReq = s.safe.manualReq ∧ (clearWindAlarm s).safe.resetLine = s.safe.resetLine
      ∧ (clearWindAlarm s).safe.group = s.safe.group ∧ (clearWindAlarm s).store = s.store
      ∧ (clearWindAlarm s).cache = s.cache ∧ (clearWindAlarm s).heading = s.heading
      ∧ (clearWindAlarm s).scan = s.scan ∧ (clearWindAlarm s).settings = s.settings := by
  unfold clearWindAlarm
  try dsimp only
  repeat' split
  all_goals simp

@[simp] theorem recordReading_frame (r : Reading) (s : State) :
    (recordReading r s).pending = s.pending ∧ (recordReading r s).powered = s.powered
      ∧ (recordReading r s).ports = s.ports ∧ (recordReading r s).arb = s.arb ∧ (recordReading r s).exe = s.exe
      ∧ (recordReading r s).safe = s.safe ∧ (recordReading r s).store = s.store ∧ (recordReading r s).cache = s.cache
      ∧ (recordReading r s).heading = s.heading ∧ (recordReading r s).scan = s.scan
      ∧ (recordReading r s).settings = s.settings := by
  unfold recordReading
  try dsimp only
  repeat' split
  all_goals simp

@[simp] theorem alarmAfterReading_frame (s : State) :
    (alarmAfterReading s).pending = s.pending ∧ (alarmAfterReading s).powered = s.powered
      ∧ (alarmAfterReading s).arb = s.arb ∧ (alarmAfterReading s).exe = s.exe ∧ (alarmAfterReading s).pose = s.pose
      ∧ (alarmAfterReading s).safe.pulses = s.safe.pulses ∧ (alarmAfterReading s).safe.speed = s.safe.speed
      ∧ (alarmAfterReading s).safe.windClass = s.safe.windClass ∧ (alarmAfterReading s).safe.calm = s.safe.calm
      ∧ (alarmAfterReading s).safe.ease = s.safe.ease ∧ (alarmAfterReading s).safe.park = s.safe.park
      ∧ (alarmAfterReading s).safe.estop = s.safe.estop ∧ (alarmAfterReading s).safe.supplyOk = s.safe.supplyOk
      ∧ (alarmAfterReading s).safe.manualReq = s.safe.manualReq
      ∧ (alarmAfterReading s).safe.resetLine = s.safe.resetLine ∧ (alarmAfterReading s).safe.group = s.safe.group
      ∧ (alarmAfterReading s).store = s.store ∧ (alarmAfterReading s).cache = s.cache
      ∧ (alarmAfterReading s).heading = s.heading ∧ (alarmAfterReading s).scan = s.scan
      ∧ (alarmAfterReading s).settings = s.settings := by
  unfold alarmAfterReading
  try dsimp only
  repeat' split
  all_goals simp

@[simp] theorem takeReading_frame (r : Reading) (s : State) :
    (takeReading r s).pending = s.pending ∧ (takeReading r s).powered = s.powered ∧ (takeReading r s).arb = s.arb
      ∧ (takeReading r s).exe = s.exe ∧ (takeReading r s).safe.pulses = s.safe.pulses
      ∧ (takeReading r s).safe.speed = s.safe.speed ∧ (takeReading r s).safe.windClass = s.safe.windClass
      ∧ (takeReading r s).safe.calm = s.safe.calm ∧ (takeReading r s).safe.ease = s.safe.ease
      ∧ (takeReading r s).safe.park = s.safe.park ∧ (takeReading r s).safe.estop = s.safe.estop
      ∧ (takeReading r s).safe.supplyOk = s.safe.supplyOk ∧ (takeReading r s).safe.manualReq = s.safe.manualReq
      ∧ (takeReading r s).safe.resetLine = s.safe.resetLine ∧ (takeReading r s).safe.group = s.safe.group
      ∧ (takeReading r s).store = s.store ∧ (takeReading r s).cache = s.cache ∧ (takeReading r s).heading = s.heading
      ∧ (takeReading r s).scan = s.scan ∧ (takeReading r s).settings = s.settings := by
  unfold takeReading
  try dsimp only
  repeat' split
  all_goals simp

@[simp] theorem setFaulted_frame (a : Axis) (faulted : Bool) (s : State) :
    (setFaulted a faulted s).pending = s.pending ∧ (setFaulted a faulted s).powered = s.powered
      ∧ (setFaulted a faulted s).ports = s.ports ∧ (setFaulted a faulted s).arb = s.arb
      ∧ (setFaulted a faulted s).exe = s.exe ∧ (setFaulted a faulted s).safe = s.safe
      ∧ (setFaulted a faulted s).store = s.store ∧ (setFaulted a faulted s).cache = s.cache
      ∧ (setFaulted a faulted s).heading = s.heading ∧ (setFaulted a faulted s).scan = s.scan
      ∧ (setFaulted a faulted s).settings = s.settings := by
  unfold setFaulted
  try dsimp only
  repeat' split
  all_goals simp

/-! ### Drives and the cache -/

@[simp] theorem setDrive_frame (a : Axis) (d : Drive) (s : State) :
    (setDrive a d s).pending = s.pending ∧ (setDrive a d s).powered = s.powered ∧ (setDrive a d s).ports = s.ports
      ∧ (setDrive a d s).arb = s.arb ∧ (setDrive a d s).pose = s.pose ∧ (setDrive a d s).safe = s.safe
      ∧ (setDrive a d s).store = s.store ∧ (setDrive a d s).cache = s.cache ∧ (setDrive a d s).heading = s.heading
      ∧ (setDrive a d s).scan = s.scan ∧ (setDrive a d s).settings = s.settings := by
  unfold setDrive
  try dsimp only
  repeat' split
  all_goals simp

@[simp] theorem stopDrive_frame (a : Axis) (s : State) :
    (stopDrive a s).pending = s.pending ∧ (stopDrive a s).powered = s.powered ∧ (stopDrive a s).ports = s.ports
      ∧ (stopDrive a s).arb = s.arb ∧ (stopDrive a s).pose = s.pose ∧ (stopDrive a s).safe = s.safe
      ∧ (stopDrive a s).store = s.store ∧ (stopDrive a s).cache = s.cache ∧ (stopDrive a s).heading = s.heading
      ∧ (stopDrive a s).scan = s.scan ∧ (stopDrive a s).settings = s.settings := by
  unfold stopDrive
  try dsimp only
  repeat' split
  all_goals simp

@[simp] theorem stopAxes_frame (axes : Axes Bool) (s : State) :
    (stopAxes axes s).pending = s.pending ∧ (stopAxes axes s).powered = s.powered ∧ (stopAxes axes s).ports = s.ports
      ∧ (stopAxes axes s).arb = s.arb ∧ (stopAxes axes s).pose = s.pose ∧ (stopAxes axes s).safe = s.safe
      ∧ (stopAxes axes s).store = s.store ∧ (stopAxes axes s).cache = s.cache ∧ (stopAxes axes s).heading = s.heading
      ∧ (stopAxes axes s).scan = s.scan ∧ (stopAxes axes s).settings = s.settings := by
  unfold stopAxes
  try dsimp only
  repeat' split
  all_goals simp

@[simp] theorem startDrive_frame (a : Axis) (target : Int) (rate : Rate) (s : State) :
    (startDrive a target rate s).pending = s.pending ∧ (startDrive a target rate s).powered = s.powered
      ∧ (startDrive a target rate s).ports = s.ports ∧ (startDrive a target rate s).arb = s.arb
      ∧ (startDrive a target rate s).pose = s.pose ∧ (startDrive a target rate s).safe = s.safe
      ∧ (startDrive a target rate s).store = s.store ∧ (startDrive a target rate s).cache = s.cache
      ∧ (startDrive a target rate s).heading = s.heading ∧ (startDrive a target rate s).scan = s.scan
      ∧ (startDrive a target rate s).settings = s.settings := by
  unfold startDrive
  try dsimp only
  repeat' split
  all_goals simp

@[simp] theorem setDirection_frame (a : Axis) (target : Int) (s : State) :
    (setDirection a target s).pending = s.pending ∧ (setDirection a target s).powered = s.powered
      ∧ (setDirection a target s).ports = s.ports ∧ (setDirection a target s).arb = s.arb
      ∧ (setDirection a target s).pose = s.pose ∧ (setDirection a target s).safe = s.safe
      ∧ (setDirection a target s).store = s.store ∧ (setDirection a target s).cache = s.cache
      ∧ (setDirection a target s).heading = s.heading ∧ (setDirection a target s).scan = s.scan
      ∧ (setDirection a target s).settings = s.settings := by
  unfold setDirection
  try dsimp only
  repeat' split
  all_goals simp

@[simp] theorem settleDrive_frame (a : Axis) (s : State) :
    (settleDrive a s).pending = s.pending ∧ (settleDrive a s).powered = s.powered ∧ (settleDrive a s).ports = s.ports
      ∧ (settleDrive a s).arb = s.arb ∧ (settleDrive a s).pose = s.pose ∧ (settleDrive a s).safe = s.safe
      ∧ (settleDrive a s).store = s.store ∧ (settleDrive a s).cache = s.cache ∧ (settleDrive a s).heading = s.heading
      ∧ (settleDrive a s).scan = s.scan ∧ (settleDrive a s).settings = s.settings := by
  unfold settleDrive
  try dsimp only
  repeat' split
  all_goals simp

@[simp] theorem placeFlushed_frame (cause : FlushCause) (slot : Option Nat) (requester : Option Port) (removed : Nat) (s : State) :
    (placeFlushed cause slot requester removed s).pending = s.pending
      ∧ (placeFlushed cause slot requester removed s).powered = s.powered
      ∧ (placeFlushed cause slot requester removed s).arb = s.arb
      ∧ (placeFlushed cause slot requester removed s).exe = s.exe
      ∧ (placeFlushed cause slot requester removed s).pose = s.pose
      ∧ (placeFlushed cause slot requester removed s).safe = s.safe
      ∧ (placeFlushed cause slot requester removed s).store = s.store
      ∧ (placeFlushed cause slot requester removed s).cache = s.cache
      ∧ (placeFlushed cause slot requester removed s).heading = s.heading
      ∧ (placeFlushed cause slot requester removed s).scan = s.scan
      ∧ (placeFlushed cause slot requester removed s).settings = s.settings := by
  unfold placeFlushed
  try dsimp only
  repeat' split
  all_goals simp

@[simp] theorem flushCache_frame (cause : FlushCause) (requester : Option Port) (s : State) :
    (flushCache cause requester s).pending = s.pending ∧ (flushCache cause requester s).powered = s.powered
      ∧ (flushCache cause requester s).arb = s.arb ∧ (flushCache cause requester s).exe = s.exe
      ∧ (flushCache cause requester s).pose = s.pose ∧ (flushCache cause requester s).safe = s.safe
      ∧ (flushCache cause requester s).store = s.store ∧ (flushCache cause requester s).heading = s.heading
      ∧ (flushCache cause requester s).scan = s.scan ∧ (flushCache cause requester s).settings = s.settings := by
  unfold flushCache
  try dsimp only
  repeat' split
  all_goals simp

@[simp] theorem removeEntry_frame (slot : Nat) (cause : FlushCause) (requester : Option Port) (s : State) :
    (removeEntry slot cause requester s).pending = s.pending
      ∧ (removeEntry slot cause requester s).powered = s.powered ∧ (removeEntry slot cause requester s).arb = s.arb
      ∧ (removeEntry slot cause requester s).exe = s.exe ∧ (removeEntry slot cause requester s).pose = s.pose
      ∧ (removeEntry slot cause requester s).safe = s.safe ∧ (removeEntry slot cause requester s).store = s.store
      ∧ (removeEntry slot cause requester s).heading = s.heading ∧ (removeEntry slot cause requester s).scan = s.scan
      ∧ (removeEntry slot cause requester s).settings = s.settings := by
  unfold removeEntry
  try dsimp only
  repeat' split
  all_goals simp

@[simp] theorem compareLevel_frame (s : State) :
    (compareLevel s).pending = s.pending ∧ (compareLevel s).powered = s.powered ∧ (compareLevel s).arb = s.arb
      ∧ (compareLevel s).exe = s.exe ∧ (compareLevel s).pose = s.pose ∧ (compareLevel s).safe = s.safe
      ∧ (compareLevel s).store = s.store ∧ (compareLevel s).heading = s.heading ∧ (compareLevel s).scan = s.scan
      ∧ (compareLevel s).settings = s.settings := by
  unfold compareLevel
  try dsimp only
  repeat' split
  all_goals simp

/-! ### The executor -/

@[simp] theorem append_frame (origin : Party) (ds : List Draft) (s : State) :
    (append origin ds s).pending = s.pending ∧ (append origin ds s).powered = s.powered
      ∧ (append origin ds s).ports = s.ports ∧ (append origin ds s).arb = s.arb ∧ (append origin ds s).pose = s.pose
      ∧ (append origin ds s).safe = s.safe ∧ (append origin ds s).store = s.store
      ∧ (append origin ds s).cache = s.cache ∧ (append origin ds s).heading = s.heading
      ∧ (append origin ds s).scan = s.scan ∧ (append origin ds s).settings = s.settings := by
  unfold append
  try dsimp only
  repeat' split
  all_goals simp

@[simp] theorem updateActive_frame (f : Active → Active) (s : State) :
    (updateActive f s).pending = s.pending ∧ (updateActive f s).powered = s.powered
      ∧ (updateActive f s).ports = s.ports ∧ (updateActive f s).arb = s.arb ∧ (updateActive f s).pose = s.pose
      ∧ (updateActive f s).safe = s.safe ∧ (updateActive f s).store = s.store ∧ (updateActive f s).cache = s.cache
      ∧ (updateActive f s).heading = s.heading ∧ (updateActive f s).scan = s.scan
      ∧ (updateActive f s).settings = s.settings := by
  unfold updateActive
  try dsimp only
  repeat' split
  all_goals simp

@[simp] theorem setPhase_frame (a : Axis) (ph : AxisPhase) (s : State) :
    (setPhase a ph s).pending = s.pending ∧ (setPhase a ph s).powered = s.powered ∧ (setPhase a ph s).ports = s.ports
      ∧ (setPhase a ph s).arb = s.arb ∧ (setPhase a ph s).pose = s.pose ∧ (setPhase a ph s).safe = s.safe
      ∧ (setPhase a ph s).store = s.store ∧ (setPhase a ph s).cache = s.cache ∧ (setPhase a ph s).heading = s.heading
      ∧ (setPhase a ph s).scan = s.scan ∧ (setPhase a ph s).settings = s.settings := by
  unfold setPhase
  try dsimp only
  repeat' split
  all_goals simp

@[simp] theorem driveAxis_frame (a : Axis) (target : Int) (rate : Rate) (s : State) :
    (driveAxis a target rate s).pending = s.pending ∧ (driveAxis a target rate s).powered = s.powered
      ∧ (driveAxis a target rate s).ports = s.ports ∧ (driveAxis a target rate s).arb = s.arb
      ∧ (driveAxis a target rate s).pose = s.pose ∧ (driveAxis a target rate s).safe = s.safe
      ∧ (driveAxis a target rate s).store = s.store ∧ (driveAxis a target rate s).cache = s.cache
      ∧ (driveAxis a target rate s).heading = s.heading ∧ (driveAxis a target rate s).scan = s.scan
      ∧ (driveAxis a target rate s).settings = s.settings := by
  unfold driveAxis
  try dsimp only
  repeat' split
  all_goals simp

@[simp] theorem settleAxis_frame (a : Axis) (s : State) :
    (settleAxis a s).pending = s.pending ∧ (settleAxis a s).powered = s.powered ∧ (settleAxis a s).ports = s.ports
      ∧ (settleAxis a s).arb = s.arb ∧ (settleAxis a s).pose = s.pose ∧ (settleAxis a s).safe = s.safe
      ∧ (settleAxis a s).store = s.store ∧ (settleAxis a s).cache = s.cache ∧ (settleAxis a s).heading = s.heading
      ∧ (settleAxis a s).scan = s.scan ∧ (settleAxis a s).settings = s.settings := by
  unfold settleAxis
  try dsimp only
  repeat' split
  all_goals simp

@[simp] theorem followAxis_frame (a : Axis) (target : Int) (rate : Rate) (s : State) :
    (followAxis a target rate s).pending = s.pending ∧ (followAxis a target rate s).powered = s.powered
      ∧ (followAxis a target rate s).ports = s.ports ∧ (followAxis a target rate s).arb = s.arb
      ∧ (followAxis a target rate s).pose = s.pose ∧ (followAxis a target rate s).safe = s.safe
      ∧ (followAxis a target rate s).store = s.store ∧ (followAxis a target rate s).cache = s.cache
      ∧ (followAxis a target rate s).heading = s.heading ∧ (followAxis a target rate s).scan = s.scan
      ∧ (followAxis a target rate s).settings = s.settings := by
  unfold followAxis
  try dsimp only
  repeat' split
  all_goals simp

@[simp] theorem finishScan_frame (why : EndReason) (learned : Bool) (s : State) :
    (finishScan why learned s).pending = s.pending ∧ (finishScan why learned s).powered = s.powered
      ∧ (finishScan why learned s).arb = s.arb ∧ (finishScan why learned s).exe = s.exe
      ∧ (finishScan why learned s).pose = s.pose ∧ (finishScan why learned s).safe = s.safe
      ∧ (finishScan why learned s).store = s.store ∧ (finishScan why learned s).cache = s.cache
      ∧ (finishScan why learned s).heading = s.heading ∧ (finishScan why learned s).settings = s.settings := by
  unfold finishScan
  try dsimp only
  repeat' split
  all_goals simp

@[simp] theorem dropActive_frame (e : Entry) (s : State) :
    (dropActive e s).pending = s.pending ∧ (dropActive e s).powered = s.powered ∧ (dropActive e s).ports = s.ports
      ∧ (dropActive e s).arb = s.arb ∧ (dropActive e s).pose = s.pose ∧ (dropActive e s).safe = s.safe
      ∧ (dropActive e s).store = s.store ∧ (dropActive e s).cache = s.cache ∧ (dropActive e s).heading = s.heading
      ∧ (dropActive e s).scan = s.scan ∧ (dropActive e s).settings = s.settings := by
  unfold dropActive
  try dsimp only
  repeat' split
  all_goals simp

@[simp] theorem completeActive_frame (s : State) :
    (completeActive s).pending = s.pending ∧ (completeActive s).powered = s.powered ∧ (completeActive s).arb = s.arb
      ∧ (completeActive s).pose = s.pose ∧ (completeActive s).safe = s.safe ∧ (completeActive s).store = s.store
      ∧ (completeActive s).cache = s.cache ∧ (completeActive s).heading = s.heading
      ∧ (completeActive s).scan = s.scan ∧ (completeActive s).settings = s.settings := by
  unfold completeActive
  try dsimp only
  repeat' split
  all_goals simp

@[simp] theorem tellSafety_frame (origin : Party) (s : State) :
    (tellSafety origin s).pending = s.pending ∧ (tellSafety origin s).powered = s.powered
      ∧ (tellSafety origin s).arb = s.arb ∧ (tellSafety origin s).exe = s.exe ∧ (tellSafety origin s).pose = s.pose
      ∧ (tellSafety origin s).safe.pulses = s.safe.pulses ∧ (tellSafety origin s).safe.speed = s.safe.speed
      ∧ (tellSafety origin s).safe.windClass = s.safe.windClass ∧ (tellSafety origin s).safe.calm = s.safe.calm
      ∧ (tellSafety origin s).safe.ease = s.safe.ease ∧ (tellSafety origin s).safe.park = s.safe.park
      ∧ (tellSafety origin s).safe.estop = s.safe.estop ∧ (tellSafety origin s).safe.supplyOk = s.safe.supplyOk
      ∧ (tellSafety origin s).safe.manualReq = s.safe.manualReq
      ∧ (tellSafety origin s).safe.resetLine = s.safe.resetLine ∧ (tellSafety origin s).store = s.store
      ∧ (tellSafety origin s).cache = s.cache ∧ (tellSafety origin s).heading = s.heading
      ∧ (tellSafety origin s).scan = s.scan ∧ (tellSafety origin s).settings = s.settings := by
  unfold tellSafety
  try dsimp only
  repeat' split
  all_goals simp

@[simp] theorem failActive_frame (why : EndReason) (driven : Bool) (s : State) :
    (failActive why driven s).pending = s.pending ∧ (failActive why driven s).powered = s.powered
      ∧ (failActive why driven s).arb = s.arb ∧ (failActive why driven s).pose = s.pose
      ∧ (failActive why driven s).safe.pulses = s.safe.pulses ∧ (failActive why driven s).safe.speed = s.safe.speed
      ∧ (failActive why driven s).safe.windClass = s.safe.windClass
      ∧ (failActive why driven s).safe.calm = s.safe.calm ∧ (failActive why driven s).safe.ease = s.safe.ease
      ∧ (failActive why driven s).safe.park = s.safe.park ∧ (failActive why driven s).safe.estop = s.safe.estop
      ∧ (failActive why driven s).safe.supplyOk = s.safe.supplyOk
      ∧ (failActive why driven s).safe.manualReq = s.safe.manualReq
      ∧ (failActive why driven s).safe.resetLine = s.safe.resetLine ∧ (failActive why driven s).store = s.store
      ∧ (failActive why driven s).cache = s.cache ∧ (failActive why driven s).heading = s.heading
      ∧ (failActive why driven s).settings = s.settings := by
  unfold failActive
  try dsimp only
  repeat' split
  all_goals simp

@[simp] theorem haltAll_frame (why : EndReason) (s : State) :
    (haltAll why s).pending = s.pending ∧ (haltAll why s).powered = s.powered ∧ (haltAll why s).arb = s.arb
      ∧ (haltAll why s).pose = s.pose ∧ (haltAll why s).safe = s.safe ∧ (haltAll why s).store = s.store
      ∧ (haltAll why s).cache = s.cache ∧ (haltAll why s).heading = s.heading ∧ (haltAll why s).settings = s.settings := by
  unfold haltAll
  try dsimp only
  repeat' split
  all_goals simp

@[simp] theorem haltByHolder_frame (s : State) :
    (haltByHolder s).pending = s.pending ∧ (haltByHolder s).powered = s.powered ∧ (haltByHolder s).arb = s.arb
      ∧ (haltByHolder s).pose = s.pose ∧ (haltByHolder s).safe = s.safe ∧ (haltByHolder s).store = s.store
      ∧ (haltByHolder s).cache = s.cache ∧ (haltByHolder s).heading = s.heading
      ∧ (haltByHolder s).settings = s.settings := by
  unfold haltByHolder
  try dsimp only
  repeat' split
  all_goals simp

@[simp] theorem haltByOrder_frame (why : EndReason) (s : State) :
    (haltByOrder why s).pending = s.pending ∧ (haltByOrder why s).powered = s.powered
      ∧ (haltByOrder why s).arb = s.arb ∧ (haltByOrder why s).pose = s.pose ∧ (haltByOrder why s).safe = s.safe
      ∧ (haltByOrder why s).store = s.store ∧ (haltByOrder why s).cache = s.cache
      ∧ (haltByOrder why s).heading = s.heading ∧ (haltByOrder why s).settings = s.settings := by
  unfold haltByOrder
  try dsimp only
  repeat' split
  all_goals simp

@[simp] theorem discardWaiting_frame (crank : Bool) (s : State) :
    (discardWaiting crank s).pending = s.pending ∧ (discardWaiting crank s).powered = s.powered
      ∧ (discardWaiting crank s).ports = s.ports ∧ (discardWaiting crank s).arb = s.arb
      ∧ (discardWaiting crank s).pose = s.pose ∧ (discardWaiting crank s).safe = s.safe
      ∧ (discardWaiting crank s).store = s.store ∧ (discardWaiting crank s).cache = s.cache
      ∧ (discardWaiting crank s).heading = s.heading ∧ (discardWaiting crank s).scan = s.scan
      ∧ (discardWaiting crank s).settings = s.settings := by
  unfold discardWaiting
  try dsimp only
  repeat' split
  all_goals simp

@[simp] theorem suspendActive_frame (s : State) :
    (suspendActive s).pending = s.pending ∧ (suspendActive s).powered = s.powered ∧ (suspendActive s).arb = s.arb
      ∧ (suspendActive s).pose = s.pose ∧ (suspendActive s).safe = s.safe ∧ (suspendActive s).store = s.store
      ∧ (suspendActive s).cache = s.cache ∧ (suspendActive s).heading = s.heading ∧ (suspendActive s).scan = s.scan
      ∧ (suspendActive s).settings = s.settings := by
  unfold suspendActive
  try dsimp only
  repeat' split
  all_goals simp

/-! ### The Scan Engine -/

@[simp] theorem updateScan_frame (f : Scan → Scan) (s : State) :
    (updateScan f s).pending = s.pending ∧ (updateScan f s).powered = s.powered ∧ (updateScan f s).ports = s.ports
      ∧ (updateScan f s).arb = s.arb ∧ (updateScan f s).exe = s.exe ∧ (updateScan f s).pose = s.pose
      ∧ (updateScan f s).safe = s.safe ∧ (updateScan f s).store = s.store ∧ (updateScan f s).cache = s.cache
      ∧ (updateScan f s).heading = s.heading ∧ (updateScan f s).settings = s.settings := by
  unfold updateScan
  try dsimp only
  repeat' split
  all_goals simp

@[simp] theorem beginDwell_frame (s : State) :
    (beginDwell s).pending = s.pending ∧ (beginDwell s).powered = s.powered ∧ (beginDwell s).ports = s.ports
      ∧ (beginDwell s).arb = s.arb ∧ (beginDwell s).exe = s.exe ∧ (beginDwell s).pose = s.pose
      ∧ (beginDwell s).safe = s.safe ∧ (beginDwell s).store = s.store ∧ (beginDwell s).cache = s.cache
      ∧ (beginDwell s).heading = s.heading ∧ (beginDwell s).settings = s.settings := by
  unfold beginDwell
  try dsimp only
  repeat' split
  all_goals simp

@[simp] theorem completeScan_frame (s : State) :
    (completeScan s).pending = s.pending ∧ (completeScan s).powered = s.powered ∧ (completeScan s).arb = s.arb
      ∧ (completeScan s).pose = s.pose ∧ (completeScan s).safe = s.safe ∧ (completeScan s).store = s.store
      ∧ (completeScan s).heading = s.heading ∧ (completeScan s).settings = s.settings := by
  unfold completeScan
  try dsimp only
  repeat' split
  all_goals simp

@[simp] theorem arriveScan_frame (s : State) :
    (arriveScan s).pending = s.pending ∧ (arriveScan s).powered = s.powered ∧ (arriveScan s).arb = s.arb
      ∧ (arriveScan s).pose = s.pose ∧ (arriveScan s).safe = s.safe ∧ (arriveScan s).store = s.store
      ∧ (arriveScan s).heading = s.heading ∧ (arriveScan s).settings = s.settings := by
  unfold arriveScan
  try dsimp only
  repeat' split
  all_goals simp

@[simp] theorem driveScanAxis_frame (a : Axis) (target : Int) (s : State) :
    (driveScanAxis a target s).pending = s.pending ∧ (driveScanAxis a target s).powered = s.powered
      ∧ (driveScanAxis a target s).ports = s.ports ∧ (driveScanAxis a target s).arb = s.arb
      ∧ (driveScanAxis a target s).pose = s.pose ∧ (driveScanAxis a target s).safe = s.safe
      ∧ (driveScanAxis a target s).store = s.store ∧ (driveScanAxis a target s).cache = s.cache
      ∧ (driveScanAxis a target s).heading = s.heading ∧ (driveScanAxis a target s).scan = s.scan
      ∧ (driveScanAxis a target s).settings = s.settings := by
  unfold driveScanAxis
  try dsimp only
  repeat' split
  all_goals simp

@[simp] theorem driveScan_frame (target : PanTilt) (s : State) :
    (driveScan target s).pending = s.pending ∧ (driveScan target s).powered = s.powered
      ∧ (driveScan target s).arb = s.arb ∧ (driveScan target s).pose = s.pose ∧ (driveScan target s).safe = s.safe
      ∧ (driveScan target s).store = s.store ∧ (driveScan target s).heading = s.heading
      ∧ (driveScan target s).settings = s.settings := by
  unfold driveScan
  try dsimp only
  repeat' split
  all_goals simp

@[simp] theorem scanMove_frame (phase : ScanPhase) (target : PanTilt) (s : State) :
    (scanMove phase target s).pending = s.pending ∧ (scanMove phase target s).powered = s.powered
      ∧ (scanMove phase target s).arb = s.arb ∧ (scanMove phase target s).pose = s.pose
      ∧ (scanMove phase target s).safe.pulses = s.safe.pulses ∧ (scanMove phase target s).safe.speed = s.safe.speed
      ∧ (scanMove phase target s).safe.windClass = s.safe.windClass
      ∧ (scanMove phase target s).safe.calm = s.safe.calm ∧ (scanMove phase target s).safe.ease = s.safe.ease
      ∧ (scanMove phase target s).safe.park = s.safe.park ∧ (scanMove phase target s).safe.estop = s.safe.estop
      ∧ (scanMove phase target s).safe.supplyOk = s.safe.supplyOk
      ∧ (scanMove phase target s).safe.manualReq = s.safe.manualReq
      ∧ (scanMove phase target s).safe.resetLine = s.safe.resetLine ∧ (scanMove phase target s).store = s.store
      ∧ (scanMove phase target s).heading = s.heading ∧ (scanMove phase target s).settings = s.settings := by
  unfold scanMove
  try dsimp only
  repeat' split
  all_goals simp

@[simp] theorem scanStep_frame (q : ScanParams) (s : State) :
    (scanStep q s).pending = s.pending ∧ (scanStep q s).powered = s.powered ∧ (scanStep q s).arb = s.arb
      ∧ (scanStep q s).pose = s.pose ∧ (scanStep q s).safe.pulses = s.safe.pulses
      ∧ (scanStep q s).safe.speed = s.safe.speed ∧ (scanStep q s).safe.windClass = s.safe.windClass
      ∧ (scanStep q s).safe.calm = s.safe.calm ∧ (scanStep q s).safe.ease = s.safe.ease
      ∧ (scanStep q s).safe.park = s.safe.park ∧ (scanStep q s).safe.estop = s.safe.estop
      ∧ (scanStep q s).safe.supplyOk = s.safe.supplyOk ∧ (scanStep q s).safe.manualReq = s.safe.manualReq
      ∧ (scanStep q s).safe.resetLine = s.safe.resetLine ∧ (scanStep q s).store = s.store
      ∧ (scanStep q s).heading = s.heading ∧ (scanStep q s).settings = s.settings := by
  unfold scanStep
  try dsimp only
  repeat' split
  all_goals simp

@[simp] theorem scanBoundary_frame (q : ScanParams) (s : State) :
    (scanBoundary q s).pending = s.pending ∧ (scanBoundary q s).powered = s.powered ∧ (scanBoundary q s).arb = s.arb
      ∧ (scanBoundary q s).pose = s.pose ∧ (scanBoundary q s).safe.pulses = s.safe.pulses
      ∧ (scanBoundary q s).safe.speed = s.safe.speed ∧ (scanBoundary q s).safe.windClass = s.safe.windClass
      ∧ (scanBoundary q s).safe.calm = s.safe.calm ∧ (scanBoundary q s).safe.ease = s.safe.ease
      ∧ (scanBoundary q s).safe.park = s.safe.park ∧ (scanBoundary q s).safe.estop = s.safe.estop
      ∧ (scanBoundary q s).safe.supplyOk = s.safe.supplyOk ∧ (scanBoundary q s).safe.manualReq = s.safe.manualReq
      ∧ (scanBoundary q s).safe.resetLine = s.safe.resetLine ∧ (scanBoundary q s).store = s.store
      ∧ (scanBoundary q s).heading = s.heading ∧ (scanBoundary q s).settings = s.settings := by
  unfold scanBoundary
  try dsimp only
  repeat' split
  all_goals simp

@[simp] theorem reportProgress_frame (origin : Party) (q : ScanParams) (s : State) :
    (reportProgress origin q s).pending = s.pending ∧ (reportProgress origin q s).powered = s.powered
      ∧ (reportProgress origin q s).arb = s.arb ∧ (reportProgress origin q s).exe = s.exe
      ∧ (reportProgress origin q s).pose = s.pose ∧ (reportProgress origin q s).safe = s.safe
      ∧ (reportProgress origin q s).store = s.store ∧ (reportProgress origin q s).cache = s.cache
      ∧ (reportProgress origin q s).heading = s.heading ∧ (reportProgress origin q s).scan = s.scan
      ∧ (reportProgress origin q s).settings = s.settings := by
  unfold reportProgress
  try dsimp only
  repeat' split
  all_goals simp

@[simp] theorem takeSample_frame (level : Int) (s : State) :
    (takeSample level s).pending = s.pending ∧ (takeSample level s).powered = s.powered
      ∧ (takeSample level s).arb = s.arb ∧ (takeSample level s).pose = s.pose
      ∧ (takeSample level s).safe.pulses = s.safe.pulses ∧ (takeSample level s).safe.speed = s.safe.speed
      ∧ (takeSample level s).safe.windClass = s.safe.windClass ∧ (takeSample level s).safe.calm = s.safe.calm
      ∧ (takeSample level s).safe.ease = s.safe.ease ∧ (takeSample level s).safe.park = s.safe.park
      ∧ (takeSample level s).safe.estop = s.safe.estop ∧ (takeSample level s).safe.supplyOk = s.safe.supplyOk
      ∧ (takeSample level s).safe.manualReq = s.safe.manualReq
      ∧ (takeSample level s).safe.resetLine = s.safe.resetLine ∧ (takeSample level s).store = s.store
      ∧ (takeSample level s).heading = s.heading ∧ (takeSample level s).settings = s.settings := by
  unfold takeSample
  try dsimp only
  repeat' split
  all_goals simp

@[simp] theorem beginScan_frame (e : Entry) (q : ScanParams) (s : State) :
    (beginScan e q s).pending = s.pending ∧ (beginScan e q s).powered = s.powered ∧ (beginScan e q s).ports = s.ports
      ∧ (beginScan e q s).arb = s.arb ∧ (beginScan e q s).exe = s.exe ∧ (beginScan e q s).pose = s.pose
      ∧ (beginScan e q s).safe = s.safe ∧ (beginScan e q s).store = s.store ∧ (beginScan e q s).cache = s.cache
      ∧ (beginScan e q s).heading = s.heading ∧ (beginScan e q s).settings = s.settings := by
  unfold beginScan
  try dsimp only
  repeat' split
  all_goals simp

@[simp] theorem resumeScan_frame (s : State) :
    (resumeScan s).pending = s.pending ∧ (resumeScan s).powered = s.powered ∧ (resumeScan s).arb = s.arb
      ∧ (resumeScan s).pose = s.pose ∧ (resumeScan s).safe = s.safe ∧ (resumeScan s).store = s.store
      ∧ (resumeScan s).heading = s.heading ∧ (resumeScan s).settings = s.settings := by
  unfold resumeScan
  try dsimp only
  repeat' split
  all_goals simp

end Sys2Proof.Machine
end

