-- ==== Sys2Proof/Laws/FramesAuthority.lean ====
section
/-! SUPPORT. The frames of the shared operations of ArbiterOps, QueueOps and SafetyOps: for each, the parts of State that it leaves
unchanged. Authority, entries, scans, notices, the running group and the alarm move; what is sensed and stored does not. -/

namespace Sys2Proof.Machine

/-! ### The arbiter -/

@[simp] theorem toFree_frame (s : State) :
    (toFree s).pending = s.pending ∧ (toFree s).powered = s.powered ∧ (toFree s).ports = s.ports
      ∧ (toFree s).exe = s.exe ∧ (toFree s).pose = s.pose ∧ (toFree s).safe = s.safe ∧ (toFree s).store = s.store
      ∧ (toFree s).cache = s.cache ∧ (toFree s).heading = s.heading ∧ (toFree s).scan = s.scan
      ∧ (toFree s).settings = s.settings := by
  unfold toFree
  try dsimp only
  repeat' split
  all_goals simp

@[simp] theorem toHeld_frame (p : Port) (s : State) :
    (toHeld p s).pending = s.pending ∧ (toHeld p s).powered = s.powered ∧ (toHeld p s).ports = s.ports
      ∧ (toHeld p s).exe = s.exe ∧ (toHeld p s).pose = s.pose ∧ (toHeld p s).safe = s.safe
      ∧ (toHeld p s).store = s.store ∧ (toHeld p s).cache = s.cache ∧ (toHeld p s).heading = s.heading
      ∧ (toHeld p s).scan = s.scan ∧ (toHeld p s).settings = s.settings := by
  unfold toHeld
  try dsimp only
  repeat' split
  all_goals simp

@[simp] theorem giveTo_frame (p : Port) (reason : AuthReason) (s : State) :
    (giveTo p reason s).pending = s.pending ∧ (giveTo p reason s).powered = s.powered
      ∧ (giveTo p reason s).exe = s.exe ∧ (giveTo p reason s).pose = s.pose ∧ (giveTo p reason s).safe = s.safe
      ∧ (giveTo p reason s).store = s.store ∧ (giveTo p reason s).cache = s.cache
      ∧ (giveTo p reason s).heading = s.heading ∧ (giveTo p reason s).scan = s.scan
      ∧ (giveTo p reason s).settings = s.settings := by
  unfold giveTo
  try dsimp only
  repeat' split
  all_goals simp

@[simp] theorem passOn_frame (reason : AuthReason) (s : State) :
    (passOn reason s).pending = s.pending ∧ (passOn reason s).powered = s.powered ∧ (passOn reason s).exe = s.exe
      ∧ (passOn reason s).pose = s.pose ∧ (passOn reason s).safe = s.safe ∧ (passOn reason s).store = s.store
      ∧ (passOn reason s).cache = s.cache ∧ (passOn reason s).heading = s.heading ∧ (passOn reason s).scan = s.scan
      ∧ (passOn reason s).settings = s.settings := by
  unfold passOn
  try dsimp only
  repeat' split
  all_goals simp

@[simp] theorem endDeferral_frame (s : State) :
    (endDeferral s).pending = s.pending ∧ (endDeferral s).powered = s.powered ∧ (endDeferral s).ports = s.ports
      ∧ (endDeferral s).exe = s.exe ∧ (endDeferral s).pose = s.pose ∧ (endDeferral s).safe = s.safe
      ∧ (endDeferral s).store = s.store ∧ (endDeferral s).cache = s.cache ∧ (endDeferral s).heading = s.heading
      ∧ (endDeferral s).scan = s.scan ∧ (endDeferral s).settings = s.settings := by
  unfold endDeferral
  try dsimp only
  repeat' split
  all_goals simp

@[simp] theorem retain_frame (s : State) :
    (retain s).pending = s.pending ∧ (retain s).powered = s.powered ∧ (retain s).exe = s.exe
      ∧ (retain s).pose = s.pose ∧ (retain s).safe = s.safe ∧ (retain s).store = s.store ∧ (retain s).cache = s.cache
      ∧ (retain s).heading = s.heading ∧ (retain s).scan = s.scan ∧ (retain s).settings = s.settings := by
  unfold retain
  try dsimp only
  repeat' split
  all_goals simp

@[simp] theorem refuseClaims_frame (ps : List Port) (s : State) :
    (refuseClaims ps s).pending = s.pending ∧ (refuseClaims ps s).powered = s.powered
      ∧ (refuseClaims ps s).arb = s.arb ∧ (refuseClaims ps s).exe = s.exe ∧ (refuseClaims ps s).pose = s.pose
      ∧ (refuseClaims ps s).safe = s.safe ∧ (refuseClaims ps s).store = s.store ∧ (refuseClaims ps s).cache = s.cache
      ∧ (refuseClaims ps s).heading = s.heading ∧ (refuseClaims ps s).scan = s.scan
      ∧ (refuseClaims ps s).settings = s.settings := by
  induction ps generalizing s with
  | nil => simp [refuseClaims]
  | cons p ps ih => simp [refuseClaims, ih]

@[simp] theorem enterLockout_frame (s : State) :
    (enterLockout s).pending = s.pending ∧ (enterLockout s).powered = s.powered ∧ (enterLockout s).pose = s.pose
      ∧ (enterLockout s).safe = s.safe ∧ (enterLockout s).store = s.store ∧ (enterLockout s).cache = s.cache
      ∧ (enterLockout s).heading = s.heading ∧ (enterLockout s).scan = s.scan
      ∧ (enterLockout s).settings = s.settings := by
  unfold enterLockout
  try dsimp only
  repeat' split
  all_goals simp

@[simp] theorem groupCut_frame (s : State) :
    (groupCut s).pending = s.pending ∧ (groupCut s).powered = s.powered ∧ (groupCut s).arb = s.arb
      ∧ (groupCut s).exe = s.exe ∧ (groupCut s).pose = s.pose ∧ (groupCut s).safe.pulses = s.safe.pulses
      ∧ (groupCut s).safe.speed = s.safe.speed ∧ (groupCut s).safe.windClass = s.safe.windClass
      ∧ (groupCut s).safe.calm = s.safe.calm ∧ (groupCut s).safe.ease = s.safe.ease
      ∧ (groupCut s).safe.park = s.safe.park ∧ (groupCut s).safe.estop = s.safe.estop
      ∧ (groupCut s).safe.supplyOk = s.safe.supplyOk ∧ (groupCut s).safe.manualReq = s.safe.manualReq
      ∧ (groupCut s).safe.resetLine = s.safe.resetLine ∧ (groupCut s).store = s.store ∧ (groupCut s).cache = s.cache
      ∧ (groupCut s).heading = s.heading ∧ (groupCut s).scan = s.scan ∧ (groupCut s).settings = s.settings := by
  unfold groupCut
  try dsimp only
  repeat' split
  all_goals simp

@[simp] theorem grantCrank_frame (lh ld bh bd : Nat) (s : State) :
    (grantCrank lh ld bh bd s).pending = s.pending ∧ (grantCrank lh ld bh bd s).powered = s.powered
      ∧ (grantCrank lh ld bh bd s).exe = s.exe ∧ (grantCrank lh ld bh bd s).pose = s.pose
      ∧ (grantCrank lh ld bh bd s).safe = s.safe ∧ (grantCrank lh ld bh bd s).store = s.store
      ∧ (grantCrank lh ld bh bd s).cache = s.cache ∧ (grantCrank lh ld bh bd s).heading = s.heading
      ∧ (grantCrank lh ld bh bd s).scan = s.scan ∧ (grantCrank lh ld bh bd s).settings = s.settings := by
  unfold grantCrank
  try dsimp only
  repeat' split
  all_goals simp

@[simp] theorem abandonForCrank_frame (s : State) :
    (abandonForCrank s).pending = s.pending ∧ (abandonForCrank s).powered = s.powered
      ∧ (abandonForCrank s).pose = s.pose ∧ (abandonForCrank s).safe.pulses = s.safe.pulses
      ∧ (abandonForCrank s).safe.speed = s.safe.speed ∧ (abandonForCrank s).safe.windClass = s.safe.windClass
      ∧ (abandonForCrank s).safe.calm = s.safe.calm ∧ (abandonForCrank s).safe.ease = s.safe.ease
      ∧ (abandonForCrank s).safe.park = s.safe.park ∧ (abandonForCrank s).safe.estop = s.safe.estop
      ∧ (abandonForCrank s).safe.supplyOk = s.safe.supplyOk ∧ (abandonForCrank s).safe.manualReq = s.safe.manualReq
      ∧ (abandonForCrank s).safe.resetLine = s.safe.resetLine ∧ (abandonForCrank s).store = s.store
      ∧ (abandonForCrank s).cache = s.cache ∧ (abandonForCrank s).heading = s.heading
      ∧ (abandonForCrank s).settings = s.settings := by
  unfold abandonForCrank
  try dsimp only
  repeat' split
  all_goals simp

@[simp] theorem enlistReason_frame (k : LockReason) (s : State) :
    (enlistReason k s).pending = s.pending ∧ (enlistReason k s).powered = s.powered ∧ (enlistReason k s).exe = s.exe
      ∧ (enlistReason k s).pose = s.pose ∧ (enlistReason k s).safe = s.safe ∧ (enlistReason k s).store = s.store
      ∧ (enlistReason k s).cache = s.cache ∧ (enlistReason k s).heading = s.heading
      ∧ (enlistReason k s).scan = s.scan ∧ (enlistReason k s).settings = s.settings := by
  unfold enlistReason
  try dsimp only
  repeat' split
  all_goals simp

@[simp] theorem takeOutstanding_frame (s : State) :
    (takeOutstanding s).pending = s.pending ∧ (takeOutstanding s).powered = s.powered
      ∧ (takeOutstanding s).exe = s.exe ∧ (takeOutstanding s).pose = s.pose ∧ (takeOutstanding s).safe = s.safe
      ∧ (takeOutstanding s).store = s.store ∧ (takeOutstanding s).cache = s.cache
      ∧ (takeOutstanding s).heading = s.heading ∧ (takeOutstanding s).scan = s.scan
      ∧ (takeOutstanding s).settings = s.settings := by
  unfold takeOutstanding
  try dsimp only
  repeat' split
  all_goals simp

@[simp] theorem lockOut_frame (k : LockReason) (s : State) :
    (lockOut k s).pending = s.pending ∧ (lockOut k s).powered = s.powered ∧ (lockOut k s).pose = s.pose
      ∧ (lockOut k s).safe.pulses = s.safe.pulses ∧ (lockOut k s).safe.speed = s.safe.speed
      ∧ (lockOut k s).safe.windClass = s.safe.windClass ∧ (lockOut k s).safe.calm = s.safe.calm
      ∧ (lockOut k s).safe.ease = s.safe.ease ∧ (lockOut k s).safe.park = s.safe.park
      ∧ (lockOut k s).safe.estop = s.safe.estop ∧ (lockOut k s).safe.supplyOk = s.safe.supplyOk
      ∧ (lockOut k s).safe.manualReq = s.safe.manualReq ∧ (lockOut k s).safe.resetLine = s.safe.resetLine
      ∧ (lockOut k s).store = s.store ∧ (lockOut k s).cache = s.cache ∧ (lockOut k s).heading = s.heading
      ∧ (lockOut k s).settings = s.settings := by
  unfold lockOut
  try dsimp only
  repeat' split
  all_goals simp

@[simp] theorem addReason_frame (k : LockReason) (s : State) :
    (addReason k s).pending = s.pending ∧ (addReason k s).powered = s.powered ∧ (addReason k s).pose = s.pose
      ∧ (addReason k s).safe.pulses = s.safe.pulses ∧ (addReason k s).safe.speed = s.safe.speed
      ∧ (addReason k s).safe.windClass = s.safe.windClass ∧ (addReason k s).safe.calm = s.safe.calm
      ∧ (addReason k s).safe.ease = s.safe.ease ∧ (addReason k s).safe.park = s.safe.park
      ∧ (addReason k s).safe.estop = s.safe.estop ∧ (addReason k s).safe.supplyOk = s.safe.supplyOk
      ∧ (addReason k s).safe.manualReq = s.safe.manualReq ∧ (addReason k s).safe.resetLine = s.safe.resetLine
      ∧ (addReason k s).store = s.store ∧ (addReason k s).cache = s.cache ∧ (addReason k s).heading = s.heading
      ∧ (addReason k s).settings = s.settings := by
  unfold addReason
  try dsimp only
  repeat' split
  all_goals simp

@[simp] theorem dropReason_frame (k : LockReason) (s : State) :
    (dropReason k s).pending = s.pending ∧ (dropReason k s).powered = s.powered ∧ (dropReason k s).exe = s.exe
      ∧ (dropReason k s).pose = s.pose ∧ (dropReason k s).safe = s.safe ∧ (dropReason k s).store = s.store
      ∧ (dropReason k s).cache = s.cache ∧ (dropReason k s).heading = s.heading ∧ (dropReason k s).scan = s.scan
      ∧ (dropReason k s).settings = s.settings := by
  unfold dropReason
  try dsimp only
  repeat' split
  all_goals simp

@[simp] theorem safetyGivesBack_frame (s : State) :
    (safetyGivesBack s).pending = s.pending ∧ (safetyGivesBack s).powered = s.powered
      ∧ (safetyGivesBack s).pose = s.pose ∧ (safetyGivesBack s).safe = s.safe ∧ (safetyGivesBack s).store = s.store
      ∧ (safetyGivesBack s).cache = s.cache ∧ (safetyGivesBack s).heading = s.heading
      ∧ (safetyGivesBack s).scan = s.scan ∧ (safetyGivesBack s).settings = s.settings := by
  unfold safetyGivesBack
  try dsimp only
  repeat' split
  all_goals simp

@[simp] theorem yieldOutcome_frame (s : State) :
    (yieldOutcome s).pending = s.pending ∧ (yieldOutcome s).powered = s.powered ∧ (yieldOutcome s).exe = s.exe
      ∧ (yieldOutcome s).pose = s.pose ∧ (yieldOutcome s).safe = s.safe ∧ (yieldOutcome s).store = s.store
      ∧ (yieldOutcome s).cache = s.cache ∧ (yieldOutcome s).heading = s.heading ∧ (yieldOutcome s).scan = s.scan
      ∧ (yieldOutcome s).settings = s.settings := by
  unfold yieldOutcome
  try dsimp only
  repeat' split
  all_goals simp

@[simp] theorem makeHandover_frame (d : Deferral) (s : State) :
    (makeHandover d s).pending = s.pending ∧ (makeHandover d s).powered = s.powered
      ∧ (makeHandover d s).pose = s.pose ∧ (makeHandover d s).safe = s.safe ∧ (makeHandover d s).store = s.store
      ∧ (makeHandover d s).cache = s.cache ∧ (makeHandover d s).heading = s.heading
      ∧ (makeHandover d s).scan = s.scan ∧ (makeHandover d s).settings = s.settings := by
  unfold makeHandover
  try dsimp only
  repeat' split
  all_goals simp

@[simp] theorem defer_frame (d : Deferral) (s : State) :
    (defer d s).pending = s.pending ∧ (defer d s).powered = s.powered ∧ (defer d s).ports = s.ports
      ∧ (defer d s).exe = s.exe ∧ (defer d s).pose = s.pose ∧ (defer d s).safe = s.safe ∧ (defer d s).store = s.store
      ∧ (defer d s).cache = s.cache ∧ (defer d s).heading = s.heading ∧ (defer d s).scan = s.scan
      ∧ (defer d s).settings = s.settings := by
  unfold defer
  try dsimp only
  repeat' split
  all_goals simp

@[simp] theorem handOn_frame (d : Deferral) (s : State) :
    (handOn d s).pending = s.pending ∧ (handOn d s).powered = s.powered ∧ (handOn d s).pose = s.pose
      ∧ (handOn d s).safe = s.safe ∧ (handOn d s).store = s.store ∧ (handOn d s).cache = s.cache
      ∧ (handOn d s).heading = s.heading ∧ (handOn d s).scan = s.scan ∧ (handOn d s).settings = s.settings := by
  unfold handOn
  try dsimp only
  repeat' split
  all_goals simp

@[simp] theorem handoverCheck_frame (s : State) :
    (handoverCheck s).pending = s.pending ∧ (handoverCheck s).powered = s.powered ∧ (handoverCheck s).pose = s.pose
      ∧ (handoverCheck s).safe = s.safe ∧ (handoverCheck s).store = s.store ∧ (handoverCheck s).cache = s.cache
      ∧ (handoverCheck s).heading = s.heading ∧ (handoverCheck s).scan = s.scan
      ∧ (handoverCheck s).settings = s.settings := by
  unfold handoverCheck
  try dsimp only
  repeat' split
  all_goals simp

@[simp] theorem groupEnded_frame (ending : Ending) (s : State) :
    (groupEnded ending s).pending = s.pending ∧ (groupEnded ending s).powered = s.powered
      ∧ (groupEnded ending s).pose = s.pose ∧ (groupEnded ending s).safe.pulses = s.safe.pulses
      ∧ (groupEnded ending s).safe.speed = s.safe.speed ∧ (groupEnded ending s).safe.windClass = s.safe.windClass
      ∧ (groupEnded ending s).safe.calm = s.safe.calm ∧ (groupEnded ending s).safe.ease = s.safe.ease
      ∧ (groupEnded ending s).safe.park = s.safe.park ∧ (groupEnded ending s).safe.estop = s.safe.estop
      ∧ (groupEnded ending s).safe.supplyOk = s.safe.supplyOk
      ∧ (groupEnded ending s).safe.manualReq = s.safe.manualReq
      ∧ (groupEnded ending s).safe.resetLine = s.safe.resetLine ∧ (groupEnded ending s).store = s.store
      ∧ (groupEnded ending s).cache = s.cache ∧ (groupEnded ending s).heading = s.heading
      ∧ (groupEnded ending s).settings = s.settings := by
  unfold groupEnded
  try dsimp only
  repeat' split
  all_goals simp

@[simp] theorem safetyBoundary_frame (ending : Ending) (s : State) :
    (safetyBoundary ending s).pending = s.pending ∧ (safetyBoundary ending s).powered = s.powered
      ∧ (safetyBoundary ending s).pose = s.pose ∧ (safetyBoundary ending s).safe.pulses = s.safe.pulses
      ∧ (safetyBoundary ending s).safe.speed = s.safe.speed
      ∧ (safetyBoundary ending s).safe.windClass = s.safe.windClass
      ∧ (safetyBoundary ending s).safe.calm = s.safe.calm ∧ (safetyBoundary ending s).safe.ease = s.safe.ease
      ∧ (safetyBoundary ending s).safe.park = s.safe.park ∧ (safetyBoundary ending s).safe.estop = s.safe.estop
      ∧ (safetyBoundary ending s).safe.supplyOk = s.safe.supplyOk
      ∧ (safetyBoundary ending s).safe.manualReq = s.safe.manualReq
      ∧ (safetyBoundary ending s).safe.resetLine = s.safe.resetLine ∧ (safetyBoundary ending s).store = s.store
      ∧ (safetyBoundary ending s).cache = s.cache ∧ (safetyBoundary ending s).heading = s.heading
      ∧ (safetyBoundary ending s).settings = s.settings := by
  unfold safetyBoundary
  try dsimp only
  repeat' split
  all_goals simp

@[simp] theorem takeBoundary_frame (ending : Ending) (s : State) :
    (takeBoundary ending s).pending = s.pending ∧ (takeBoundary ending s).powered = s.powered
      ∧ (takeBoundary ending s).pose = s.pose ∧ (takeBoundary ending s).safe.pulses = s.safe.pulses
      ∧ (takeBoundary ending s).safe.speed = s.safe.speed ∧ (takeBoundary ending s).safe.windClass = s.safe.windClass
      ∧ (takeBoundary ending s).safe.calm = s.safe.calm ∧ (takeBoundary ending s).safe.ease = s.safe.ease
      ∧ (takeBoundary ending s).safe.park = s.safe.park ∧ (takeBoundary ending s).safe.estop = s.safe.estop
      ∧ (takeBoundary ending s).safe.supplyOk = s.safe.supplyOk
      ∧ (takeBoundary ending s).safe.manualReq = s.safe.manualReq
      ∧ (takeBoundary ending s).safe.resetLine = s.safe.resetLine ∧ (takeBoundary ending s).store = s.store
      ∧ (takeBoundary ending s).cache = s.cache ∧ (takeBoundary ending s).heading = s.heading
      ∧ (takeBoundary ending s).settings = s.settings := by
  unfold takeBoundary
  try dsimp only
  repeat' split
  all_goals simp

/-! ### The queue -/

@[simp] theorem startMove_frame (a : Axis) (target : Int) (rate : Rate) (s : State) :
    (startMove a target rate s).pending = s.pending ∧ (startMove a target rate s).powered = s.powered
      ∧ (startMove a target rate s).arb = s.arb ∧ (startMove a target rate s).pose = s.pose
      ∧ (startMove a target rate s).safe = s.safe ∧ (startMove a target rate s).store = s.store
      ∧ (startMove a target rate s).cache = s.cache ∧ (startMove a target rate s).heading = s.heading
      ∧ (startMove a target rate s).scan = s.scan ∧ (startMove a target rate s).settings = s.settings := by
  unfold startMove
  try dsimp only
  repeat' split
  all_goals simp

@[simp] theorem startEntry_frame (e : Entry) (s : State) :
    (startEntry e s).pending = s.pending ∧ (startEntry e s).powered = s.powered ∧ (startEntry e s).arb = s.arb
      ∧ (startEntry e s).pose = s.pose ∧ (startEntry e s).safe = s.safe ∧ (startEntry e s).store = s.store
      ∧ (startEntry e s).cache = s.cache ∧ (startEntry e s).heading = s.heading
      ∧ (startEntry e s).settings = s.settings := by
  unfold startEntry
  try dsimp only
  repeat' split
  all_goals simp

@[simp] theorem suspendOrAbandon_frame (s : State) :
    (suspendOrAbandon s).pending = s.pending ∧ (suspendOrAbandon s).powered = s.powered
      ∧ (suspendOrAbandon s).pose = s.pose ∧ (suspendOrAbandon s).safe.pulses = s.safe.pulses
      ∧ (suspendOrAbandon s).safe.speed = s.safe.speed ∧ (suspendOrAbandon s).safe.windClass = s.safe.windClass
      ∧ (suspendOrAbandon s).safe.calm = s.safe.calm ∧ (suspendOrAbandon s).safe.ease = s.safe.ease
      ∧ (suspendOrAbandon s).safe.park = s.safe.park ∧ (suspendOrAbandon s).safe.estop = s.safe.estop
      ∧ (suspendOrAbandon s).safe.supplyOk = s.safe.supplyOk ∧ (suspendOrAbandon s).safe.manualReq = s.safe.manualReq
      ∧ (suspendOrAbandon s).safe.resetLine = s.safe.resetLine ∧ (suspendOrAbandon s).store = s.store
      ∧ (suspendOrAbandon s).cache = s.cache ∧ (suspendOrAbandon s).heading = s.heading
      ∧ (suspendOrAbandon s).settings = s.settings := by
  unfold suspendOrAbandon
  try dsimp only
  repeat' split
  all_goals simp

@[simp] theorem reportActivation_frame (s : State) :
    (reportActivation s).pending = s.pending ∧ (reportActivation s).powered = s.powered
      ∧ (reportActivation s).ports = s.ports ∧ (reportActivation s).exe = s.exe ∧ (reportActivation s).pose = s.pose
      ∧ (reportActivation s).safe = s.safe ∧ (reportActivation s).store = s.store
      ∧ (reportActivation s).cache = s.cache ∧ (reportActivation s).heading = s.heading
      ∧ (reportActivation s).scan = s.scan ∧ (reportActivation s).settings = s.settings := by
  unfold reportActivation
  try dsimp only
  repeat' split
  all_goals simp

@[simp] theorem activate_frame (s : State) :
    (activate s).pending = s.pending ∧ (activate s).powered = s.powered ∧ (activate s).pose = s.pose
      ∧ (activate s).safe.pulses = s.safe.pulses ∧ (activate s).safe.speed = s.safe.speed
      ∧ (activate s).safe.windClass = s.safe.windClass ∧ (activate s).safe.calm = s.safe.calm
      ∧ (activate s).safe.ease = s.safe.ease ∧ (activate s).safe.park = s.safe.park
      ∧ (activate s).safe.estop = s.safe.estop ∧ (activate s).safe.supplyOk = s.safe.supplyOk
      ∧ (activate s).safe.manualReq = s.safe.manualReq ∧ (activate s).safe.resetLine = s.safe.resetLine
      ∧ (activate s).store = s.store ∧ (activate s).cache = s.cache ∧ (activate s).heading = s.heading
      ∧ (activate s).settings = s.settings := by
  unfold activate
  try dsimp only
  repeat' split
  all_goals simp

@[simp] theorem restartActive_frame (seconds : Nat) (s : State) :
    (restartActive seconds s).pending = s.pending ∧ (restartActive seconds s).powered = s.powered
      ∧ (restartActive seconds s).pose = s.pose ∧ (restartActive seconds s).safe.pulses = s.safe.pulses
      ∧ (restartActive seconds s).safe.speed = s.safe.speed
      ∧ (restartActive seconds s).safe.windClass = s.safe.windClass
      ∧ (restartActive seconds s).safe.calm = s.safe.calm ∧ (restartActive seconds s).safe.ease = s.safe.ease
      ∧ (restartActive seconds s).safe.park = s.safe.park ∧ (restartActive seconds s).safe.estop = s.safe.estop
      ∧ (restartActive seconds s).safe.supplyOk = s.safe.supplyOk
      ∧ (restartActive seconds s).safe.manualReq = s.safe.manualReq
      ∧ (restartActive seconds s).safe.resetLine = s.safe.resetLine ∧ (restartActive seconds s).store = s.store
      ∧ (restartActive seconds s).heading = s.heading ∧ (restartActive seconds s).settings = s.settings := by
  unfold restartActive
  try dsimp only
  repeat' split
  all_goals simp

@[simp] theorem runQueue_frame (n : Nat) (s : State) :
    (runQueue n s).pending = s.pending ∧ (runQueue n s).powered = s.powered ∧ (runQueue n s).pose = s.pose
      ∧ (runQueue n s).safe.pulses = s.safe.pulses ∧ (runQueue n s).safe.speed = s.safe.speed
      ∧ (runQueue n s).safe.windClass = s.safe.windClass ∧ (runQueue n s).safe.calm = s.safe.calm
      ∧ (runQueue n s).safe.ease = s.safe.ease ∧ (runQueue n s).safe.park = s.safe.park
      ∧ (runQueue n s).safe.estop = s.safe.estop ∧ (runQueue n s).safe.supplyOk = s.safe.supplyOk
      ∧ (runQueue n s).safe.manualReq = s.safe.manualReq ∧ (runQueue n s).safe.resetLine = s.safe.resetLine
      ∧ (runQueue n s).store = s.store ∧ (runQueue n s).cache = s.cache ∧ (runQueue n s).heading = s.heading
      ∧ (runQueue n s).settings = s.settings := by
  induction n generalizing s with
  | zero => simp [runQueue]
  | succ n ih =>
    unfold runQueue
    dsimp only
    repeat' split
    all_goals simp [ih]

@[simp] theorem advance_frame (s : State) :
    (advance s).pending = s.pending ∧ (advance s).powered = s.powered ∧ (advance s).pose = s.pose
      ∧ (advance s).safe.pulses = s.safe.pulses ∧ (advance s).safe.speed = s.safe.speed
      ∧ (advance s).safe.windClass = s.safe.windClass ∧ (advance s).safe.calm = s.safe.calm
      ∧ (advance s).safe.ease = s.safe.ease ∧ (advance s).safe.park = s.safe.park
      ∧ (advance s).safe.estop = s.safe.estop ∧ (advance s).safe.supplyOk = s.safe.supplyOk
      ∧ (advance s).safe.manualReq = s.safe.manualReq ∧ (advance s).safe.resetLine = s.safe.resetLine
      ∧ (advance s).store = s.store ∧ (advance s).cache = s.cache ∧ (advance s).heading = s.heading
      ∧ (advance s).settings = s.settings := by
  unfold advance
  try dsimp only
  repeat' split
  all_goals simp

@[simp] theorem goAhead_frame (s : State) :
    (goAhead s).pending = s.pending ∧ (goAhead s).powered = s.powered ∧ (goAhead s).pose = s.pose
      ∧ (goAhead s).safe.pulses = s.safe.pulses ∧ (goAhead s).safe.speed = s.safe.speed
      ∧ (goAhead s).safe.windClass = s.safe.windClass ∧ (goAhead s).safe.calm = s.safe.calm
      ∧ (goAhead s).safe.ease = s.safe.ease ∧ (goAhead s).safe.park = s.safe.park
      ∧ (goAhead s).safe.estop = s.safe.estop ∧ (goAhead s).safe.supplyOk = s.safe.supplyOk
      ∧ (goAhead s).safe.manualReq = s.safe.manualReq ∧ (goAhead s).safe.resetLine = s.safe.resetLine
      ∧ (goAhead s).store = s.store ∧ (goAhead s).cache = s.cache ∧ (goAhead s).heading = s.heading
      ∧ (goAhead s).settings = s.settings := by
  unfold goAhead
  try dsimp only
  repeat' split
  all_goals simp

@[simp] theorem takeSafety_frame (group : SafetyGroup) (ds : List Draft) (s : State) :
    (takeSafety group ds s).pending = s.pending ∧ (takeSafety group ds s).powered = s.powered
      ∧ (takeSafety group ds s).pose = s.pose ∧ (takeSafety group ds s).safe.pulses = s.safe.pulses
      ∧ (takeSafety group ds s).safe.speed = s.safe.speed ∧ (takeSafety group ds s).safe.windClass = s.safe.windClass
      ∧ (takeSafety group ds s).safe.calm = s.safe.calm ∧ (takeSafety group ds s).safe.ease = s.safe.ease
      ∧ (takeSafety group ds s).safe.park = s.safe.park ∧ (takeSafety group ds s).safe.estop = s.safe.estop
      ∧ (takeSafety group ds s).safe.supplyOk = s.safe.supplyOk
      ∧ (takeSafety group ds s).safe.manualReq = s.safe.manualReq
      ∧ (takeSafety group ds s).safe.resetLine = s.safe.resetLine ∧ (takeSafety group ds s).store = s.store
      ∧ (takeSafety group ds s).cache = s.cache ∧ (takeSafety group ds s).heading = s.heading
      ∧ (takeSafety group ds s).settings = s.settings := by
  unfold takeSafety
  try dsimp only
  repeat' split
  all_goals simp

/-! ### The Safety Monitor and the crank -/

@[simp] theorem parkRuleAct_frame (position : Axes Int) (s : State) :
    (parkRuleAct position s).pending = s.pending ∧ (parkRuleAct position s).powered = s.powered
      ∧ (parkRuleAct position s).pose = s.pose ∧ (parkRuleAct position s).safe.pulses = s.safe.pulses
      ∧ (parkRuleAct position s).safe.speed = s.safe.speed
      ∧ (parkRuleAct position s).safe.windClass = s.safe.windClass ∧ (parkRuleAct position s).safe.calm = s.safe.calm
      ∧ (parkRuleAct position s).safe.ease = s.safe.ease ∧ (parkRuleAct position s).safe.park = s.safe.park
      ∧ (parkRuleAct position s).safe.estop = s.safe.estop ∧ (parkRuleAct position s).safe.supplyOk = s.safe.supplyOk
      ∧ (parkRuleAct position s).safe.manualReq = s.safe.manualReq
      ∧ (parkRuleAct position s).safe.resetLine = s.safe.resetLine ∧ (parkRuleAct position s).store = s.store
      ∧ (parkRuleAct position s).cache = s.cache ∧ (parkRuleAct position s).heading = s.heading
      ∧ (parkRuleAct position s).settings = s.settings := by
  unfold parkRuleAct
  try dsimp only
  repeat' split
  all_goals simp

@[simp] theorem parkRuleLockout_frame (position : Axes Int) (s : State) :
    (parkRuleLockout position s).pending = s.pending ∧ (parkRuleLockout position s).powered = s.powered
      ∧ (parkRuleLockout position s).pose = s.pose ∧ (parkRuleLockout position s).safe.pulses = s.safe.pulses
      ∧ (parkRuleLockout position s).safe.speed = s.safe.speed
      ∧ (parkRuleLockout position s).safe.windClass = s.safe.windClass
      ∧ (parkRuleLockout position s).safe.calm = s.safe.calm ∧ (parkRuleLockout position s).safe.ease = s.safe.ease
      ∧ (parkRuleLockout position s).safe.park = s.safe.park ∧ (parkRuleLockout position s).safe.estop = s.safe.estop
      ∧ (parkRuleLockout position s).safe.supplyOk = s.safe.supplyOk
      ∧ (parkRuleLockout position s).safe.manualReq = s.safe.manualReq
      ∧ (parkRuleLockout position s).safe.resetLine = s.safe.resetLine ∧ (parkRuleLockout position s).store = s.store
      ∧ (parkRuleLockout position s).cache = s.cache ∧ (parkRuleLockout position s).heading = s.heading
      ∧ (parkRuleLockout position s).settings = s.settings := by
  unfold parkRuleLockout
  try dsimp only
  repeat' split
  all_goals simp

@[simp] theorem parkRuleAlarms_frame (position : Axes Int) (alarmOnly : Bool) (s : State) :
    (parkRuleAlarms position alarmOnly s).pending = s.pending
      ∧ (parkRuleAlarms position alarmOnly s).powered = s.powered ∧ (parkRuleAlarms position alarmOnly s).arb = s.arb
      ∧ (parkRuleAlarms position alarmOnly s).exe = s.exe ∧ (parkRuleAlarms position alarmOnly s).pose = s.pose
      ∧ (parkRuleAlarms position alarmOnly s).safe.pulses = s.safe.pulses
      ∧ (parkRuleAlarms position alarmOnly s).safe.speed = s.safe.speed
      ∧ (parkRuleAlarms position alarmOnly s).safe.windClass = s.safe.windClass
      ∧ (parkRuleAlarms position alarmOnly s).safe.calm = s.safe.calm
      ∧ (parkRuleAlarms position alarmOnly s).safe.ease = s.safe.ease
      ∧ (parkRuleAlarms position alarmOnly s).safe.park = s.safe.park
      ∧ (parkRuleAlarms position alarmOnly s).safe.estop = s.safe.estop
      ∧ (parkRuleAlarms position alarmOnly s).safe.supplyOk = s.safe.supplyOk
      ∧ (parkRuleAlarms position alarmOnly s).safe.manualReq = s.safe.manualReq
      ∧ (parkRuleAlarms position alarmOnly s).safe.resetLine = s.safe.resetLine
      ∧ (parkRuleAlarms position alarmOnly s).safe.group = s.safe.group
      ∧ (parkRuleAlarms position alarmOnly s).store = s.store ∧ (parkRuleAlarms position alarmOnly s).cache = s.cache
      ∧ (parkRuleAlarms position alarmOnly s).heading = s.heading
      ∧ (parkRuleAlarms position alarmOnly s).scan = s.scan
      ∧ (parkRuleAlarms position alarmOnly s).settings = s.settings := by
  unfold parkRuleAlarms
  try dsimp only
  repeat' split
  all_goals simp

@[simp] theorem parkRule_frame (position : Axes Int) (atCrankEnd : Bool) (s : State) :
    (parkRule position atCrankEnd s).pending = s.pending ∧ (parkRule position atCrankEnd s).powered = s.powered
      ∧ (parkRule position atCrankEnd s).pose = s.pose ∧ (parkRule position atCrankEnd s).safe.pulses = s.safe.pulses
      ∧ (parkRule position atCrankEnd s).safe.speed = s.safe.speed
      ∧ (parkRule position atCrankEnd s).safe.windClass = s.safe.windClass
      ∧ (parkRule position atCrankEnd s).safe.calm = s.safe.calm
      ∧ (parkRule position atCrankEnd s).safe.ease = s.safe.ease
      ∧ (parkRule position atCrankEnd s).safe.park = s.safe.park
      ∧ (parkRule position atCrankEnd s).safe.estop = s.safe.estop
      ∧ (parkRule position atCrankEnd s).safe.supplyOk = s.safe.supplyOk
      ∧ (parkRule position atCrankEnd s).safe.manualReq = s.safe.manualReq
      ∧ (parkRule position atCrankEnd s).safe.resetLine = s.safe.resetLine
      ∧ (parkRule position atCrankEnd s).store = s.store ∧ (parkRule position atCrankEnd s).cache = s.cache
      ∧ (parkRule position atCrankEnd s).heading = s.heading ∧ (parkRule position atCrankEnd s).settings = s.settings := by
  unfold parkRule
  try dsimp only
  repeat' split
  all_goals simp

@[simp] theorem afterRemoval_frame (s : State) :
    (afterRemoval s).pending = s.pending ∧ (afterRemoval s).powered = s.powered ∧ (afterRemoval s).pose = s.pose
      ∧ (afterRemoval s).safe.pulses = s.safe.pulses ∧ (afterRemoval s).safe.speed = s.safe.speed
      ∧ (afterRemoval s).safe.windClass = s.safe.windClass ∧ (afterRemoval s).safe.calm = s.safe.calm
      ∧ (afterRemoval s).safe.ease = s.safe.ease ∧ (afterRemoval s).safe.park = s.safe.park
      ∧ (afterRemoval s).safe.estop = s.safe.estop ∧ (afterRemoval s).safe.supplyOk = s.safe.supplyOk
      ∧ (afterRemoval s).safe.manualReq = s.safe.manualReq ∧ (afterRemoval s).safe.resetLine = s.safe.resetLine
      ∧ (afterRemoval s).store = s.store ∧ (afterRemoval s).cache = s.cache ∧ (afterRemoval s).heading = s.heading
      ∧ (afterRemoval s).settings = s.settings := by
  unfold afterRemoval
  try dsimp only
  repeat' split
  all_goals simp

@[simp] theorem unblockStow_frame (position : Axes Int) (s : State) :
    (unblockStow position s).pending = s.pending ∧ (unblockStow position s).powered = s.powered
      ∧ (unblockStow position s).exe = s.exe ∧ (unblockStow position s).pose = s.pose
      ∧ (unblockStow position s).safe = s.safe ∧ (unblockStow position s).store = s.store
      ∧ (unblockStow position s).cache = s.cache ∧ (unblockStow position s).heading = s.heading
      ∧ (unblockStow position s).scan = s.scan ∧ (unblockStow position s).settings = s.settings := by
  unfold unblockStow
  try dsimp only
  repeat' split
  all_goals simp

@[simp] theorem leaveManual_frame (position : Axes Int) (s : State) :
    (leaveManual position s).pending = s.pending ∧ (leaveManual position s).powered = s.powered
      ∧ (leaveManual position s).pose = s.pose ∧ (leaveManual position s).safe.pulses = s.safe.pulses
      ∧ (leaveManual position s).safe.speed = s.safe.speed
      ∧ (leaveManual position s).safe.windClass = s.safe.windClass ∧ (leaveManual position s).safe.calm = s.safe.calm
      ∧ (leaveManual position s).safe.ease = s.safe.ease ∧ (leaveManual position s).safe.park = s.safe.park
      ∧ (leaveManual position s).safe.estop = s.safe.estop ∧ (leaveManual position s).safe.supplyOk = s.safe.supplyOk
      ∧ (leaveManual position s).safe.manualReq = s.safe.manualReq
      ∧ (leaveManual position s).safe.resetLine = s.safe.resetLine ∧ (leaveManual position s).store = s.store
      ∧ (leaveManual position s).cache = s.cache ∧ (leaveManual position s).heading = s.heading
      ∧ (leaveManual position s).settings = s.settings := by
  unfold leaveManual
  try dsimp only
  repeat' split
  all_goals simp

@[simp] theorem finishCrank_frame (position : Axes Int) (s : State) :
    (finishCrank position s).pending = s.pending ∧ (finishCrank position s).powered = s.powered
      ∧ (finishCrank position s).pose = s.pose ∧ (finishCrank position s).safe.pulses = s.safe.pulses
      ∧ (finishCrank position s).safe.speed = s.safe.speed
      ∧ (finishCrank position s).safe.windClass = s.safe.windClass ∧ (finishCrank position s).safe.calm = s.safe.calm
      ∧ (finishCrank position s).safe.ease = s.safe.ease ∧ (finishCrank position s).safe.park = s.safe.park
      ∧ (finishCrank position s).safe.estop = s.safe.estop ∧ (finishCrank position s).safe.supplyOk = s.safe.supplyOk
      ∧ (finishCrank position s).safe.manualReq = s.safe.manualReq
      ∧ (finishCrank position s).safe.resetLine = s.safe.resetLine ∧ (finishCrank position s).store = s.store
      ∧ (finishCrank position s).cache = s.cache ∧ (finishCrank position s).heading = s.heading
      ∧ (finishCrank position s).settings = s.settings := by
  unfold finishCrank
  try dsimp only
  repeat' split
  all_goals simp

@[simp] theorem crankCheck_frame (s : State) :
    (crankCheck s).pending = s.pending ∧ (crankCheck s).powered = s.powered ∧ (crankCheck s).pose = s.pose
      ∧ (crankCheck s).safe.pulses = s.safe.pulses ∧ (crankCheck s).safe.speed = s.safe.speed
      ∧ (crankCheck s).safe.windClass = s.safe.windClass ∧ (crankCheck s).safe.calm = s.safe.calm
      ∧ (crankCheck s).safe.ease = s.safe.ease ∧ (crankCheck s).safe.park = s.safe.park
      ∧ (crankCheck s).safe.estop = s.safe.estop ∧ (crankCheck s).safe.supplyOk = s.safe.supplyOk
      ∧ (crankCheck s).safe.manualReq = s.safe.manualReq ∧ (crankCheck s).safe.resetLine = s.safe.resetLine
      ∧ (crankCheck s).store = s.store ∧ (crankCheck s).cache = s.cache ∧ (crankCheck s).heading = s.heading
      ∧ (crankCheck s).settings = s.settings := by
  unfold crankCheck
  try dsimp only
  repeat' split
  all_goals simp

@[simp] theorem settleAll_frame (s : State) :
    (settleAll s).pending = s.pending ∧ (settleAll s).powered = s.powered ∧ (settleAll s).pose = s.pose
      ∧ (settleAll s).safe.pulses = s.safe.pulses ∧ (settleAll s).safe.speed = s.safe.speed
      ∧ (settleAll s).safe.windClass = s.safe.windClass ∧ (settleAll s).safe.calm = s.safe.calm
      ∧ (settleAll s).safe.ease = s.safe.ease ∧ (settleAll s).safe.park = s.safe.park
      ∧ (settleAll s).safe.estop = s.safe.estop ∧ (settleAll s).safe.supplyOk = s.safe.supplyOk
      ∧ (settleAll s).safe.manualReq = s.safe.manualReq ∧ (settleAll s).safe.resetLine = s.safe.resetLine
      ∧ (settleAll s).store = s.store ∧ (settleAll s).cache = s.cache ∧ (settleAll s).heading = s.heading
      ∧ (settleAll s).settings = s.settings := by
  unfold settleAll
  try dsimp only
  repeat' split
  all_goals simp

@[simp] theorem manualDue_frame (s : State) :
    (manualDue s).pending = s.pending ∧ (manualDue s).powered = s.powered ∧ (manualDue s).pose = s.pose
      ∧ (manualDue s).safe = s.safe ∧ (manualDue s).store = s.store ∧ (manualDue s).cache = s.cache
      ∧ (manualDue s).heading = s.heading ∧ (manualDue s).scan = s.scan ∧ (manualDue s).settings = s.settings := by
  unfold manualDue
  try dsimp only
  repeat' split
  all_goals simp

@[simp] theorem takeManualRequest_frame (s : State) :
    (takeManualRequest s).pending = s.pending ∧ (takeManualRequest s).powered = s.powered
      ∧ (takeManualRequest s).pose = s.pose ∧ (takeManualRequest s).safe.pulses = s.safe.pulses
      ∧ (takeManualRequest s).safe.speed = s.safe.speed ∧ (takeManualRequest s).safe.windClass = s.safe.windClass
      ∧ (takeManualRequest s).safe.calm = s.safe.calm ∧ (takeManualRequest s).safe.ease = s.safe.ease
      ∧ (takeManualRequest s).safe.park = s.safe.park ∧ (takeManualRequest s).safe.estop = s.safe.estop
      ∧ (takeManualRequest s).safe.supplyOk = s.safe.supplyOk
      ∧ (takeManualRequest s).safe.manualReq = s.safe.manualReq
      ∧ (takeManualRequest s).safe.resetLine = s.safe.resetLine ∧ (takeManualRequest s).store = s.store
      ∧ (takeManualRequest s).cache = s.cache ∧ (takeManualRequest s).heading = s.heading
      ∧ (takeManualRequest s).settings = s.settings := by
  unfold takeManualRequest
  try dsimp only
  repeat' split
  all_goals simp

@[simp] theorem withdrawManual_frame (s : State) :
    (withdrawManual s).pending = s.pending ∧ (withdrawManual s).powered = s.powered
      ∧ (withdrawManual s).pose = s.pose ∧ (withdrawManual s).safe = s.safe ∧ (withdrawManual s).store = s.store
      ∧ (withdrawManual s).cache = s.cache ∧ (withdrawManual s).heading = s.heading
      ∧ (withdrawManual s).scan = s.scan ∧ (withdrawManual s).settings = s.settings := by
  unfold withdrawManual
  try dsimp only
  repeat' split
  all_goals simp

end Sys2Proof.Machine
end

