-- ==== Sys2Proof/Laws/Answers.lean ====
section
/-! SUPPORT. What an answer does: a refusal changes the sender's port alone, a success may restart the holder's idle timer too
(R36, R160); when a request or an event is taken; what a discard leaves (R64); and what placing a
notice keeps of an output list (R161). -/

namespace Sys2Proof.Machine

theorem restartIdle_eq (p : Port) (status : Status) (s : State) :
    restartIdle p status s =
      if status.success = true then s.setArb (idleRestarted p s.settings.inForce.idleTimeout s.arb) else s := by
  unfold restartIdle idleRestarted startIdle
  by_cases h : status.success = true <;> by_cases h1 : s.arb.holder = some (.port p) <;>
    by_cases h2 : s.arb.auth = .held <;> by_cases h3 : s.arb.deferred = none <;> simp [h, h1, h2, h3]

/-- An answer that is no success changes the sender's port alone. -/
theorem respond_refused (p : Port) (r : Request) (status : Status) (fields : List Byte) (s : State)
    (h : status.success = false) : respond p r status fields s = answeredState p r status fields s := by
  unfold respond respondParts
  rw [restartIdle_eq]
  simp [h, answeredState, answer, answerParts, updatePort]

/-- An answer that is a success changes the sender's port, and restarts the holder's idle timer in HELD. -/
theorem respond_done (p : Port) (r : Request) (status : Status) (fields : List Byte) (s : State)
    (h : status.success = true) : respond p r status fields s = doneState p r status fields s := by
  unfold respond respondParts
  rw [restartIdle_eq]
  simp [h, doneState, answer, answerParts, updatePort]

/-- What every answer leaves of the arbiter: all but the idle timer. -/
@[simp] theorem respondParts_arb (p : Port) (r : Request) (status : Status) (parts : List (List Byte)) (s : State) :
    (respondParts p r status parts s).arb.auth = s.arb.auth ∧ (respondParts p r status parts s).arb.holder = s.arb.holder
      ∧ (respondParts p r status parts s).arb.claims = s.arb.claims
      ∧ (respondParts p r status parts s).arb.releaseMark = s.arb.releaseMark
      ∧ (respondParts p r status parts s).arb.reasons = s.arb.reasons
      ∧ (respondParts p r status parts s).arb.grant = s.arb.grant
      ∧ (respondParts p r status parts s).arb.deferred = s.arb.deferred
      ∧ (respondParts p r status parts s).arb.crankEnd = s.arb.crankEnd := by
  unfold respondParts
  rw [restartIdle_eq]
  unfold idleRestarted
  repeat' split
  all_goals simp

@[simp] theorem respond_arb (p : Port) (r : Request) (status : Status) (fields : List Byte) (s : State) :
    (respond p r status fields s).arb.auth = s.arb.auth ∧ (respond p r status fields s).arb.holder = s.arb.holder
      ∧ (respond p r status fields s).arb.claims = s.arb.claims
      ∧ (respond p r status fields s).arb.releaseMark = s.arb.releaseMark
      ∧ (respond p r status fields s).arb.reasons = s.arb.reasons
      ∧ (respond p r status fields s).arb.grant = s.arb.grant
      ∧ (respond p r status fields s).arb.deferred = s.arb.deferred
      ∧ (respond p r status fields s).arb.crankEnd = s.arb.crankEnd := by
  unfold respond
  simp

/-- A request that may be taken is taken. -/
theorem onRequest_takes {p : Port} {r : Request} {s : State} (f : State → State) (h : takes p r s) :
    onRequest p r f s = f s := if_pos h

/-- A request that may not be taken changes nothing. -/
theorem onRequest_idle {p : Port} {r : Request} {s : State} (f : State → State) (h : ¬takes p r s) :
    onRequest p r f s = s := if_neg h

theorem whenPowered_on {s : State} (f : State → State) (h : s.powered = true) : whenPowered f s = f s := if_pos h

theorem whenPowered_off {s : State} (f : State → State) (h : s.powered = false) : whenPowered f s = s := by
  simp [whenPowered, h]

/-- A request either is taken or changes nothing. -/
theorem onRequest_cases (p : Port) (r : Request) (f : State → State) (s : State) :
    onRequest p r f s = f s ∨ onRequest p r f s = s := by
  unfold onRequest
  split
  · exact Or.inl rfl
  · exact Or.inr rfl

theorem whenPowered_cases (f : State → State) (s : State) : whenPowered f s = f s ∨ whenPowered f s = s := by
  unfold whenPowered
  split
  · exact Or.inl rfl
  · exact Or.inr rfl

/-- A request behind the holder check is refused, or reaches its block. -/
theorem asHolder_cases (p : Port) (r : Request) (submits : Bool) (f : State → State) (s : State) :
    (∃ status, asHolder p r submits f s = respond p r status [] s) ∨ asHolder p r submits f s = f s := by
  unfold asHolder
  split
  · exact Or.inl ⟨_, rfl⟩
  · exact Or.inr rfl

/-! ### Discards (R52, R64) -/

/-- What a discard leaves, and how many entries it removes, while an entry is active. -/
theorem discard_active {s : State} {x : Active} {e : Entry} {rest : List Entry} (hx : s.exe.active = some x)
    (hq : s.exe.queue = e :: rest) :
    keptByDiscard s = e :: groupBehind e rest ∧ discardCount s = (pastGroup e rest).length := by
  have hk : keptByDiscard s = e :: groupBehind e rest := by
    simp [keptByDiscard, activeEntry, hx, hq]
    rfl
  have hl : rest.length = (groupBehind e rest).length + (pastGroup e rest).length := by
    rw [← List.length_append, groupBehind, pastGroup, List.takeWhile_append_dropWhile]
  refine ⟨hk, ?_⟩
  rw [discardCount, hk, hq, List.length_cons, List.length_cons, hl]
  omega

/-- Without an active entry a discard removes every entry. -/
theorem discard_idle {s : State} (hx : s.exe.active = none) :
    keptByDiscard s = [] ∧ discardCount s = s.exe.queue.length := by
  have hk : keptByDiscard s = [] := by simp [keptByDiscard, activeEntry, hx]
  exact ⟨hk, by simp [discardCount, hk]⟩

@[simp] theorem isResponse_response (r : Response) : (OutItem.response r).isResponse = true := rfl

@[simp] theorem isResponse_notice (body : NoticeBody) (n : Nat) : (OutItem.notice body n).isResponse = false := rfl

theorem mergeBody_kind (old new : NoticeBody) : (mergeBody old new).kind = new.kind := by
  cases new <;> cases old <;> rfl

/-- Placing a notice merges it into the pending one of its kind, or adds its kind at the end (R161). -/
theorem noticeKinds_placeItem (body : NoticeBody) (l : List OutItem) :
    noticeKinds (placeItem body l) =
      if body.kind ∈ noticeKinds l then noticeKinds l else noticeKinds l ++ [body.kind] := by
  induction l with
  | nil => simp [placeItem, noticeKinds]
  | cons i rest ih =>
    cases i with
    | response r => by_cases h : body.kind ∈ noticeKinds rest <;> simp [placeItem, noticeKinds, ih, h]
    | notice old merged =>
      by_cases h : old.kind = body.kind
      · simp [placeItem, h, noticeKinds, mergeBody_kind]
      · have h' : ¬body.kind = old.kind := fun e => h e.symm
        simp only [placeItem, h, if_false, noticeKinds, List.mem_cons, h', false_or, ih]
        split <;> simp

/-- Placing a notice keeps the responses of the list (R161). -/
theorem responses_placeItem (body : NoticeBody) (l : List OutItem) :
    responses (placeItem body l) = responses l := by
  unfold responses
  induction l with
  | nil => rfl
  | cons i rest ih =>
    cases i with
    | response r =>
      simp only [placeItem, List.filter_cons, isResponse_response, if_true, ih]
    | notice old merged =>
      unfold placeItem
      split <;> simp [ih]

/-- Placing a notice keeps the capacities of a port's lists (R161). -/
theorem portFits_placeItem (body : NoticeBody) (q : PortState) (h : portFits q) :
    portFits { q with output := placeItem body q.output } := by
  obtain ⟨⟨h1, h1'⟩, h2, h3⟩ := h
  refine ⟨⟨by simpa [responses_placeItem] using h1, by simpa [responses_placeItem] using h1'⟩, ?_, h3⟩
  show (noticeKinds (placeItem body q.output)).Nodup
  rw [noticeKinds_placeItem]
  split
  · exact h2
  · next hn => exact List.nodup_append.mpr ⟨h2, by simp, by simpa using fun a ha e => hn (by rw [← e]; exact ha)⟩

end Sys2Proof.Machine
end

