-- ==== Sys2Proof/Laws/Notices.lean ====
section
/-! SUPPORT. What placing a notice does to the pending ones: it stands with its content, and the other kinds are as they were
(R161, R162); the operations of a boundary place notices of authority, refused claims, conditions and the crank alone. -/

namespace Sys2Proof.Machine

theorem noticeOf_placeItem (body : NoticeBody) (l : List OutItem) :
    noticeOf body.kind (placeItem body l) = some (noticed body l) := by
  induction l with
  | nil => simp [placeItem, noticeOf, noticed]
  | cons i rest ih =>
    cases i with
    | response r => simpa [placeItem, noticeOf, noticed] using ih
    | notice old m =>
      by_cases h : old.kind = body.kind
      · simp [placeItem, h, noticeOf, noticed, mergeBody_kind]
      · simp only [placeItem, h, if_false, noticeOf, noticed] at ih ⊢
        exact ih

theorem noticeOf_placeItem_other (body : NoticeBody) (k : Nat) (hk : body.kind ≠ k) (l : List OutItem) :
    noticeOf k (placeItem body l) = noticeOf k l := by
  induction l with
  | nil => simp [placeItem, noticeOf, hk]
  | cons i rest ih =>
    cases i with
    | response r => simpa [placeItem, noticeOf] using ih
    | notice old m =>
      by_cases h : old.kind = body.kind
      · simp [placeItem, h, noticeOf, mergeBody_kind, hk]
      · simp only [placeItem, h, if_false, noticeOf]
        split <;> simp [ih]

theorem noticeOf_append_response (k : Nat) (l : List OutItem) (r : Response) :
    noticeOf k (l ++ [.response r]) = noticeOf k l := by
  induction l with
  | nil => rfl
  | cons i rest ih => cases i <;> simp [noticeOf, ih]

/-- The pending notices of one kind are the same on every port, and the masks too. -/
def sameNotices (k : Nat) (s t : State) : Prop :=
  ∀ p : Port, noticeOf k (t.ports.get p).output = noticeOf k (s.ports.get p).output
    ∧ (t.ports.get p).mask = (s.ports.get p).mask

theorem sameNotices_refl (k : Nat) (s : State) : sameNotices k s s := fun _ => ⟨rfl, rfl⟩

theorem sameNotices_of_ports {k : Nat} {s t : State} (h : t.ports = s.ports) : sameNotices k s t := fun p => by simp [h]

/-- A change of no port before, or after, what keeps the notices. -/
theorem sameNotices_before {k : Nat} (s t : State) {u : State} (h : t.ports = s.ports) (hs : sameNotices k t u) :
    sameNotices k s u := fun p => by
  have h1 := hs p
  rw [h] at h1
  exact h1

theorem sameNotices_then {k : Nat} {s : State} (t u : State) (h : u.ports = t.ports) (hs : sameNotices k s t) :
    sameNotices k s u := fun p => by
  have h1 := hs p
  rw [← h] at h1
  exact h1

theorem sameNotices_trans {k : Nat} {s t u : State} (h1 : sameNotices k s t) (h2 : sameNotices k t u) :
    sameNotices k s u := fun p => ⟨(h2 p).1.trans (h1 p).1, (h2 p).2.trans (h1 p).2⟩

/-- A notice told and then left alone is told. -/
theorem tells_same {p : Port} {body : NoticeBody} {s t u : State} (h : tells p body s t) (hs : sameNotices body.kind t u) :
    tells p body s u := ((hs p).1).trans h

/-- A notice told after others of other kinds is told. -/
theorem tells_after {p : Port} {body : NoticeBody} {s t u : State} (hs : sameNotices body.kind s t) (h : tells p body t u) :
    tells p body s u := by
  unfold tells noticed at *
  rw [h, (hs p).1]

theorem tellsIf_same {p : Port} {body : NoticeBody} {s t u : State} (h : tellsIf p body s t)
    (hs : sameNotices body.kind t u) : tellsIf p body s u := by
  unfold tellsIf at *
  split
  · next hp => exact tells_same (by simpa [hp] using h) hs
  · next hp => exact ((hs p).1).trans (by simpa [hp] using h)

theorem tellsIf_after {p : Port} {body : NoticeBody} {s t u : State} (hs : sameNotices body.kind s t)
    (h : tellsIf p body t u) : tellsIf p body s u := by
  unfold tellsIf at *
  rw [(hs p).2] at h
  split
  · next hp => exact tells_after hs (by simpa [hp] using h)
  · next hp => exact (show _ = _ by simpa [hp] using h : _ = _).trans (hs p).1

theorem tellsAll_same {body : NoticeBody} {s t u : State} (h : tellsAll body s t) (hs : sameNotices body.kind t u) :
    tellsAll body s u := fun p => tellsIf_same (h p) hs

theorem tellsAll_after {body : NoticeBody} {s t u : State} (hs : sameNotices body.kind s t) (h : tellsAll body t u) :
    tellsAll body s u := fun p => tellsIf_after hs (h p)

theorem placeAlways_tells (p : Port) (body : NoticeBody) (s : State) : tells p body s (placeAlways p body s) := by
  simp [tells, placeAlways, updatePort, noticeOf_placeItem]

theorem placeAlways_same (p : Port) (body : NoticeBody) (k : Nat) (hk : body.kind ≠ k) (s : State) :
    sameNotices k s (placeAlways p body s) := by
  intro q
  simp only [placeAlways, updatePort, State.setPorts_ports, Ports.get_set]
  split
  · next h => simp [h, noticeOf_placeItem_other body k hk]
  · exact ⟨rfl, rfl⟩

theorem placeOn_same (p : Port) (body : NoticeBody) (k : Nat) (hk : body.kind ≠ k) (s : State) :
    sameNotices k s (placeOn p body s) := by
  unfold placeOn
  split
  · exact placeAlways_same p body k hk s
  · exact sameNotices_refl k s

theorem placeAll_same (body : NoticeBody) (k : Nat) (hk : body.kind ≠ k) (s : State) :
    sameNotices k s (placeAll body s) :=
  sameNotices_trans (sameNotices_trans (placeOn_same .cab body k hk _) (placeOn_same .rack body k hk _))
    (placeOn_same .link body k hk _)

theorem placeOn_tells (p : Port) (body : NoticeBody) (s : State) : tellsIf p body s (placeOn p body s) := by
  unfold tellsIf placeOn
  split
  · exact placeAlways_tells p body s
  · rfl

/-- A notice placed on one port leaves the others. -/
theorem placeOn_other (p q : Port) (body : NoticeBody) (s : State) (h : q ≠ p) :
    (placeOn p body s).ports.get q = s.ports.get q := by
  unfold placeOn placeAlways updatePort
  split
  · simp [Ports.get_set, h]
  · rfl

/-- Whether a port is told depends on that port alone. -/
theorem tellsIf_of_port {p : Port} {body : NoticeBody} {s s' t t' : State} (hs : s'.ports.get p = s.ports.get p)
    (ht : t'.ports.get p = t.ports.get p) (h : tellsIf p body s t) : tellsIf p body s' t' := by
  unfold tellsIf tells at *
  rw [hs, ht]
  exact h

theorem placeAll_tells (body : NoticeBody) (s : State) : tellsAll body s (placeAll body s) := by
  intro p
  unfold placeAll
  cases p
  · exact tellsIf_of_port rfl
      (by rw [placeOn_other .link .cab _ _ (by decide), placeOn_other .rack .cab _ _ (by decide)])
      (placeOn_tells .cab body s)
  · exact tellsIf_of_port (placeOn_other .cab .rack body s (by decide)).symm
      (placeOn_other .link .rack _ _ (by decide)) (placeOn_tells .rack body _)
  · exact tellsIf_of_port
      (by rw [placeOn_other .rack .link _ _ (by decide), placeOn_other .cab .link _ _ (by decide)]) rfl
      (placeOn_tells .link body _)

/-! ### Output lists alone -/

/-- Placing a notice leaves the rest of the list in its order. -/
theorem besides_placeItem {kinds : List Nat} {body : NoticeBody} (hk : body.kind ∈ kinds) (l : List OutItem) :
    besides kinds (placeItem body l) = besides kinds l := by
  unfold besides
  induction l with
  | nil => simp [placeItem, hk]
  | cons i rest ih =>
    cases i with
    | response r => simp only [placeItem, List.filter_cons, ih]
    | notice old merged =>
      unfold placeItem
      split
      · next h => simp [h, mergeBody_kind, hk]
      · simp only [List.filter_cons, ih]

theorem onlyOutputs_refl (told : Port → List Nat) (s : State) : onlyOutputs told s s :=
  ⟨s.ports.cab.output, s.ports.rack.output, s.ports.link.output, rfl, rfl, rfl, rfl⟩

theorem onlyOutputs_trans {told : Port → List Nat} {s t u : State} (h1 : onlyOutputs told s t) (h2 : onlyOutputs told t u) :
    onlyOutputs told s u := by
  obtain ⟨a, b, c, ha, hb, hc, rfl⟩ := h1
  obtain ⟨a', b', c', ha', hb', hc', rfl⟩ := h2
  exact ⟨a', b', c', ha'.trans ha, hb'.trans hb, hc'.trans hc, rfl⟩

theorem placeAlways_onlyOutputs {told : Port → List Nat} (p : Port) (body : NoticeBody) (h : body.kind ∈ told p)
    (s : State) : onlyOutputs told s (placeAlways p body s) := by
  cases p
  · exact ⟨placeItem body s.ports.cab.output, _, _, besides_placeItem h _, rfl, rfl, rfl⟩
  · exact ⟨_, placeItem body s.ports.rack.output, _, rfl, besides_placeItem h _, rfl, rfl⟩
  · exact ⟨_, _, placeItem body s.ports.link.output, rfl, rfl, besides_placeItem h _, rfl⟩

theorem placeOn_onlyOutputs {told : Port → List Nat} (p : Port) (body : NoticeBody) (h : body.kind ∈ told p) (s : State) :
    onlyOutputs told s (placeOn p body s) := by
  unfold placeOn
  split
  · exact placeAlways_onlyOutputs p body h s
  · exact onlyOutputs_refl told s

theorem placeAll_onlyOutputs {told : Port → List Nat} (body : NoticeBody) (h : ∀ p, body.kind ∈ told p) (s : State) :
    onlyOutputs told s (placeAll body s) :=
  onlyOutputs_trans
    (onlyOutputs_trans (placeOn_onlyOutputs .cab body (h _) _) (placeOn_onlyOutputs .rack body (h _) _))
    (placeOn_onlyOutputs .link body (h _) _)

/-! ### The kinds that a boundary places -/

/-- A kind that no operation of a boundary places: not AUTHORITY, CLAIM REFUSED, the conditions or MANUAL. -/
def workKind (k : Nat) : Prop := 2 ≠ k ∧ 3 ≠ k ∧ 12 ≠ k ∧ 13 ≠ k

theorem placeAuthority_same (h : Option Party) (event : AuthEvent) (reason : Option AuthReason) (halted discarded k : Nat)
    (hk : 2 ≠ k) (s : State) : sameNotices k s (placeAuthority h event reason halted discarded s) := by
  unfold placeAuthority
  split
  · exact placeAlways_same _ (.authority event reason halted discarded) k hk s
  · exact sameNotices_refl k s

theorem placeCondition_same (event : ConditionEvent) (k : Nat) (hk : 12 ≠ k) (s : State) :
    sameNotices k s (placeCondition event s) := placeAll_same (conditionBody event s) k hk s

theorem setAlarmCauses_same (park wind : Bool) (k : Nat) (hk : 12 ≠ k) (s : State) :
    sameNotices k s (setAlarmCauses park wind s) := by
  unfold setAlarmCauses
  dsimp only
  split
  · exact sameNotices_refl k s
  · exact sameNotices_before s _ (State.setSafe_ports s _) (placeCondition_same .alarm k hk _)

theorem refuseClaims_same (ps : List Port) (k : Nat) (hk : 3 ≠ k) (s : State) : sameNotices k s (refuseClaims ps s) := by
  induction ps generalizing s with
  | nil => exact sameNotices_refl k s
  | cons p ps ih => exact sameNotices_trans (placeAlways_same p .claimRefused k hk s) (ih _)

theorem enterLockout_same (k : Nat) (hk : 3 ≠ k) (s : State) : sameNotices k s (enterLockout s) :=
  sameNotices_trans (refuseClaims_same s.arb.claims k hk s) (sameNotices_of_ports (by simp [enterLockout]))

theorem giveTo_same (p : Port) (reason : AuthReason) (k : Nat) (hk : 2 ≠ k) (s : State) :
    sameNotices k s (giveTo p reason s) :=
  sameNotices_trans (sameNotices_of_ports (by simp)) (placeAuthority_same _ _ _ _ _ k hk _)

theorem passOn_same (reason : AuthReason) (k : Nat) (hk : 2 ≠ k) (s : State) : sameNotices k s (passOn reason s) := by
  unfold passOn
  split
  · exact giveTo_same _ _ k hk s
  · exact sameNotices_of_ports (by simp)

theorem retain_same (k : Nat) (hk : 2 ≠ k) (s : State) : sameNotices k s (retain s) := by
  unfold retain
  exact sameNotices_trans (sameNotices_of_ports (by simp)) (placeAuthority_same _ _ _ _ _ k hk _)

theorem grantCrank_same (lh ld bh bd k : Nat) (hk : workKind k) (s : State) : sameNotices k s (grantCrank lh ld bh bd s) := by
  unfold grantCrank
  dsimp only
  refine sameNotices_trans ?_ (placeAll_same (.manualBegun s.arb.auth s.arb.holder bh bd) k hk.2.2.2 _)
  refine sameNotices_then _ _ (State.setArb_ports _ _) ?_
  split
  · exact sameNotices_refl k s
  · exact placeAuthority_same _ _ _ _ _ k hk.1 s

theorem groupCut_same (k : Nat) (hk : 12 ≠ k) (s : State) : sameNotices k s (groupCut s) := by
  unfold groupCut
  split
  · exact sameNotices_trans (sameNotices_of_ports rfl) (setAlarmCauses_same _ _ k hk _)
  · exact sameNotices_of_ports rfl

theorem finishScan_same (why : EndReason) (learned : Bool) (k : Nat) (hk : 7 ≠ k) (s : State) :
    sameNotices k s (finishScan why learned s) := by
  unfold finishScan placeOrigin
  split
  · split
    · exact sameNotices_trans (sameNotices_of_ports rfl) (placeOn_same _ (.scanEnd _) k hk _)
    · exact sameNotices_of_ports rfl
  · exact sameNotices_refl k s

theorem haltByOrder_same (why : EndReason) (k : Nat) (hk : 7 ≠ k) (s : State) : sameNotices k s (haltByOrder why s) := by
  unfold haltByOrder haltAll
  dsimp only
  refine sameNotices_trans (finishScan_same why false k hk s) ?_
  split <;> exact sameNotices_of_ports (by simp)

theorem enlistReason_same (r : LockReason) (k : Nat) (hk : 12 ≠ k) (s : State) : sameNotices k s (enlistReason r s) :=
  sameNotices_before s _ (State.setArb_ports s _) (placeCondition_same _ k hk _)

theorem takeOutstanding_same (k : Nat) (hk : 12 ≠ k) (s : State) : sameNotices k s (takeOutstanding s) := by
  unfold takeOutstanding
  split
  · exact enlistReason_same _ k hk s
  · exact sameNotices_refl k s

theorem lockOut_same (r : LockReason) (k : Nat) (hk : workKind k) (h7 : 7 ≠ k) (s : State) :
    sameNotices k s (lockOut r s) := by
  unfold lockOut
  dsimp only
  have h := sameNotices_trans
    (sameNotices_trans
      (sameNotices_trans (sameNotices_trans (takeOutstanding_same k hk.2.2.1 s) (haltByOrder_same (haltReason r) k h7 _))
        (placeAuthority_same s.arb.holder .lost (some (lostReason r)) (activeTag s) (waitingCount s) k hk.1 _))
      (groupCut_same k hk.2.2.1 _))
    (enterLockout_same k hk.2.1 _)
  split
  · exact sameNotices_trans h (grantCrank_same _ _ _ _ k hk _)
  · exact h

theorem addReason_same (r : LockReason) (k : Nat) (hk : workKind k) (h7 : 7 ≠ k) (s : State) :
    sameNotices k s (addReason r s) := by
  unfold addReason
  split
  · exact sameNotices_refl k s
  · have h : sameNotices k s (enlistReason r s) := enlistReason_same r k hk.2.2.1 s
    dsimp only
    split
    · exact sameNotices_trans h (enterLockout_same k hk.2.1 _)
    · exact h
    · exact h
    · exact sameNotices_trans h (lockOut_same _ k hk h7 _)
    · exact h
    · exact sameNotices_trans h (lockOut_same _ k hk h7 _)

theorem yieldOutcome_same (k : Nat) (hk : 2 ≠ k) (s : State) : sameNotices k s (yieldOutcome s) := by
  unfold yieldOutcome
  dsimp only
  split
  · exact sameNotices_trans (placeAuthority_same _ _ _ _ _ k hk s) (giveTo_same _ _ k hk _)
  · split
    · exact sameNotices_then (placeAuthority s.arb.holder .lost (some .released) 0 0 s) _ (by simp)
        (placeAuthority_same _ _ _ _ _ k hk s)
    · exact retain_same k hk s

theorem safetyGivesBack_same (k : Nat) (hk : workKind k) (s : State) : sameNotices k s (safetyGivesBack s) := by
  unfold safetyGivesBack
  split
  · exact passOn_same _ k hk.1 s
  · exact enterLockout_same k hk.2.1 s

theorem makeHandover_same (d : Deferral) (k : Nat) (hk : workKind k) (s : State) : sameNotices k s (makeHandover d s) := by
  unfold makeHandover
  split
  · split
    · split
      · exact sameNotices_trans (placeAuthority_same _ _ _ _ _ k hk.1 s) (giveTo_same _ _ k hk.1 _)
      · exact sameNotices_of_ports (by simp)
    · exact sameNotices_of_ports (by simp)
  · exact sameNotices_trans (placeAuthority_same _ _ _ _ _ k hk.1 s) (passOn_same _ k hk.1 _)
  · exact yieldOutcome_same k hk.1 s
  · exact sameNotices_trans (placeAuthority_same _ _ _ _ _ k hk.1 s) (passOn_same _ k hk.1 _)
  · exact safetyGivesBack_same k hk s

theorem handOn_same (d : Deferral) (k : Nat) (hk : workKind k) (s : State) : sameNotices k s (handOn d s) := by
  unfold handOn
  split
  · exact sameNotices_of_ports rfl
  · exact makeHandover_same d k hk s

theorem groupEnded_same (ending : Ending) (k : Nat) (hk : workKind k) (h7 : 7 ≠ k) (s : State) :
    sameNotices k s (groupEnded ending s) := by
  unfold groupEnded
  dsimp only
  split
  · split
    · exact sameNotices_of_ports rfl
    · exact sameNotices_trans (sameNotices_of_ports rfl) (addReason_same _ k hk h7 _)
  · exact sameNotices_trans (sameNotices_of_ports rfl) (setAlarmCauses_same _ _ k hk.2.2.1 _)
  · split
    · exact addReason_same _ k hk h7 s
    · exact sameNotices_refl k s

/-- A boundary leaves the notices of entries, scans and stores as they are (R32, R33, R41, R82). -/
theorem takeBoundary_same (ending : Ending) (k : Nat) (hk : workKind k) (h7 : 7 ≠ k) (s : State) :
    sameNotices k s (takeBoundary ending s) := by
  unfold takeBoundary
  split
  · exact sameNotices_of_ports (by simp)
  · exact handOn_same _ k hk s
  · exact grantCrank_same _ _ _ _ k hk s
  · unfold safetyBoundary
    have h := groupEnded_same ending k hk h7 s
    dsimp only
    split
    · split
      · exact sameNotices_trans h (grantCrank_same _ _ _ _ k hk _)
      · exact sameNotices_trans h (sameNotices_trans (enterLockout_same k hk.2.1 _) (grantCrank_same _ _ _ _ k hk _))
    · split
      · exact sameNotices_trans h (handOn_same _ k hk _)
      · exact sameNotices_trans h (enterLockout_same k hk.2.1 _)
    · exact h
  · exact sameNotices_refl k s

end Sys2Proof.Machine
end

