-- ==== Sys2Proof/Tests/Slice0.lean ====
section
/-! SUPPORT. Small tests of the model: the well-formedness checks each refuse an ill-formed command, the spec's own examples and
tables come out as it prints them, and the hypotheses of every statement are met by a state and operands written out here. -/

namespace Sys2Proof.Tests

open Sys2Proof.Machine

/-! ### Well-formed commands: one ill-formed term for each check -/

def site : SiteFields :=
  { nameLength := 0x01, name := List.replicate 16 0x41, bearing := 21800, elevation := 250, polarisation := 0, height := 9500,
    pattern := 0x00, stepSize := 0x05, defaultSteps := 0x00, rowLength := 0x02, learn := 0x01, levelSource := 0x00 }

/-- A record with a place too few in its name. -/
def shortSite : SiteFields := { site with name := List.replicate 15 0x41 }

def raise : RawMove := { kind := 0x00, axis := 0x00, value := 2000, rate := 0x01 }

def noPeak : PeakParams :=
  { slot := none, pattern := none, stepSize := none, steps := none, source := none, dwell := none, block := none }

/-- The inputs of a start that finds the mechanism stowed and at rest, PARK and SUPPLY OK asserted and nothing else. -/
def stowed : StartInputs :=
  { reading := { counts := { mast := 0, pan := 0, tilt := -1000, pol := 0 }, atRest := Axes.all true }
    level := { pitch := 0, roll := 0 }, park := true, estop := false, supplyOk := true, manualReq := false, resetLine := false
    faultLine := Axes.all false, ready := Ports.all true, parkNegatedDuring := false, readBack := .good }

def wholeLoss : PowerLoss :=
  { slotSite := site, slotRedirection := 0xFF, slotCheck := 0, erased := 0, edge := .asItWas, settings := none }

theorem test_wf_accepts :
    (Instr.queueMoves .cab 0x00 (List.replicate 11 raise)).wf = true ∧ (Instr.peak .cab noPeak).wf = true
      ∧ (Instr.stageSite .rack 47 site).wf = true ∧ (Instr.powerApplied stowed).wf = true
      ∧ (Instr.powerLoss wholeLoss).wf = true ∧ (Instr.slotWriteEnd (.bad site 0xFF 1)).wf = true := by decide +kernel

theorem test_wf_refuses_moves :
    (Instr.queueMoves .cab 0x00 (List.replicate 12 raise)).wf = false
      ∧ (Instr.queueMoves .cab 0x00 [{ raise with value := 32768 }]).wf = false
      ∧ (Instr.queueMoves .cab 0x00 [{ raise with value := -32769 }]).wf = false := by decide +kernel

theorem test_wf_refuses_peak :
    (Instr.peak .cab { noPeak with slot := some 256 }).wf = false
      ∧ (Instr.peak .cab { noPeak with pattern := some (0x01, 256) }).wf = false
      ∧ (Instr.peak .cab { noPeak with stepSize := some 256 }).wf = false
      ∧ (Instr.peak .cab { noPeak with steps := some 65536 }).wf = false
      ∧ (Instr.peak .cab { noPeak with dwell := some 65536 }).wf = false
      ∧ (Instr.peak .cab { noPeak with block := some 256 }).wf = false := by decide

theorem test_wf_refuses_requests :
    (Instr.aim .cab 256 none 0x00).wf = false ∧ (Instr.aim .cab 0 (some 65536) 0x00).wf = false
      ∧ (Instr.setHeading .cab (-1)).wf = false ∧ (Instr.readSite .cab 256).wf = false
      ∧ (Instr.stageSite .rack 256 site).wf = false ∧ (Instr.stageSite .rack 0 shortSite).wf = false
      ∧ (Instr.commitSite .rack 256 0).wf = false ∧ (Instr.retireSite .rack 256 none).wf = false
      ∧ (Instr.retireSite .rack 0 (some 255)).wf = false ∧ (Instr.invalidateSite .rack 256).wf = false
      ∧ (Instr.levelReport .link (-32769)).wf = false ∧ (Instr.configure .rack 0x7F 0).wf = false
      ∧ (Instr.configure .rack 0x01 32768).wf = false := by decide +kernel

theorem test_wf_refuses_events :
    (Instr.slotWriteEnd (.bad site 0xFF 0)).wf = false ∧ (Instr.slotWriteEnd (.bad shortSite 0xFF 1)).wf = false
      ∧ (Instr.powerApplied { stowed with readBack := .bad site 0xFF 0 }).wf = false
      ∧ (Instr.reset { stowed with readBack := .bad site 0xFF 0 }).wf = false
      ∧ (Instr.restart .rack { stowed with readBack := .bad site 0xFF 0 }).wf = false
      ∧ (Instr.powerLoss { wholeLoss with slotSite := shortSite }).wf = false
      ∧ (Instr.powerLoss { wholeLoss with erased := 48 }).wf = false
      ∧ (Instr.powerLoss { wholeLoss with edge := .damaged shortSite 0xFF 0 }).wf = false
      ∧ (Instr.powerLoss { wholeLoss with settings := some (SettingValues.defaults, 0) }).wf = false := by decide +kernel

/-! ### The spec's own examples -/

/-- The CRC-16 over the nine bytes 31h to 39h is 29B1h (section 9.1). -/
theorem test_crc_of_the_nine_digits : crc16 [0x31, 0x32, 0x33, 0x34, 0x35, 0x36, 0x37, 0x38, 0x39] = 0x29B1 := by
  decide +kernel

theorem test_defaults_check : settingsCheck SettingValues.defaults = defaultsCheck := by decide +kernel

/-- The reset state is what a cold start makes of a part with an empty table and the default settings (log 1). -/
theorem test_reset_is_a_cold_start :
    exec (.powerApplied stowed) (State.off Store.start.slots Settings.start.stored) = .next State.reset :=
  congrArg Host.Outcome.next (by decide +kernel)

/-- The envelope examples of section 1. -/
def envelopePose (mast pan tilt pol : Int) (latch : Bool) (roll : Int) : State :=
  (State.reset.setPose
      { State.reset.pose with
        position := { mast := mast, pan := pan, tilt := tilt, pol := pol }, latch := latch
        level := { pitch := 150, roll := roll } }).setSafe { State.reset.safe with windClass := .caution }

theorem test_envelope_of_the_mast :
    envelope (envelopePose 4000 6000 300 0 false (-220)) (some .mast) 8000 = none
      ∧ envelope (envelopePose 4000 6000 300 0 false (-220)) (some .mast) 8010 = some .wind
      ∧ envelope (envelopePose 4000 6000 300 0 true (-220)) (some .mast) 6000 = some .obstructed
      ∧ envelope (envelopePose 4000 6000 300 0 true (-650)) (some .mast) 9000 = some .wind
      ∧ envelope (envelopePose 4000 6000 300 0 false (-650)) (some .mast) 6000 = some .outOfLevel
      ∧ envelope (envelopePose 4000 6000 300 0 true (-650)) (some .mast) 2000 = none
      ∧ envelope (envelopePose 4000 6000 300 0 false (-220)) (some .mast) 1000 = some .envelope
      ∧ envelope (envelopePose 4000 3 (-998) 0 false (-220)) (some .mast) 0 = none
      ∧ envelope (envelopePose 900 3 (-998) 4500 false (-220)) (some .mast) 0 = none := by decide +kernel

theorem test_envelope_of_the_dish :
    envelope (envelopePose 1190 6000 300 0 false (-220)) (some .pan) 0 = some .envelope
      ∧ envelope (envelopePose 1190 6000 300 0 false (-220)) (some .tilt) (-1000) = some .envelope
      ∧ envelope (envelopePose 0 6000 300 0 false (-220)) (some .pol) (-4500) = none
      ∧ envelope (envelopePose 1200 6000 300 0 false (-220)) none 0 = none := by decide +kernel

/-- The wind speeds that section 5 prints. -/
theorem test_wind_speeds :
    windSpeed 32 10 = 38 ∧ windSpeed 35 10 = 42 ∧ windSpeed 55 10 = 66 ∧ windSpeed 40 25 = 19 ∧ windSpeed 400 10 = 200 := by
  decide

/-- The pan targets that section 8 prints. -/
theorem test_pan_targets :
    panTarget 21800 4500 0 = 17300 ∧ panTarget 21800 4500 (-15000) = -18700 ∧ panTarget 3150 27000 12000 = 12150
      ∧ panTarget 6000 1000 (-20000) = 5000 ∧ panTarget 1000 3000 0 = -2000 ∧ panTarget 18000 0 0 = 18000 := by decide

/-- The first twelve offsets of the spiral (R146). -/
theorem test_spiral_offsets :
    (List.range 13).map (fun i => ((spiralAt i).pan, (spiralAt i).tilt)) =
      [(0, 0), (1, 0), (1, 1), (0, 1), (-1, 1), (-1, 0), (-1, -1), (0, -1), (1, -1), (2, -1), (2, 0), (2, 1), (2, 2)] := by
  decide

/-- The first eight offsets of the raster of row length 4 (R146). -/
theorem test_raster_offsets :
    [1, 2, 3, 4, 5, 6, 7, 8].map (fun i => ((rasterOffset 4 i).pan, (rasterOffset 4 i).tilt)) =
      [(-2, -2), (-1, -2), (0, -2), (1, -2), (1, -1), (0, -1), (-1, -1), (-2, -1)] := by decide

/-- The level of 6.2 V, and the two learned bearings of section 7 (R128, R148). -/
theorem test_level_and_bearing :
    analogLevel 6200 = -380 ∧ analogLevel (-1) = -1000 ∧ analogLevel 10001 = 0 ∧ turn (-18700 + 4500) = 21800
      ∧ turn (17300 + 4500) = 21800 := by decide +kernel

/-! ### The hypotheses of the statements are met

One theorem for each statement that has hypotheses, its name ending in the statement's; each part of it is one case of the
statement, at a boundary value where the case has a range. -/

theorem forall_axis (P : Axis → Prop) : (∀ a, P a) ↔ P .mast ∧ P .pan ∧ P .tilt ∧ P .pol :=
  ⟨fun h => ⟨h _, h _, h _, h _⟩, fun ⟨h1, h2, h3, h4⟩ a => by cases a <;> assumption⟩

theorem exists_axis (P : Axis → Prop) : (∃ a, P a) ↔ P .mast ∨ P .pan ∨ P .tilt ∨ P .pol :=
  ⟨fun ⟨a, h⟩ => by cases a <;> simp [h],
    fun h => by rcases h with h | h | h | h <;> exact ⟨_, h⟩⟩

/-- The reset state with a port's interface changed. -/
def onCab (q : PortState) : State := State.reset.setPorts (State.reset.ports.set .cab q)

/-- A state in another authority state, with another holder. -/
def inState (auth : AuthState) (holder : Option Party) (s : State) : State :=
  s.setArb { s.arb with auth := auth, holder := holder }

/-- A port holds authority in HELD, its idle timer running. -/
def holding (p : Port) : State :=
  State.reset.setArb { Arbiter.start with auth := .held, holder := some (.port p), idle := some 30 }

/-- The pan axis is not at rest. -/
def restless (s : State) : State := s.setPose { s.pose with atRest := { s.pose.atRest with pan := false } }

def claimedBy (claims : List Port) (s : State) : State := s.setArb { s.arb with claims := claims }

def deferring (d : Deferral) (s : State) : State := s.setArb { s.arb with deferred := some d }

/-- A pose with the mast up and the dish away from its parked place. -/
def raised (s : State) : State :=
  s.setPose
    { s.pose with
      counts := { mast := 4000, pan := 6000, tilt := 300, pol := 0 }
      position := { mast := 4000, pan := 6000, tilt := 300, pol := 0 }, lamp := false }

def pole (tag : Nat) (group : Option Nat) : Entry :=
  { tag := tag, group := group, motion := .moveTo .pol 500, rate := .normal, origin := .port .cab, purpose := .plain,
    slot := none, target := some 500 }

/-- An entry that runs, its polarisation axis driving, or suspended. -/
def runs (execution : Execution) (yieldDue crankDue : Bool) : Active :=
  { execution := execution, mastClass := none, phases := (Axes.all .idle).set .pol (.driving 0), yieldDue := yieldDue,
    crankDue := crankDue }

/-- CAB's polarisation move is the active entry, and these wait behind it. -/
def moving (x : Active) (waiting : List Entry) : State :=
  ((inState .moving (some (.port .cab)) State.reset).setExe
    { Executor.start with
      queue := pole 1 none :: waiting, active := some x, nextTag := 9
      drives := Executor.start.drives.set .pol { enable := true, increasing := true, rate := .run .normal, brake := false } })

/-- CAB's polarisation move runs with nothing behind it. -/
def alone : State := moving (runs .running false false) []

theorem test_meets_StepRunsFrontCommand :
    (State.reset.setPending [.status .cab]).pending = .status .cab :: [] ∧ State.reset.pending = [] := by decide

theorem test_meets_ReceiverTakesBytes :
    State.reset.powered = true ∧ (State.reset.ports.get .cab).rx = .hunting
      ∧ (onCab { PortState.start with rx := .length }).powered = true
      ∧ ((onCab { PortState.start with rx := .length }).ports.get .cab).rx = .length
      ∧ ((onCab { PortState.start with rx := .counting 2 [] }).ports.get .cab).rx = .counting 2 []
      ∧ ((onCab { PortState.start with rx := .checking [0, 1] none }).ports.get .cab).rx = .checking [0, 1] none
      ∧ (onCab { PortState.start with rx := .checking [0, 1] (some 7) }).powered = true
      ∧ ((onCab { PortState.start with rx := .checking [0, 1] (some 7) }).ports.get .cab).rx = .checking [0, 1] (some 7) := by
  decide +kernel

theorem test_meets_FrameArrivesWhole :
    State.reset.powered = true ∧ (State.reset.ports.get .cab).rx = .hunting ∧ (State.reset.ports.get .cab).receive.length < 4
      ∧ (2 ≤ [0x7F, (0x00 : Byte)].length ∧ [0x7F, (0x00 : Byte)].length ≤ 62
        ∧ ∃ code : Byte, [0x7F, 0x00].head? = some code ∧ code.toNat < 0x80)
      ∧ (2 ≤ (List.replicate 62 (0x00 : Byte)).length ∧ (List.replicate 62 (0x00 : Byte)).length ≤ 62
        ∧ ∃ code : Byte, (List.replicate 62 0x00).head? = some code ∧ code.toNat < 0x80) := by
  refine ⟨rfl, rfl, by decide, ⟨by decide, by decide, 0x7F, rfl, by decide⟩, ⟨by decide, by decide, 0x00, rfl, by decide⟩⟩

/-- A port with a frame received, and what it sends. -/
def listed (frame : List Byte) (inHand : InHand) (output : List OutItem) (tx : Option Transmission) : PortState :=
  { PortState.start with receive := [frame], inHand := inHand, output := output, tx := tx }

def answered : OutItem := .response { code := 0xA0, status := .done, parts := [[]] }

theorem test_meets_PortListsAreServed :
    ((onCab (listed [0x02, 0x00] .nothing [] none)).powered = true
        ∧ ((onCab (listed [0x02, 0x00] .nothing [] none)).ports.get .cab).receive = (0x02 :: [0x00]) :: []
        ∧ ((onCab (listed [0x02, 0x00] .nothing [] none)).ports.get .cab).inHand = .nothing
        ∧ (∀ i, i ∈ ((onCab (listed [0x02, 0x00] .nothing [] none)).ports.get .cab).output → i.isResponse = false)
        ∧ (∀ t, ((onCab (listed [0x02, 0x00] .nothing [] none)).ports.get .cab).tx = some t → t.response = false)
        ∧ (∃ r, requestOf 0x02 [0x00] = some r) ∧ requestOf 0x7F [0x00] = none)
      ∧ ((onCab (listed [0x02, 0x00] .working [] none)).ports.get .cab).inHand ≠ .nothing
      ∧ (∃ i, i ∈ ((onCab (listed [0x02, 0x00] .nothing [answered] none)).ports.get .cab).output ∧ i.isResponse = true)
      ∧ (∃ t, ((onCab (listed [0x02, 0x00] .nothing [] (some ⟨true, [], []⟩))).ports.get .cab).tx = some t ∧ t.response = true)
      ∧ ((onCab { PortState.start with ready := false }).ports.get .cab).ready = false
      ∧ ((onCab (listed [] .nothing [] (some ⟨true, [], [[0x7E]]⟩))).ports.get .cab).tx.isSome = true
      ∧ ((onCab PortState.start).ports.get .cab).output = []
      ∧ ((State.reset.ports.get .cab).ready = true ∧ (State.reset.ports.get .cab).tx = none
        ∧ (State.reset.ports.get .cab).output = .notice (.started .cold false 0 Reasons.empty) 0 :: []
        ∧ ∃ first others, (OutItem.notice (.started .cold false 0 Reasons.empty) 0).bodies.map frameOf = first :: others)
      ∧ ((onCab (listed [] .nothing [] (some ⟨true, [], []⟩))).ports.get .cab).tx = some ⟨true, [], []⟩
      ∧ ((onCab (listed [] .nothing [] (some ⟨true, [], [[0x7E]]⟩))).ports.get .cab).tx = some ⟨true, [], [[0x7E]]⟩ := by
  refine ⟨⟨rfl, rfl, rfl, by decide, fun t h => by simp [onCab, listed, Ports.get, Ports.set] at h, ⟨.withdraw, by decide⟩,
    by decide⟩, by decide, ⟨answered, by decide, rfl⟩, ⟨⟨true, [], []⟩, rfl, rfl⟩, rfl, rfl, rfl, ⟨rfl, rfl, rfl, _, _, rfl⟩,
    rfl, rfl⟩

theorem test_meets_RequestFrameRoundTrip :
    Request.claim.wf = true ∧ (Request.queueMoves 0x00 (List.replicate 11 raise)).wf = true
      ∧ (Request.retireSite 47 (some 254)).wf = true ∧ (Request.stageSite 255 site).wf = true := by decide +kernel

theorem test_meets_NoticesMerge :
    (NoticeBody.claimRefused).kind ∉ noticeKinds [answered]
      ∧ [answered, .notice .claimRefused 255] = [answered] ++ .notice .claimRefused 255 :: []
      ∧ (NoticeBody.claimRefused).kind ∉ noticeKinds [answered]
      ∧ (NoticeBody.claimRefused).kind ∉ [2, 4, 5, 8, 10]
      ∧ (NoticeBody.started .cold false 0 Reasons.empty).kind ∉ [2, 4, 5, 8, 10]
      ∧ (NoticeBody.supplyResumed 1 .safety .plain 3).kind ∉ [2, 4, 5, 8, 10] := by decide

theorem test_meets_SetNoticesReplacesMask : takes .link (.setNotices 0) State.reset := by unfold takes; decide

theorem test_meets_ReadingRequestsAnswerDone :
    takes .cab .status State.reset ∧ takes .cab .identify State.reset ∧ takes .cab .scanResult State.reset
      ∧ takes .cab .readCache State.reset ∧ takes .cab (.readSite 47) State.reset
      ∧ State.reset.store.engine.erasing = false ∧ State.reset.scan.result = none
      ∧ (State.reset.store.slotAt 47).state = .free ∧ takes .cab (.readSite 48) State.reset := by unfold takes; decide

/-- A request brought directly changes nothing while a response is listed (R159, log 5). -/
theorem test_a_listed_response_holds_requests_back :
    exec (.status .cab) (onCab { PortState.start with output := [answered] }) =
      .next (onCab { PortState.start with output := [answered] }) := rfl

/-! ### Authority -/

theorem test_meets_ClaimInFreeOrHeld :
    (takes .cab .claim State.reset ∧ State.reset.arb.auth = .free ∧ State.reset.arb.holder = none)
      ∧ (takes .cab .claim (holding .link) ∧ (holding .link).arb.auth = .held ∧ (holding .link).arb.holder = some (.port .link)
        ∧ outranks .cab (.port .link) = true ∧ (holding .link).arb.deferred = none ∧ atRest (holding .link))
      ∧ (takes .cab .claim (restless (holding .link)) ∧ (restless (holding .link)).arb.auth = .held
        ∧ (restless (holding .link)).arb.deferred = none ∧ ¬atRest (restless (holding .link)))
      ∧ (takes .rack .claim (deferring .idle (holding .link)) ∧ (deferring .idle (holding .link)).arb.auth = .held
        ∧ outranks .rack (.port .link) = true ∧ (deferring .idle (holding .link)).arb.deferred.isSome = true)
      ∧ (takes .link .claim (holding .cab) ∧ outranks .cab (.port .link) = true) := by
  unfold takes atRest
  simp only [forall_axis]
  decide +kernel

theorem test_meets_ClaimThatJoinsNothing :
    (takes .cab .claim (holding .cab) ∧ (holding .cab).arb.auth ≠ .lockout ∧ (holding .cab).arb.auth ≠ .manual
        ∧ (holding .cab).arb.holder = some (.port .cab))
      ∧ (takes .cab .claim (inState .lockout none State.reset) ∧ claimsFit (inState .lockout none State.reset))
      ∧ takes .cab .claim (inState .manual none State.reset) := by
  unfold takes claimsFit
  refine ⟨by decide +kernel, ⟨by decide +kernel, by decide +kernel, ?_, ?_⟩, by decide +kernel⟩
  · intro p h
    simp [inState] at h
  · decide +kernel

theorem test_meets_ClaimsWaitInRankOrder :
    (takes .rack .claim alone ∧ alone.arb.auth = .moving ∧ alone.arb.holder = some (.port .cab)
        ∧ outranks .rack (.port .cab) = true ∧ alone.exe.active = some (runs .running false false)
        ∧ alone.exe.queue = pole 1 none :: [])
      ∧ (takes .rack .claim (inState .moving (some (.port .cab)) State.reset)
        ∧ (inState .moving (some (.port .cab)) State.reset).exe.active = none)
      ∧ (takes .rack .claim (inState .yielding (some (.port .cab)) State.reset) ∧ Party.port .cab ≠ .port .rack)
      ∧ takes .rack .claim (inState .manualPending (some .safety) State.reset)
      ∧ (takes .cab .claim (inState .moving (some .safety) State.reset) ∧ outranks .cab .safety = false) := by
  unfold takes
  decide +kernel

/-- The tag counter has come round: behind the active entry of group 1, tag 2, stands a new group 1, which a discard removes
(R52, R64, log 46). -/
theorem test_a_new_group_of_the_same_tag_is_discarded :
    keptByDiscard ((moving (runs .running false false) []).setExe
        { alone.exe with queue := [pole 2 (some 1), pole 1 (some 1), pole 2 (some 1)] }) = [pole 2 (some 1)]
      ∧ keptByDiscard ((moving (runs .running false false) []).setExe
        { alone.exe with queue := [pole 1 (some 1), pole 2 (some 1), pole 3 none] }) = [pole 1 (some 1), pole 2 (some 1)] := by
  decide +kernel

theorem test_meets_WithdrawRemovesTheClaim :
    (takes .cab .withdraw (claimedBy [.cab] (holding .rack)) ∧ Port.cab ∈ (claimedBy [.cab] (holding .rack)).arb.claims)
      ∧ (takes .link .withdraw (claimedBy [.cab] (holding .rack)) ∧ Port.link ∉ (claimedBy [.cab] (holding .rack)).arb.claims)
      ∧ (takes .cab .withdraw (holding .cab) ∧ claimsFit (holding .cab) ∧ (holding .cab).arb.holder = some (.port .cab)) := by
  unfold takes claimsFit
  refine ⟨by decide +kernel, by decide +kernel, by decide +kernel, ⟨by decide +kernel, ?_, by decide +kernel⟩, rfl⟩
  intro p _
  rfl

theorem test_meets_ReleaseGivesUpAuthority :
    (takes .cab .release State.reset ∧ State.reset.arb.holder ≠ some (.port .cab))
      ∧ (takes .cab .release (holding .cab) ∧ (holding .cab).arb.holder = some (.port .cab) ∧ (holding .cab).arb.auth = .held
        ∧ (holding .cab).arb.claims = [])
      ∧ (takes .cab .release (claimedBy [.link] (holding .cab))
        ∧ (claimedBy [.link] (holding .cab)).arb.claims = .link :: [] ∧ atRest (claimedBy [.link] (holding .cab)))
      ∧ (takes .cab .release (restless (claimedBy [.link] (holding .cab)))
        ∧ (restless (claimedBy [.link] (holding .cab))).arb.claims ≠ [] ∧ ¬atRest (restless (claimedBy [.link] (holding .cab))))
      ∧ (takes .cab .release alone ∧ alone.arb.auth = .moving ∧ alone.exe.active = some (runs .running false false)
        ∧ alone.exe.queue = pole 1 none :: [])
      ∧ (takes .cab .release (inState .moving (some (.port .cab)) State.reset)
        ∧ (inState .moving (some (.port .cab)) State.reset).exe.active = none)
      ∧ takes .cab .release (inState .yielding (some (.port .cab)) State.reset)
      ∧ takes .cab .release (inState .manualPending (some (.port .cab)) State.reset) := by
  unfold takes atRest
  simp only [forall_axis]
  decide +kernel

/-- CAB holds authority with a limit of 0: the idle timer does not expire. -/
def unlimited : State := (holding .cab).setArb { (holding .cab).arb with idle := some 0 }

/-- CAB's handover at a boundary, or SAFETY's, waits for rest, with these claims; the holder has released or not. -/
def waitingToHand (d : Deferral) (auth : AuthState) (h : Party) (claims : List Port) (mark : Bool) : State :=
  let s := deferring d (claimedBy claims (inState auth (some h) State.reset))
  s.setArb { s.arb with releaseMark := mark }

theorem test_meets_IdleExpiryAndDeferral :
    ((holding .cab).powered = true ∧ (holding .cab).arb.holder = some (.port .cab) ∧ (holding .cab).arb.idle = some 30
        ∧ (holding .cab).arb.auth = .held ∧ (holding .cab).arb.claims = [])
      ∧ ((claimedBy [.link] (holding .cab)).arb.claims = .link :: [] ∧ atRest (claimedBy [.link] (holding .cab)))
      ∧ ((restless (claimedBy [.link] (holding .cab))).arb.claims ≠ [] ∧ ¬atRest (restless (claimedBy [.link] (holding .cab))))
      ∧ unlimited.arb.idle = some 0
      ∧ (alone.powered = true ∧ alone.arb.auth ≠ .held ∧ alone.arb.idle = none)
      ∧ ((deferring .preempt (claimedBy [.rack] (holding .cab))).arb.auth = .held
        ∧ (deferring .preempt (claimedBy [.rack] (holding .cab))).arb.claims = .rack :: [] ∧ outranks .rack (.port .cab) = true
        ∧ (deferring .preempt (claimedBy [.rack] (holding .cab))).arb.deferred = some .preempt
        ∧ (deferring .preempt (claimedBy [.rack] (holding .cab))).arb.crankEnd = none
        ∧ (deferring .preempt (claimedBy [.rack] (holding .cab))).exe.active = none
        ∧ (deferring .preempt (claimedBy [.rack] (holding .cab))).exe.closing = none
        ∧ atRest (recordReading stowed.reading (deferring .preempt (claimedBy [.rack] (holding .cab)))))
      ∧ (∀ claims mark, claims = [.rack] ∨ claims = [] →
          (waitingToHand .yield .yielding (.port .cab) claims mark).powered = true
            ∧ (waitingToHand .yield .yielding (.port .cab) claims mark).arb.deferred = some .yield
            ∧ (waitingToHand .yield .yielding (.port .cab) claims mark).arb.claims = claims
            ∧ (waitingToHand .yield .yielding (.port .cab) claims mark).arb.releaseMark = mark
            ∧ (waitingToHand .yield .yielding (.port .cab) claims mark).arb.auth = .yielding
            ∧ (waitingToHand .yield .yielding (.port .cab) claims mark).arb.holder = some (.port .cab))
      ∧ ∀ claims, claims = [.link] ∨ claims = [] →
          (waitingToHand .safetyEnd .moving .safety claims false).arb.deferred = some .safetyEnd
            ∧ (waitingToHand .safetyEnd .moving .safety claims false).arb.holder = some .safety
            ∧ (waitingToHand .safetyEnd .moving .safety claims false).arb.auth = .moving
            ∧ (waitingToHand .safetyEnd .moving .safety claims false).arb.reasons = Reasons.empty := by
  unfold atRest
  simp only [forall_axis]
  refine ⟨by decide +kernel, by decide +kernel, by decide +kernel, by decide +kernel, by decide +kernel, by decide +kernel,
    fun claims mark _ => ⟨rfl, rfl, rfl, rfl, rfl, rfl⟩, fun claims _ => ⟨rfl, rfl, rfl, rfl⟩⟩

theorem test_meets_MotionRequestsNeedTheHolder :
    ((Instr.halt .cab).request? = some (.cab, .halt) ∧ takes .cab .halt State.reset ∧ acts .halt = true
        ∧ State.reset.arb.holder ≠ some (.port .cab))
      ∧ ((Instr.stow .cab).request? = some (.cab, .stow) ∧ takes .cab .stow (inState .yielding (some (.port .cab)) State.reset)
        ∧ submits .stow = true)
      ∧ takes .cab .stow (inState .manualPending (some (.port .cab)) State.reset)
      ∧ (takes .cab .stow (deferring .idle (holding .cab)) ∧ (deferring .idle (holding .cab)).arb.deferred.isSome = true) := by
  unfold takes
  decide +kernel

/-- A state whose reason set is this, ESTOP's line asserted or not. -/
def withReasons (r : Reasons) (estop : Bool) (s : State) : State :=
  (s.setArb { s.arb with reasons := r }).setSafe { s.safe with estop := estop }

def onlyEstop : Reasons := { Reasons.empty with estop := true }

/-- PARK is negated, with these reasons, in this authority state. -/
def unparked (r : Reasons) (auth : AuthState) : State :=
  let s := withReasons r false (inState auth none State.reset)
  s.setSafe { s.safe with park := false }

/-- A pose that cannot be stowed: the mast below the clearance and the pan axis away from its parked place. -/
def stuck (s : State) : State :=
  s.setPose
    { s.pose with
      counts := { mast := 1190, pan := 6, tilt := -1000, pol := 0 }
      position := { mast := 1190, pan := 6, tilt := -1000, pol := 0 }, lamp := false }

theorem test_meets_ClearLockoutRemovesReasons :
    takes .cab .clearLockout State.reset ∧ takes .rack .clearLockout State.reset
      ∧ State.reset.arb.reasons = Reasons.empty
      ∧ (takes .rack .clearLockout (withReasons onlyEstop true (inState .lockout none State.reset))
        ∧ onlyEstop ≠ Reasons.empty ∧ ({ onlyEstop with estop := onlyEstop.estop && true } : Reasons) = onlyEstop)
      ∧ (takes .rack .clearLockout (withReasons onlyEstop false (inState .manual none State.reset))
        ∧ (withReasons onlyEstop false (inState .manual none State.reset)).arb.auth ≠ .lockout
        ∧ ({ onlyEstop with estop := onlyEstop.estop && false } : Reasons) ≠ onlyEstop)
      ∧ (takes .rack .clearLockout (withReasons onlyEstop false (inState .lockout none State.reset))
        ∧ ({ onlyEstop with estop := onlyEstop.estop && false } : Reasons) = Reasons.empty
        ∧ (withReasons onlyEstop false (inState .lockout none State.reset)).safe.park = true)
      ∧ (takes .rack .clearLockout (unparked onlyEstop .lockout) ∧ (unparked onlyEstop .lockout).safe.park = false
        ∧ (unparked onlyEstop .lockout).arb.auth = .lockout ∧ (unparked onlyEstop .lockout).exe.queue = []
        ∧ (unparked onlyEstop .lockout).exe.active = none ∧ (unparked onlyEstop .lockout).exe.closing = none
        ∧ (unparked onlyEstop .lockout).safe.group = none ∧ poseFollows (unparked onlyEstop .lockout)
        ∧ stowAxes (unparked onlyEstop .lockout).pose.position = [])
      ∧ (poseFollows (stuck (unparked onlyEstop .lockout)) ∧ stowAxes (stuck (unparked onlyEstop .lockout)).pose.position ≠ []
        ∧ stowable (stuck (unparked onlyEstop .lockout)).pose.position (Axes.all false) = false)
      ∧ (poseFollows (raised (unparked onlyEstop .lockout)) ∧ (raised (unparked onlyEstop .lockout)).exe.supply = .available
        ∧ stowAxes (raised (unparked onlyEstop .lockout)).pose.position ≠ []
        ∧ stowable (raised (unparked onlyEstop .lockout)).pose.position (Axes.all false) = true) := by
  unfold takes poseFollows
  decide +kernel

/-! ### The queue, motion and the pose -/

/-- The polarisation axis moves by a value, to the last centidegree of its range. -/
def turnPol (value : Int) : RawMove := { kind := 0x00, axis := 0x03, value := value, rate := 0x02 }

theorem test_meets_QueueMovesIsChecked :
    (takes .cab (.queueMoves 0x00 []) (holding .cab) ∧ maySubmit .cab (holding .cab) ∧ ([] : List RawMove).length = 0)
      ∧ 8 < (List.replicate 9 raise).length
      ∧ ((0x02 : Byte) ≠ 0x00 ∧ (0x02 : Byte) ≠ 0x01)
      ∧ ([raise, { raise with rate := 0x03 }] = [raise] ++ { raise with rate := 0x03 } :: []
        ∧ [raise].all goodForm = true ∧ goodForm { raise with rate := 0x03 } = false)
      ∧ ([raise, turnPol 9001] = [raise] ++ turnPol 9001 :: [] ∧ [raise, turnPol 9001].all goodForm = true
        ∧ [raise].all valueFits = true ∧ valueFits (turnPol 9001) = false)
      ∧ (takes .cab (.queueMoves 0x00 [raise]) (moving (runs .running false false) (List.replicate 15 (pole 2 none)))
        ∧ maySubmit .cab (moving (runs .running false false) (List.replicate 15 (pole 2 none)))
        ∧ [raise].all goodForm = true ∧ [raise].all valueFits = true
        ∧ 16 < (moving (runs .running false false) (List.replicate 15 (pole 2 none))).exe.queue.length + [raise].length) := by
  unfold takes maySubmit
  decide +kernel

theorem test_meets_AcceptedMovesWaitTheirTurn :
    takes .cab (.queueMoves 0x01 (List.replicate 8 (turnPol 9000))) (moving (runs .running false false) (List.replicate 7 (pole 2 none)))
      ∧ maySubmit .cab (moving (runs .running false false) (List.replicate 7 (pole 2 none)))
      ∧ (List.replicate 8 (turnPol 9000)).all goodForm = true ∧ (List.replicate 8 (turnPol 9000)).all valueFits = true
      ∧ (moving (runs .running false false) (List.replicate 7 (pole 2 none))).exe.queue.length
          + (List.replicate 8 (turnPol 9000)).length = 16
      ∧ 1 ≤ alone.exe.nextTag ∧ alone.exe.nextTag ≤ 255 ∧ alone.exe.active.isSome = true ∧ alone.exe.closing = none := by
  unfold takes maySubmit
  decide +kernel

/-- CAB holds authority over a mechanism with the mast up, PARK asserted or not, the polarisation axis FAULTED or not. -/
def ready (park faulted : Bool) : State :=
  let s := raised (holding .cab)
  (s.setPose { s.pose with faulted := { s.pose.faulted with pol := faulted } }).setSafe { s.safe with park := park }

/-- The polarisation axis is not at rest. -/
def polUnsettled (s : State) : State := s.setPose { s.pose with atRest := { s.pose.atRest with pol := false } }

theorem test_meets_AFirstMoveStartsOrFails :
    (takes .cab (.queueMoves 0x00 [turnPol 9000]) (ready true false) ∧ (ready true false).arb.holder = some (.port .cab)
        ∧ (ready true false).arb.auth = .held ∧ (ready true false).arb.deferred = none ∧ (ready true false).exe.queue = []
        ∧ (ready true false).exe.active = none ∧ (ready true false).exe.closing = none ∧ goodForm (turnPol 9000) = true
        ∧ valueFits (turnPol 9000) = true ∧ RawMove.motion (turnPol 9000) = some (.moveTo .pol 9000)
        ∧ Rate.ofByte? (turnPol 9000).rate = some .fast ∧ (ready true false).pose.faulted.get .pol = false
        ∧ envelope (ready true false) (some .pol) 9000 = none ∧ (ready true false).safe.park = true
        ∧ (ready true false).exe.supply = .available
        ∧ within .pol ((ready true false).pose.position.get .pol) 9000 = false)
      ∧ ((ready true false).scan.scan = none ∧ (ready true true).pose.faulted.get .pol = true)
      ∧ (RawMove.motion { turnPol 9001 with kind := 0x01 } = some (.moveBy .pol (9001 - (ready true false).pose.position.get .pol))
        ∧ valueFits { turnPol 9001 with kind := 0x01 } = true ∧ inRange .pol 9001 = false)
      ∧ (inRange .mast 1190 = true ∧ envelope (ready true false) (some .mast) 1190 = some .envelope
        ∧ RawMove.motion { raise with value := 1190 } = some (.moveTo .mast 1190))
      ∧ (inRange .pol 9000 = true ∧ envelope (ready false false) (some .pol) 9000 = none ∧ (ready false false).safe.park = false)
      ∧ (passes { pole 9 none with motion := .moveTo .pol 9000 } .pol 9000 (ready true false)
        ∧ passes { pole 9 none with motion := .moveBy .pol (0 - (ready true false).pose.position.get .pol) } .pol 0 (ready true false)
        ∧ RawMove.motion (turnPol 5) = some (.moveTo .pol 5)
        ∧ within .pol ((ready true false).pose.position.get .pol) 5 = true
        ∧ (ready true false).pose.atRest.get .pol = true ∧ (polUnsettled (ready true false)).pose.atRest.get .pol = false)
      ∧ ((ready true false).setExe { (ready true false).exe with supply := .settling }).exe.supply ≠ .available := by
  unfold takes passes
  decide +kernel

theorem test_meets_EnvelopeVerdicts :
    ((15000 : Int) = (match State.reset.safe.windClass with
      | .normal => 15000
      | .caution => State.reset.settings.inForce.ceiling
      | .limit => 3000))
      ∧ (True ↔ -5 ≤ State.reset.pose.position.pan ∧ State.reset.pose.position.pan ≤ 5 ∧ -1005 ≤ State.reset.pose.position.tilt
        ∧ State.reset.pose.position.tilt ≤ -995) := by decide

/-- CAB's polarisation move runs and the axis is not at rest. -/
def turning : State := alone.setPose { alone.pose with atRest := { alone.pose.atRest with pol := false } }

def ending : Closing :=
  { axes := onlyAxis .pol, ending := { boundary := true, completed := false, halted := 1, discarded := 0 } }

/-- An ended entry of CAB's waits for its axis to come to rest. -/
def closingNow : State :=
  (inState .moving (some (.port .cab)) State.reset).setExe { Executor.start with closing := some ending }

theorem test_meets_HaltStopsTheHolder :
    (takes .cab .halt alone ∧ alone.arb.holder = some (.port .cab)
        ∧ activeIs (runs .running false false) (pole 1 none) [] alone ∧ alone.arb.auth = .moving
        ∧ restedOn (pole 1 none).motion.axes alone)
      ∧ (takes .cab .halt turning ∧ activeIs (runs .running false false) (pole 1 none) [] turning
        ∧ ¬restedOn (pole 1 none).motion.axes turning ∧ turning.arb.auth ≠ .held)
      ∧ (∀ auth claims, auth = .yielding ∨ auth = .manualPending → claims = [] ∨ claims = [Port.rack] →
          takes .cab .halt (claimedBy claims (inState auth (some (.port .cab)) alone))
            ∧ activeIs (runs .running false false) (pole 1 none) [] (claimedBy claims (inState auth (some (.port .cab)) alone))
            ∧ (claimedBy claims (inState auth (some (.port .cab)) alone)).arb.auth = auth
            ∧ (claimedBy claims (inState auth (some (.port .cab)) alone)).arb.claims = claims)
      ∧ (takes .cab .halt (holding .cab) ∧ (holding .cab).arb.holder = some (.port .cab) ∧ (holding .cab).exe.active = none
        ∧ (holding .cab).exe.closing = none ∧ (holding .cab).exe.suspension = none)
      ∧ (takes .cab .halt (polUnsettled closingNow) ∧ (polUnsettled closingNow).exe.closing = some ending
        ∧ ¬restedOn ending.axes (polUnsettled closingNow) ∧ (polUnsettled closingNow).exe.active = none) := by
  unfold takes activeIs restedOn
  simp only [forall_axis]
  refine ⟨by decide +kernel, by decide +kernel, fun _ _ _ _ => ⟨⟨rfl, .inr ⟨rfl, rfl⟩⟩, ⟨rfl, rfl, rfl⟩, rfl, rfl⟩,
    by decide +kernel, by decide +kernel⟩

/-- A state whose polarisation axis has this flag and this fault line. -/
def polFault (faulted line : Bool) (s : State) : State :=
  s.setPose
    { s.pose with
      faulted := { s.pose.faulted with pol := faulted }, faultLine := { s.pose.faultLine with pol := line } }

theorem test_meets_FaultedFlag :
    (State.reset.powered = true ∧ nothingWaits State.reset ∧ (polFault true true State.reset).pose.faultLine.get .pol = true)
      ∧ (State.reset.pose.faultLine.get .pol = false ∧ State.reset.exe.active = none ∧ State.reset.exe.closing = none)
      ∧ (nothingWaits alone ∧ activeIs (runs .running false false) (pole 1 none) [] alone
        ∧ alone.pose.faultLine.get .pan = false ∧ (pole 1 none).motion.axes.get .pan = false
        ∧ alone.pose.faultLine.get .pol = false ∧ (pole 1 none).motion.axes.get .pol = true ∧ alone.arb.auth = .moving)
      ∧ (takes .cab (.clearAxis 0x03) State.reset ∧ State.reset.arb.holder ≠ some (.port .cab))
      ∧ (takes .cab (.clearAxis 0x03) (holding .cab) ∧ (holding .cab).arb.holder = some (.port .cab)
        ∧ axisOf? 0x03 = some .pol ∧ (holding .cab).pose.faulted.get .pol = false)
      ∧ ((polFault true false (holding .cab)).pose.faulted.get .pol = true
        ∧ (polFault true false (holding .cab)).pose.faultLine.get .pol = false)
      ∧ ((polFault true true (holding .cab)).pose.faulted.get .pol = true
        ∧ (polFault true true (holding .cab)).pose.faultLine.get .pol = true) := by
  unfold takes activeIs nothingWaits
  decide +kernel

/-- CAB's mast move that raises, running. -/
def lift : Entry := { pole 1 none with motion := .moveTo .mast 6000, target := some 6000 }

def lifting : Active :=
  { runs .running false false with mastClass := some .raising, phases := (Axes.all .idle).set .mast (.driving 4000) }

def raisingNow : State := (raised alone).setExe { alone.exe with queue := [lift], active := some lifting }

theorem test_meets_ObstructionLatch :
    (State.reset.powered = true ∧ (∀ x, State.reset.exe.active = some x → x.mastClass ≠ some .raising)
        ∧ State.reset.pose.latch = false ∧ (State.reset.setPose { State.reset.pose with latch := true }).pose.latch = true)
      ∧ (activeIs lifting lift [] raisingNow ∧ lifting.mastClass = some .raising)
      ∧ (takes .cab .clearLatches (holding .cab) ∧ (holding .cab).arb.holder = some (.port .cab))
      ∧ takes .rack .clearLatches State.reset
      ∧ (takes .link .clearLatches State.reset ∧ State.reset.arb.holder ≠ some (.port .link) ∧ Port.link ≠ .rack) := by
  unfold takes activeIs
  refine ⟨⟨rfl, fun x h => by simp [State.reset, Executor.start] at h, rfl, rfl⟩, ?_⟩
  decide +kernel

/-- A reading that shows the polarisation axis at 495, within its tolerance of 500, and at rest. -/
def polArrived : Reading := { counts := { mast := 0, pan := 0, tilt := -1000, pol := 495 }, atRest := Axes.all true }

/-- SAFETY's polarisation move runs, the last of its group, in MOVING or MANUAL PENDING. -/
def safetyMoving (auth : AuthState) (group : SafetyGroup) (park : Bool) : State :=
  let s := inState auth (some .safety) alone
  (s.setExe { s.exe with queue := [{ pole 1 none with rate := .fast, origin := .safety, purpose := .stow }] }).setSafe
    { s.safe with group := some group, park := park }

/-- The alarm sounds for a mast that has been lowered since. -/
def sounding : State := State.reset.setSafe { State.reset.safe with alarmPark := true, alarm := true }

theorem test_meets_ReadingsMoveThePose :
    (State.reset.powered = true ∧ State.reset.exe.active = none ∧ State.reset.exe.closing = none ∧ nothingWaits State.reset
        ∧ State.reset.safe.alarm = false)
      ∧ (sounding.safe.alarm ≠ false ∧ (recordReading stowed.reading sounding).pose.lamp = true ∧ nothingWaits sounding)
      ∧ (alone.powered = true ∧ activeIs (runs .running false false) (pole 1 none) [] alone ∧ nothingWaits alone
        ∧ alone.arb.auth = .moving ∧ alone.arb.holder = some (.port .cab) ∧ (pole 1 none).origin = .port .cab
        ∧ (pole 1 none).motion.axis = some .pol ∧ (pole 1 none).target = some 500 ∧ alone.exe.suspension = none
        ∧ (runs .running false false).execution = .running ∧ (runs .running false false).phases.get .pol = .driving 0
        ∧ within .pol ((recordReading polArrived alone).pose.position.get .pol) 500 = true ∧ polArrived.atRest.get .pol = true)
      ∧ ({ runs .running false false with phases := (Axes.all .idle).set .pol .settling } : Active).phases.get .pol = .settling
      ∧ (∀ auth, nothingWaits (inState auth (some (.port .cab)) alone)
          ∧ activeIs (runs .running false false) (pole 1 none) [] (inState auth (some (.port .cab)) alone))
      ∧ (∀ auth group park, nothingWaits (safetyMoving auth group park)
          ∧ (safetyMoving auth group park).arb.holder = some .safety ∧ (safetyMoving auth group park).arb.auth = auth
          ∧ (safetyMoving auth group park).safe.group = some group ∧ (safetyMoving auth group park).safe.park = park)
      ∧ (activeIs (runs .running false false) (pole 1 none) [pole 2 none] (moving (runs .running false false) [pole 2 none])
        ∧ (holderPort (moving (runs .running false false) [pole 2 none])).isSome = true
        ∧ passes { pole 2 none with motion := .moveTo .pol 550 } .pol 550
          (recordReading polArrived (moving (runs .running false false) [pole 2 none]))
        ∧ within .pol ((recordReading polArrived alone).pose.position.get .pol) 550 = false
        ∧ inGroup (pole 1 (some 1)) (pole 2 (some 1)) = true) := by
  unfold activeIs nothingWaits passes
  refine ⟨by decide +kernel, by decide +kernel, by decide +kernel, by decide +kernel, fun _ => ⟨⟨rfl, rfl⟩, rfl, rfl, rfl⟩,
    fun _ _ _ => ⟨⟨rfl, rfl⟩, rfl, rfl, rfl, rfl⟩, by decide +kernel⟩

def settlingPol : Active := { runs .running false false with phases := (Axes.all .idle).set .pol .settling }

/-- The polarisation axis at 494, outside tolerance of 500, or at 495, on it, and turning. -/
def polTurning (pol : Int) : Reading :=
  { counts := { polArrived.counts with pol := pol }, atRest := { Axes.all true with pol := false } }

/-- The running move's cases of ReadingsMoveThePose: driving on, into settling, settling on, and back into driving. -/
theorem test_meets_ReadingsMoveThePose_by_a_move :
    (activeIs settlingPol (pole 1 none) [] (moving settlingPol []) ∧ nothingWaits (moving settlingPol [])
        ∧ settlingPol.execution = .running)
      ∧ (∀ pol : Int, (polTurning pol).atRest.get .pol = false)
      ∧ (within .pol ((readingTaken (polTurning 494) alone).pose.position.get .pol) 500 = false
        ∧ within .pol ((readingTaken (polTurning 495) alone).pose.position.get .pol) 500 = true)
      ∧ (phaseAfter 500 .pol (.driving 0) (readingTaken (polTurning 494) alone) = .driving 0
        ∧ phaseAfter 500 .pol (.driving 0) (readingTaken (polTurning 495) alone) = .settling
        ∧ phaseAfter 500 .pol .settling (readingTaken (polTurning 495) alone) = .settling
        ∧ phaseAfter 500 .pol .settling (readingTaken (polTurning 506) alone) = .driving 506)
      ∧ (activeIs (runs .suspended false false) (pole 1 none) [] (moving (runs .suspended false false) [])
        ∧ nothingWaits (moving (runs .suspended false false) [])) := by
  unfold activeIs nothingWaits
  refine ⟨by decide +kernel, fun _ => rfl, by decide +kernel, by decide +kernel, by decide +kernel⟩

/-- The polarisation encoder reads this many counts. -/
def counted (count : Int) (s : State) : State :=
  s.setPose
    { s.pose with
      counts := { s.pose.counts with pol := count }, position := { s.pose.position with pol := count } }

/-- SAFETY lowers the mast, which has not moved since its window began and is not at rest. -/
def lowering : State :=
  let s := raised (inState .moving (some .safety) State.reset)
  ((s.setExe
        { Executor.start with
          queue := [{ pole 1 none with motion := .moveTo .mast 3000, origin := .safety, purpose := .lower, target := some 3000 }]
          active := some { lifting with mastClass := some .lowering }, nextTag := 2 }).setSafe
      { s.safe with group := some .windLowering, windClass := .limit }).setPose
    { s.pose with atRest := { s.pose.atRest with mast := false } }

/-- A park stow of SAFETY has failed with PARK negated, and closes. -/
def stowFailing (auth : AuthState) : State :=
  let s := inState auth (some .safety) State.reset
  (s.setExe
      { Executor.start with
        closing := some { ending with ending := { ending.ending with halted := 0, failed := some .parkStow } } }).setSafe
    { s.safe with park := false }

/-- ESTOP in the closing of a failed park stow with PARK negated takes its report: STOW FAILED joins ESTOP (log 54). -/
theorem test_estop_takes_a_failed_stow :
    (after State.reset (exec .estopAsserted (polUnsettled (stowFailing .moving)))).arb.reasons
        = { Reasons.empty with estop := true, stowFailed := true }
      ∧ (after State.reset (exec .estopAsserted (polUnsettled (stowFailing .moving)))).arb.auth = .lockout := by
  decide +kernel

/-- A lowering that stalls sets the WIND cause at once, its mast not yet at rest (R94). -/
theorem test_a_failed_lowering_warns_at_once :
    (after lowering (exec (.stallWindowExpiry .mast) lowering)).safe.alarmWind = true
      ∧ (after lowering (exec (.stallWindowExpiry .mast) lowering)).safe.group = none
      ∧ (after lowering (exec (.stallWindowExpiry .mast) lowering)).exe.closing.isSome = true := by decide +kernel

theorem test_meets_StallAndRestWatches :
    (activeIs (runs .running false false) (pole 1 none) [] (counted 9 alone)
        ∧ (runs .running false false).phases.get .pol = .driving 0
        ∧ ((counted 9 alone).pose.counts.get .pol - 0).natAbs < 10)
      ∧ (activeIs (runs .running false false) (pole 1 none) [] (counted (-10) alone)
        ∧ 10 ≤ ((counted (-10) alone).pose.counts.get .pol - 0).natAbs)
      ∧ (activeIs settlingPol (pole 1 none) [] (moving settlingPol []) ∧ settlingPol.phases.get .pol = .settling
        ∧ (pole 1 none).motion.axis = some .pol ∧ (pole 1 none).target = some 500
        ∧ arrived .pol 500 (counted 494 (moving settlingPol [])) = false
        ∧ arrived .pol 500 (counted 505 (moving settlingPol [])) = true)
      ∧ ((runs .suspended false false).execution = .suspended ∧ (runs .running false false).phases.get .pan = .idle)
      ∧ (lowering.exe.closing = none ∧ lowering.safe.group = some .windLowering
        ∧ (lowering.exe.queue.map Entry.origin = [.safety] ∧ lifting.phases.get .mast = .driving 4000)
        ∧ (lowering.pose.counts.get .mast - 4000).natAbs < 10)
      ∧ (closingNow.powered = true ∧ closingNow.exe.closing = some ending ∧ ending.ending.boundary = true
        ∧ closingNow.exe.queue = [] ∧ closingNow.exe.active = none ∧ nothingWaits closingNow ∧ closingNow.arb.auth = .moving
        ∧ closingNow.arb.holder = some (.port .cab))
      ∧ (∀ auth, (inState auth (some (.port .cab)) closingNow).exe.closing = some ending
          ∧ nothingWaits (inState auth (some (.port .cab)) closingNow))
      ∧ (∀ auth, (stowFailing auth).exe.closing.isSome = true ∧ nothingWaits (stowFailing auth)
          ∧ (stowFailing auth).arb.holder = some .safety ∧ (stowFailing auth).safe.group = none
          ∧ (stowFailing auth).safe.park = false ∧ (stowFailing auth).arb.auth = auth)
      ∧ State.reset.exe.closing = none := by
  unfold activeIs nothingWaits
  refine ⟨by decide +kernel, by decide +kernel, by decide +kernel, by decide +kernel, by decide +kernel, by decide +kernel,
    fun _ => ⟨rfl, rfl, rfl⟩, fun _ => ⟨rfl, ⟨rfl, rfl⟩, rfl, rfl, rfl, rfl⟩, rfl⟩

/-! ### Supply and the crank -/

/-- CAB's polarisation move is suspended, the supply in this condition, the settle timer running or not. -/
def halted (supply : Supply) (settle : Bool) : State :=
  let s := moving (runs .suspended false false) []
  (s.setExe { s.exe with supply := supply, settle := settle, suspension := some 120 }).setSafe
    { s.safe with supplyOk := supply != .absent }

/-- The suspended move lies at 495, within tolerance of its 500, the axis not at rest. -/
def nearly : State :=
  let s := counted 495 (halted .settling true)
  s.setPose { s.pose with atRest := { s.pose.atRest with pol := false } }

/-- A restart within tolerance sets the direction and settles (R3, R74). -/
theorem test_a_restart_within_tolerance_sets_the_direction :
    (after nearly (exec (.settleTimerExpiry 7) nearly)).exe.drives.pol =
      { enable := true, increasing := true, rate := .stop, brake := false } := by decide +kernel

theorem test_meets_SupplyIsFollowed :
    ((halted .absent false).powered = true ∧ (halted .absent false).safe.supplyOk = false
        ∧ (halted .absent false).exe.supply = .absent)
      ∧ (State.reset.safe.supplyOk = true ∧ State.reset.exe.active = none ∧ State.reset.exe.settle = false)
      ∧ (activeIs (runs .suspended false false) (pole 1 none) [] (halted .settling true)
        ∧ (halted .settling true).safe.supplyOk = true ∧ (halted .settling true).exe.settle = true
        ∧ (pole 1 none).motion.axis = some .pol ∧ (pole 1 none).target = some 500
        ∧ within .pol ((halted .settling true).pose.position.get .pol) 500 = false)
      ∧ (activeIs (runs .suspended false false) (pole 1 none) [] nearly ∧ nearly.exe.settle = true
        ∧ within .pol (nearly.pose.position.get .pol) 500 = true ∧ nearly.pose.atRest.get .pol = false)
      ∧ (activeIs (runs .suspended false false) (pole 1 none) [] (counted 505 (halted .settling true))
        ∧ within .pol ((counted 505 (halted .settling true)).pose.position.get .pol) 500 = true
        ∧ (counted 505 (halted .settling true)).pose.atRest.get .pol = true)
      ∧ (activeIs (runs .running false false) (pole 1 none) [] alone ∧ alone.safe.supplyOk = true
        ∧ (runs .running false false).execution = .running ∧ alone.arb.auth ≠ .manualPending)
      ∧ ((State.reset.setExe { Executor.start with supply := .settling, settle := true }).exe.settle = true
        ∧ ∀ x, (State.reset.setExe { Executor.start with supply := .settling, settle := true }).exe.active = some x →
            x.execution = .running) := by
  unfold activeIs
  refine ⟨by decide +kernel, by decide +kernel, by decide +kernel, by decide +kernel, by decide +kernel, by decide +kernel, rfl,
    fun x h => ?_⟩
  simp [Executor.start] at h

/-- The crank holds the mechanism. -/
def cranking : State :=
  ((inState .manual none State.reset).setArb { Arbiter.start with auth := .manual, grant := true }).setSafe
    { State.reset.safe with manualReq := true }

/-- The crank waits for CAB's running move. -/
def crankWaits : State :=
  let s := moving (runs .running false true) []
  (inState .manualPending (some (.port .cab)) s).setSafe { s.safe with manualReq := true }

/-- A failure in MANUAL PENDING reports its discards in SEGMENT FAILED alone (R61). -/
theorem test_a_failure_before_the_crank_counts_once :
    let s := (inState .manualPending (some (.port .cab)) (moving (runs .running false true) [pole 2 (some 1)]))
    let t := after s (exec (.faultLineAsserted .pol) s)
    noticeOf 5 t.ports.cab.output = some (.segmentFailed 1 (some .pol) .plain none .driveFault 1 1)
      ∧ noticeOf 2 t.ports.cab.output = some (.authority .lost (some .manual) 0 0)
      ∧ t.arb.auth = .manual := by decide

theorem test_meets_CrankIsGranted :
    (State.reset.powered = true ∧ State.reset.safe.manualReq = false ∧ State.reset.arb.auth = .free)
      ∧ ((holding .cab).arb.auth = .held ∧ (holding .cab).arb.holder = some (.port .cab)
        ∧ (holding .cab).arb.releaseMark = false)
      ∧ (inState .lockout none State.reset).arb.auth = .lockout
      ∧ ((deferring .yield (inState .yielding (some (.port .cab)) State.reset)).arb.auth = .yielding
        ∧ (deferring .yield (inState .yielding (some (.port .cab)) State.reset)).arb.deferred.isSome = true)
      ∧ (inState .manual none State.reset).arb.auth = .manual
      ∧ (activeIs (runs .running false false) (pole 1 none) [] alone ∧ alone.arb.holder = some (.port .cab)
        ∧ alone.arb.deferred = none ∧ alone.safe.manualReq = false ∧ alone.arb.auth = .moving)
      ∧ (activeIs (runs .suspended false false) (pole 1 none) [] (halted .absent false)
        ∧ (halted .absent false).safe.manualReq = false ∧ (halted .absent false).arb.auth = .moving
        ∧ (halted .absent false).arb.releaseMark = false)
      ∧ (activeIs (runs .running false true) (pole 1 none) [] crankWaits ∧ crankWaits.safe.supplyOk = true
        ∧ crankWaits.arb.auth = .manualPending ∧ crankWaits.arb.holder = some (.port .cab))
      ∧ (lowering.arb.auth = .moving ∧ lowering.arb.deferred = none ∧ lowering.arb.holder = some .safety
        ∧ lowering.safe.manualReq = false ∧ lowering.exe.active.map Active.execution = some .running
        ∧ lowering.exe.closing = none ∧ lowering.safe.group = some .windLowering ∧ lowering.safe.supplyOk = true)
      ∧ (closingNow.exe.active = none ∧ closingNow.arb.holder = some (.port .cab) ∧ closingNow.safe.manualReq = false
        ∧ closingNow.arb.deferred = none)
      ∧ ((stowFailing .moving).exe.active = none ∧ (stowFailing .moving).arb.holder = some .safety
        ∧ (stowFailing .moving).arb.deferred = none) := by
  unfold activeIs
  decide +kernel

/-- The crank holds the mechanism, PARK being negated. -/
def unparkedCrank (s : State) : State :=
  (s.setArb cranking.arb).setSafe { cranking.safe with park := false }

def onlyBlocked : Reasons := { Reasons.empty with stowBlocked := true }

/-- The crank waits for a wind lowering of SAFETY. -/
def crankWaitsForSafety : State :=
  (inState .manualPending (some .safety) lowering).setSafe { lowering.safe with manualReq := true }

/-- A withdrawn crank sets a scan's yield due mark in YIELDING; in MOVING a clear mark stays clear, and one set before is the
free value's (R82, R151, log 23). -/
theorem test_a_withdrawal_tells_the_scan :
    let marked (mark : Bool) (claims : List Port) : State :=
      claimedBy claims (crankWaits.setExe { crankWaits.exe with active := some (runs .running mark true) })
    let left (mark : Bool) (claims : List Port) : Option Active :=
      (after (marked mark claims) (exec (.manualReqNegated stowed.reading) (marked mark claims))).exe.active
    left false [.rack] = some (runs .running true false) ∧ left true [.rack] = some (runs .running true false)
      ∧ left false [] = some (runs .running false false)
      ∧ left true [] = some (runs .running Config.yieldMarkOutlives false) := ⟨rfl, rfl, rfl, rfl⟩

/-- The key has been turned back, and the end of the crank waits for rest. -/
def crankEnding : State := cranking.setArb { cranking.arb with grant := false, crankEnd := some (positionsOf stowed.reading.counts) }

theorem test_meets_CrankEnds :
    (cranking.powered = true ∧ endsCrank (.manualReqNegated stowed.reading) stowed.reading (positionsOf stowed.reading.counts) cranking
        ∧ cranking.safe.park = true ∧ cranking.arb.reasons = Reasons.empty ∧ cranking.arb.claims = [])
      ∧ (endsCrank (.poseReading stowed.reading) stowed.reading (positionsOf stowed.reading.counts) crankEnding
        ∧ crankEnding.safe.park = true ∧ crankEnding.arb.reasons = Reasons.empty)
      ∧ ((claimedBy [.rack] cranking).arb.reasons = Reasons.empty ∧ (claimedBy [.rack] cranking).arb.claims = .rack :: [])
      ∧ (withReasons onlyEstop true cranking).arb.reasons ≠ Reasons.empty
      ∧ (nothingWaits cranking
        ∧ ∃ a : Axis, ({ stowed.reading with atRest := { stowed.reading.atRest with pan := false } } : Reading).atRest.get a = false
          ∧ cranking.pose.faulted.get a = false)
      ∧ (crankWaits.powered = true ∧ crankWaits.safe.manualReq = true ∧ crankWaits.arb.auth = .manualPending
        ∧ crankWaits.arb.holder = some (.port .cab)
        ∧ ∀ q, Party.port .cab = .port q →
            crankWaits.arb.releaseMark = false ∧ ∀ c, c ∈ crankWaits.arb.claims → outranks c (.port q) = false)
      ∧ (∃ c, c ∈ (claimedBy [.rack] crankWaits).arb.claims ∧ outranks c (.port .cab) = true)
      ∧ (crankWaitsForSafety.safe.manualReq = true ∧ crankWaitsForSafety.arb.auth = .manualPending
        ∧ crankWaitsForSafety.arb.holder = some .safety ∧ ∀ q : Port, Party.safety ≠ .port q) := by
  unfold nothingWaits endsCrank
  simp only [forall_axis, exists_axis]
  refine ⟨⟨rfl, ⟨rfl, rfl, rfl, rfl, by decide +kernel, .inl ⟨trivial, rfl, rfl, trivial⟩⟩, rfl, rfl, rfl⟩,
    ⟨⟨rfl, rfl, rfl, rfl, by decide +kernel, .inr ⟨trivial, rfl, rfl⟩⟩, rfl, rfl⟩, by decide +kernel, by decide +kernel,
    by decide +kernel, ⟨rfl, rfl, rfl, rfl, fun q h => ?_⟩, ⟨.rack, by decide +kernel, by decide +kernel⟩,
    ⟨rfl, rfl, rfl, fun _ h => nomatch h⟩⟩
  cases h
  decide +kernel

/-- The cases of CrankEnds with PARK negated: no reason, with the three outcomes of the park rule, STOW BLOCKED, and ESTOP. -/
theorem test_meets_CrankEnds_with_park_negated :
    (∀ reasons, endsCrank (.manualReqNegated polArrived) polArrived (positionsOf polArrived.counts)
        (withReasons reasons false (unparkedCrank State.reset)))
      ∧ ((unparkedCrank State.reset).powered = true ∧ (unparkedCrank State.reset).safe.park = false
        ∧ (unparkedCrank State.reset).exe.queue = [] ∧ (unparkedCrank State.reset).safe.group = none
        ∧ (unparkedCrank State.reset).arb.holder = none ∧ (unparkedCrank State.reset).arb.reasons = Reasons.empty
        ∧ (unparkedCrank State.reset).exe.supply = .available)
      ∧ (stowAxes (positionsOf stowed.reading.counts) = [] ∧ stowAxes (positionsOf polArrived.counts) = [.pol]
        ∧ stowable (positionsOf polArrived.counts) (unparkedCrank State.reset).pose.faulted = true
        ∧ stowable (positionsOf polArrived.counts) (unparkedCrank (polFault true false State.reset)).pose.faulted = false)
      ∧ ((withReasons onlyBlocked false (unparkedCrank State.reset)).arb.reasons = onlyBlocked
        ∧ (withReasons onlyEstop true (unparkedCrank State.reset)).arb.reasons ≠ Reasons.empty) := by
  unfold endsCrank
  simp only [forall_axis]
  refine ⟨fun _ => ⟨rfl, rfl, rfl, rfl, ⟨.inl rfl, .inl rfl, .inl rfl, .inl rfl⟩, .inl ⟨trivial, rfl, rfl, trivial⟩⟩, ?_⟩
  decide +kernel

/-- The STOW BLOCKED of an end of the crank: it leaves the set where the pose read is stowable, and SAFETY stows; it stays, with
LOCKOUT, where an axis needed is FAULTED (R85, R96). -/
theorem test_the_end_of_a_crank_judges_stow_blocked :
    let crank (faulted : Bool) : State := withReasons onlyBlocked false (unparkedCrank (polFault faulted false State.reset))
    let ended (faulted : Bool) : State := after (crank faulted) (exec (.manualReqNegated polArrived) (crank faulted))
    (ended false).arb.auth = .moving ∧ (ended false).arb.reasons = Reasons.empty ∧ (ended false).safe.group = some .parkStow
      ∧ (ended true).arb.auth = .lockout ∧ (ended true).arb.reasons = onlyBlocked := by decide +kernel

/-! ### Safety -/

theorem test_meets_EstopLocksOut :
    (State.reset.powered = true ∧ State.reset.safe.estop = false ∧ State.reset.arb.reasons.estop = false
        ∧ State.reset.safe.group = none ∧ State.reset.arb.auth ≠ .manual ∧ State.reset.arb.auth ≠ .manualPending)
      ∧ (State.reset.setSafe { State.reset.safe with estop := true }).safe.estop = true
      ∧ (crankWaits.safe.estop = false ∧ crankWaits.arb.auth = .manualPending)
      ∧ (alone.safe.estop = false ∧ alone.arb.reasons.estop = false ∧ alone.arb.holder = some (.port .cab)
        ∧ alone.arb.auth = .moving ∧ activeIs (runs .running false false) (pole 1 none) [] alone)
      ∧ (cranking.safe.estop = false ∧ cranking.arb.auth = .manual)
      ∧ ((withReasons onlyEstop false (inState .lockout none State.reset)).safe.estop = false
        ∧ (withReasons onlyEstop false (inState .lockout none State.reset)).arb.reasons.estop = true)
      ∧ (lowering.safe.estop = false ∧ lowering.arb.auth = .moving ∧ lowering.safe.group = some .windLowering
        ∧ lowering.safe.alarm = false)
      ∧ ((stowFailing .moving).safe.estop = false ∧ closingFailed (stowFailing .moving) = some .parkStow
        ∧ (stowFailing .moving).safe.park = false) := by
  unfold activeIs
  decide +kernel

/-- SAFETY lowers the mast from a pose, in an authority state. -/
def loweringAt (pose : State → State) (auth : AuthState) : State := pose (inState auth (some .safety) lowering)

/-- A pose with nothing to stow. -/
def parked (s : State) : State := s.setPose State.reset.pose

theorem test_meets_ParkNegationActs :
    (State.reset.powered = true ∧ State.reset.exe.queue = [] ∧ State.reset.exe.active = none ∧ State.reset.exe.closing = none
        ∧ State.reset.exe.suspension = none ∧ State.reset.safe.group = none ∧ State.reset.arb.auth = .free
        ∧ State.reset.arb.holder = none ∧ State.reset.safe.park = true ∧ stowAxes State.reset.pose.position = []
        ∧ State.reset.arb.reasons = Reasons.empty)
      ∧ (State.reset.setSafe { State.reset.safe with park := false }).safe.park = false
      ∧ (∀ auth, auth = .held ∨ auth = .moving ∨ auth = .yielding ∨ auth = .manualPending →
          (inState auth (some (.port .cab)) alone).arb.auth = auth
            ∧ (holderPort (inState auth (some (.port .cab)) alone)).isSome = true
            ∧ closingFailed (inState auth (some (.port .cab)) alone) = none)
      ∧ (outputsFollow State.reset ∧ outputsFollow (stuck State.reset) ∧ outputsFollow (raised alone))
      ∧ (stowAxes (stuck State.reset).pose.position ≠ []
        ∧ stowable (stuck State.reset).pose.position (stuck State.reset).pose.faulted = false)
      ∧ (stowAxes (raised alone).pose.position = .tilt :: [.pan, .mast]
        ∧ stowable (raised alone).pose.position (raised alone).pose.faulted = true ∧ (raised alone).exe.supply = .available
        ∧ (raised alone).pose.lamp = false ∧ (raised alone).safe.alarm = false)
      ∧ (outputsFollow (loweringAt parked .moving) ∧ outputsFollow (loweringAt stuck .manualPending)
        ∧ outputsFollow (loweringAt raised .moving) ∧ (loweringAt raised .moving).safe.group = some .windLowering
        ∧ (loweringAt raised .moving).arb.holder = some .safety ∧ closingFailed (loweringAt raised .moving) = none)
      ∧ ((safetyMoving .moving .parkStow true).safe.group = some .parkStow
        ∧ closingFailed (stowFailing .manualPending) = some .parkStow)
      ∧ (outputsFollow cranking ∧ cranking.safe.park = true ∧ cranking.arb.auth = .manual)
      ∧ (outputsFollow (inState .lockout none State.reset) ∧ (inState .lockout none State.reset).safe.group = none
        ∧ closingFailed (inState .lockout none State.reset) = none) := by
  unfold outputsFollow poseFollows lampFollows alarmFollows stopHolds grantFollows
  refine ⟨by decide +kernel, by decide +kernel, fun _ _ => ⟨rfl, rfl, rfl⟩, ⟨?_, ?_, ?_⟩, ?_, ?_, ⟨?_, ?_, ?_, ?_⟩, ?_,
    ⟨?_, ?_⟩, ?_, ?_⟩ <;>
  decide +kernel

theorem test_meets_ParkAssertionRemovesReasons :
    (State.reset.powered = true ∧ State.reset.safe.park = true)
      ∧ ((unparked { Reasons.empty with interlock := true } .lockout).safe.park = false
        ∧ Reasons.empty = { (unparked { Reasons.empty with interlock := true } .lockout).arb.reasons with
            interlock := false, stowBlocked := false, stowFailed := false }
        ∧ Reasons.empty ≠ (unparked { Reasons.empty with interlock := true } .lockout).arb.reasons
        ∧ (unparked { Reasons.empty with interlock := true } .lockout).safe.alarm =
            (unparked { Reasons.empty with interlock := true } .lockout).safe.alarmWind)
      ∧ (sounding.safe.alarm ≠ sounding.safe.alarmWind
        ∧ (sounding.setSafe { sounding.safe with park := false }).safe.park = false) := by decide +kernel

theorem test_meets_WindClassRule :
    State.reset.powered = true ∧ (65 : Nat) ≤ 65 ∧ ((40 : Nat) ≤ 64 ∧ 64 ≤ 64) ∧ (39 : Nat) < 40 ∧ ((32 : Nat) ≤ 32 ∧ 32 ≤ 64)
      ∧ ((31 : Nat) < 32 ∧ 28 + 1 < 30) ∧ ((31 : Nat) < 32 ∧ 30 ≤ 29 + 1) ∧ (55 : Nat) ≤ 55 ∧ ((54 : Nat) < 55 ∧ 58 + 1 < 60)
      ∧ ((54 : Nat) < 55 ∧ 60 ≤ 59 + 1) := by decide

/-- A gale: 55 pulses in the 3 s, a speed of 66 km/h. -/
def gale (s : State) : State := s.setSafe { s.safe with pulses := { current := 55, last := 0, beforeLast := 0 } }

/-- The class is LIMIT, the alarm sounds for the wind, and one more calm sample ends the class. -/
def easing : State :=
  State.reset.setSafe { State.reset.safe with windClass := .limit, ease := 59, alarmWind := true, alarm := true }

/-- CAB's polarisation move runs with the mast at a height, in an authority state, under SAFETY or CAB, in a gale. -/
def galeAt (mast : Int) (auth : AuthState) : State :=
  let s := raised (inState auth (some (.port .cab)) alone)
  gale (s.setPose
    { s.pose with counts := { s.pose.counts with mast := mast }, position := { s.pose.position with mast := mast } })

/-- Entry into LIMIT: from 3,001 to 3,010 mm, in MANUAL PENDING, with the mast FAULTED or the supply absent, and over a park
stow. -/
theorem test_meets_WindIsSampled_in_a_gale :
    (∀ mast auth, (galeAt mast auth).powered = true ∧ (galeAt mast auth).safe.windClass ≠ .limit
        ∧ (galeAt mast auth).pose.position.mast = mast ∧ (galeAt mast auth).arb.auth = auth
        ∧ (galeAt mast auth).safe.group = none ∧ closingFailed (galeAt mast auth) = none
        ∧ (galeAt mast auth).pose.faulted.mast = false ∧ (galeAt mast auth).exe.supply = .available
        ∧ (galeAt mast auth).pose.atRest.mast = true
        ∧ ∀ p : Port, (galeAt mast auth).arb.holder = some (.port p) → p ∉ (galeAt mast auth).arb.claims)
      ∧ 65 ≤ windSpeed ((galeAt 3001 .moving).safe.pulses.current + (galeAt 3001 .moving).safe.pulses.last
          + (galeAt 3001 .moving).safe.pulses.beforeLast) (galeAt 3001 .moving).settings.inForce.pulses.toNat
      ∧ ((gale (raised (safetyMoving .moving .parkStow true))).safe.group = some .parkStow
        ∧ 3000 < (gale (raised (safetyMoving .moving .parkStow true))).pose.position.mast)
      ∧ closingFailed (gale (raised (stowFailing .manualPending))) = some .parkStow := by
  refine ⟨fun _ _ => ⟨rfl, fun h => (nomatch h), rfl, rfl, rfl, rfl, rfl, rfl, rfl, fun _ _ h => (nomatch h)⟩, ?_⟩
  decide +kernel

/-- At 3,010 mm and at rest the lowering completes at once, and authority is given back; at 3,011 mm the mast is driven. -/
theorem test_a_lowering_within_tolerance_completes :
    (after (galeAt 3010 .moving) (exec .windSample (galeAt 3010 .moving))).arb.auth = .free
      ∧ (after (galeAt 3011 .moving) (exec .windSample (galeAt 3011 .moving))).arb.holder = some .safety
      ∧ (after (galeAt 3010 .manualPending) (exec .windSample (galeAt 3010 .manualPending))).arb.auth = .manual := by
  decide +kernel

theorem test_meets_WindIsSampled :
    (State.reset.powered = true
        ∧ (classRule ⟨State.reset.safe.windClass, 0, 0⟩ (windSpeed 0 10)).windClass = State.reset.safe.windClass)
      ∧ ((classRule ⟨(gale State.reset).safe.windClass, 0, 0⟩ (windSpeed 55 10)).windClass ≠ (gale State.reset).safe.windClass
        ∧ (gale State.reset).pose.position.mast ≤ 3000)
      ∧ (0 < 1 ∧ windSpeed 32 10 < 200 ∧ windSpeed 400 10 = 200)
      ∧ ((gale (raised alone)).powered = true ∧ (gale (raised alone)).safe.windClass ≠ .limit
        ∧ 65 ≤ windSpeed ((gale (raised alone)).safe.pulses.current + (gale (raised alone)).safe.pulses.last
            + (gale (raised alone)).safe.pulses.beforeLast) (gale (raised alone)).settings.inForce.pulses.toNat
        ∧ 3010 < (gale (raised alone)).pose.position.mast ∧ (gale (raised alone)).safe.group = none
        ∧ (gale (raised alone)).arb.auth = .moving ∧ (gale (raised alone)).pose.faulted.mast = false
        ∧ (gale (raised alone)).exe.supply = .available ∧ (gale (raised alone)).arb.holder = some (.port .cab)
        ∧ activeIs (runs .running false false) (pole 1 none) [] (gale (raised alone)))
      ∧ (gale (raised alone)).exe.closing = none
      ∧ ((gale (raised cranking)).arb.auth = .manual ∧ (gale (raised cranking)).safe.group = none
        ∧ (gale (raised cranking)).safe.alarm = false)
      ∧ (easing.safe.windClass = .limit ∧ easing.safe.alarm ≠ easing.safe.alarmPark
        ∧ (classRule ⟨easing.safe.windClass, easing.safe.calm, easing.safe.ease⟩ (windSpeed 0 10)).windClass = .caution) := by
  unfold activeIs
  decide +kernel

/-! ### Aiming and peaking -/

theorem of_none {α : Type} {o : Option α} (P : α → Prop) (h : o = none) : ∀ x, o = some x → P x := by simp [h]

theorem of_some {α : Type} {o : Option α} {y : α} (P : α → Prop) (h : o = some y) (hy : P y) : ∀ x, o = some x → P x := by
  intro x hx
  rw [h] at hx
  exact Option.some.inj hx ▸ hy

/-- PEAK with no slot and the three parameters that it must then carry. -/
def peaking : PeakParams := { noPeak with pattern := some (0x00, 0), stepSize := some 5, steps := some 4 }

theorem peaking_fits : peakFits peaking := by simp [peakFits, peaking, noPeak]

/-- PEAK of a slot and nothing else. -/
def peakOfSlot (n : Nat) : PeakParams := { noPeak with slot := some n }

theorem peakOfSlot_fits : peakFits (peakOfSlot 47) := by simp [peakFits, peakOfSlot, noPeak]

theorem test_meets_AimAndPeakAreChecked :
    (takes .cab (.setHeading 35999) State.reset ∧ (0 : Int) ≤ 35999 ∧ (35999 : Int) < 36000 ∧ takes .cab (.setHeading (-1)) State.reset)
      ∧ (takes .cab (.aim 48 (some 36000) 0x02) (holding .cab) ∧ maySubmit .cab (holding .cab) ∧ 2 < (0x03 : Byte).toNat
        ∧ (0x02 : Byte).toNat ≤ 2 ∧ 47 < 48 ∧ 47 ≤ 47 ∧ (35999 : Int) < 36000)
      ∧ (takes .cab (.peak { peaking with pattern := some (0x02, 0) }) (holding .cab) ∧ (0x02 : Byte) ≠ 0x00 ∧ (0x02 : Byte) ≠ 0x01)
      ∧ takes .cab (.peak { peaking with source := some 0x02 }) (holding .cab)
      ∧ (noPeak.slot = none ∧ noPeak.pattern = none)
      ∧ ({ peaking with stepSize := none } : PeakParams).pattern.isSome = true
      ∧ ({ peaking with steps := none } : PeakParams).stepSize.isSome = true
      ∧ (peakOfSlot 48).slot = some 48
      ∧ ((peakOfSlot 47).slot.isSome = true ∧ ¬peakFits { peakOfSlot 47 with block := some 33 })
      ∧ (peakParamFits { peakOfSlot 47 with dwell := some 99, block := some 33 } 6 = false
        ∧ ∀ j, j < 6 → peakParamFits { peakOfSlot 47 with dwell := some 99, block := some 33 } j = true)
      ∧ (peaking.pattern.isSome = true ∧ peaking.stepSize.isSome = true ∧ peaking.steps.isSome = true
        ∧ ¬peakFits { peaking with stepSize := some 4 }) := by
  refine ⟨by unfold takes; decide +kernel, by unfold takes maySubmit; decide +kernel, by unfold takes; decide +kernel,
    by unfold takes; decide +kernel, by decide, by decide, by decide, by decide, ⟨by decide, fun h => ?_⟩,
    ⟨by decide, by decide⟩, by decide, by decide, by decide, fun h => ?_⟩
  · exact absurd (h.2.2.2.2.2.2.2 33 rfl) (by decide)
  · exact absurd (h.2.2.2.2.1 4 rfl).1 (by decide)

def recorded (redirection : Byte) : Contents :=
  { site := site, redirection := redirection, check := recordCheck site redirection }

/-- Slot 47 in this state, with these contents. -/
def slotted (state : SlotState) (contents : Option Contents) (engine : Engine) (s : State) : State :=
  s.setStore
    { s.store with
      slots := s.store.slots.set 47 { state := state, recorded := .committed, contents := contents }, engine := engine }

/-- CAB holds authority and slot 47 is COMMITTED. -/
def committedAt : State := slotted .committed (some (recorded 0xFF)) .idle (holding .cab)

/-- READ SITE of a slot that is not FREE, and during an erase. -/
theorem test_meets_ReadingRequestsAnswerDone_of_a_record :
    (takes .cab (.readSite 47) committedAt ∧ committedAt.store.engine.erasing = false
        ∧ (committedAt.store.slotAt 47).state ≠ .free ∧ (committedAt.store.slotAt 47).contents = some (recorded 0xFF))
      ∧ (takes .cab (.readSite 47) (slotted .free none (.erase .rack 1) State.reset)
        ∧ (slotted .free none (.erase .rack 1) State.reset).store.engine = .erase .rack 1) := by
  unfold takes
  decide +kernel

theorem test_meets_SlotsThatCannotBeAimedAt :
    (takes .cab (.aim 47 (some 0) 0x00) (holding .cab) ∧ maySubmit .cab (holding .cab) ∧ (0x00 : Byte).toNat ≤ 2
        ∧ (∀ v, some 0 = some v → (0 : Int) ≤ v ∧ v ≤ 35999))
      ∧ (takes .cab (.peak (peakOfSlot 47)) (holding .cab) ∧ peakFits (peakOfSlot 47) ∧ (peakOfSlot 47).slot = some 47)
      ∧ (slotted .free none (.erase .rack 1) (holding .cab)).store.engine = .erase .rack 1
      ∧ ((holding .cab).store.engine.erasing = false ∧ ((holding .cab).store.slotAt 47).state = .free)
      ∧ (((slotted .writing (some (recorded 0xFF)) (.commit 47 .rack) (holding .cab)).store.slotAt 47).state = .writing
        ∧ (slotted .writing (some (recorded 0xFF)) (.commit 47 .rack) (holding .cab)).store.engine ≠ .idle)
      ∧ ((slotted .damaged (some (recorded 0xFF)) .idle (holding .cab)).store.slotAt 47).state = .damaged
      ∧ (((slotted .retired (some (recorded 0x2F)) .idle (holding .cab)).store.slotAt 47).state = .retired
        ∧ ((slotted .retired (some (recorded 0x2F)) .idle (holding .cab)).store.slotAt 47).contents = some (recorded 0x2F))
      ∧ ((committedAt.store.slotAt 47).state = .committed ∧ (committedAt.store.slotAt 47).contents = some (recorded 0xFF)
        ∧ committedAt.heading = none) := by
  refine ⟨⟨by unfold takes; decide +kernel, by unfold maySubmit; decide +kernel, by decide, ?_⟩,
    ⟨by unfold takes; decide +kernel, peakOfSlot_fits, rfl⟩, ?_⟩
  · exact of_some _ rfl (by decide)
  · decide +kernel

theorem test_meets_PanTargetIsTheNearerCandidate :
    ((9000 : Int) = (9000 - 0) % 36000 ∧ -27000 ≤ (9000 : Int) - 36000 ∧ (9000 : Int) ≤ 27000
        ∧ ((9000 : Int) - 36000 - (-27000)).natAbs < ((9000 : Int) - (-27000)).natAbs)
      ∧ ((18000 : Int) = (18000 - 0) % 36000 ∧ ((18000 : Int) - 0).natAbs ≤ ((18000 : Int) - 36000 - 0).natAbs) := by decide

/-- CAB's move runs with these behind it, slot 47 being COMMITTED. -/
def busyWith (waiting : List Entry) : State :=
  slotted .committed (some (recorded 0xFF)) .idle (moving (runs .running false false) waiting)

/-- The cache holds slot 47. -/
def cachedAt (s : State) : State :=
  s.setCache
    { entries := [{ slot := 47, bearing := 21800, elevation := 250, polarisation := 0, height := 8000, peak := -380 }]
      reference := some { pitch := 0, roll := 0 } }

/-- Every axis stands where an AIM of slot 47 with heading 0 would take it. -/
def onTarget (s : State) : State :=
  s.setPose
    { s.pose with
      counts := { mast := 9500, pan := -14200, tilt := 250, pol := 0 }
      position := { mast := 9500, pan := -14200, tilt := 250, pol := 0 }, lamp := false }

theorem test_meets_AimQueuesItsGroup :
    (takes .cab (.aim 47 (some 35999) 0x02) (busyWith []) ∧ maySubmit .cab (busyWith []) ∧ (0x02 : Byte).toNat ≤ 2
        ∧ (∀ v, some 35999 = some v → (0 : Int) ≤ v ∧ v ≤ 35999) ∧ (busyWith []).store.engine.erasing = false
        ∧ ((busyWith []).store.slotAt 47).state = .committed ∧ ((busyWith []).store.slotAt 47).contents = some (recorded 0xFF)
        ∧ (some 35999).or (busyWith []).heading = some 35999 ∧ (busyWith []).exe.active.isSome = true
        ∧ (busyWith []).exe.closing = none ∧ (busyWith []).cache.entries.find? (fun e => e.slot == 47) = none)
      ∧ ((cachedAt (busyWith [])).cache.entries.find? (fun e => e.slot == 47)).isSome = true
      ∧ ((takes .cab (.aim 47 (some 0) 0x02) (raised committedAt) ∧ maySubmit .cab (raised committedAt)
          ∧ idlesInHeld (raised committedAt) ∧ mayDrive .mast 9500 (raised committedAt))
        ∧ within .pan (onTarget committedAt).pose.position.pan (-14200) = true
        ∧ (onTarget committedAt).pose.position.mast = 9500 ∧ within .tilt (onTarget committedAt).pose.position.tilt 250 = true
        ∧ panTarget 21800 0 (onTarget committedAt).pose.position.pan = -14200 ∧ idlesInHeld (onTarget committedAt)
        ∧ (onTarget committedAt).pose.faulted.pan = false ∧ (onTarget committedAt).pose.faulted.tilt = false
        ∧ (onTarget committedAt).safe.park = true ∧ (onTarget committedAt).exe.supply = .available
        ∧ windCeiling (onTarget committedAt) = 15000)
      ∧ (maySubmit .cab (busyWith (List.replicate 15 (pole 2 none)))
        ∧ (busyWith (List.replicate 15 (pole 2 none))).exe.queue.length = 16) := by
  unfold takes maySubmit idlesInHeld mayDrive
  refine ⟨⟨by decide +kernel, by decide +kernel, by decide, of_some _ rfl (by decide), ?_⟩,
    by decide +kernel, by decide +kernel, by decide +kernel, by decide +kernel⟩
  decide +kernel

/-- CAB's move runs with these behind it, the mast up and the dish away from its parked place. -/
def aloft (waiting : List Entry) : State := raised (moving (runs .running false false) waiting)

theorem test_meets_StowQueuesItsGroup :
    (takes .cab .stow (stuck (holding .cab)) ∧ maySubmit .cab (stuck (holding .cab))
        ∧ (stuck (holding .cab)).pose.position.mast < 1200 ∧ Axis.pan ∈ stowAxes (stuck (holding .cab)).pose.position)
      ∧ (stowAxes (polFault true false (raised (counted 11 (holding .cab)))).pose.position = [] ++ .tilt :: [.pan, .mast]
        ∧ 1200 ≤ (raised (holding .cab)).pose.position.mast)
      ∧ ((aloft []).pose.faulted.get .tilt = false
        ∧ ((aloft []).setPose { (aloft []).pose with faulted := (Axes.all false).set .tilt true }).pose.faulted.get .tilt = true)
      ∧ (takes .cab .stow (holding .cab) ∧ stowAxes (holding .cab).pose.position = []
        ∧ Axis.pan ∉ stowAxes (holding .cab).pose.position ∧ Axis.tilt ∉ stowAxes (holding .cab).pose.position)
      ∧ (takes .cab .stow (aloft []) ∧ maySubmit .cab (aloft []) ∧ stowAxes (aloft []).pose.position ≠ []
        ∧ (∀ b, b ∈ stowAxes (aloft []).pose.position → (aloft []).pose.faulted.get b = false)
        ∧ (aloft []).exe.queue.length + (stowAxes (aloft []).pose.position).length ≤ 16
        ∧ (aloft []).exe.active.isSome = true ∧ (aloft []).exe.closing = none)
      ∧ (takes .cab .stow (raised (holding .cab)) ∧ maySubmit .cab (raised (holding .cab)) ∧ idlesInHeld (raised (holding .cab))
        ∧ mayDrive .tilt (-1000) (raised (holding .cab))
        ∧ stowAxes (raised (holding .cab)).pose.position = .tilt :: [.pan, .mast])
      ∧ 16 < (aloft (List.replicate 15 (pole 2 none))).exe.queue.length
          + (stowAxes (aloft (List.replicate 15 (pole 2 none))).pose.position).length := by
  unfold takes maySubmit idlesInHeld mayDrive
  refine ⟨?_, ?_, ?_, ?_, ?_, ?_, ?_⟩ <;> decide +kernel

def fullScan : ScanParams :=
  { pattern := .spiral, rowLength := 0, stepSize := 5, steps := 4, source := .analog, dwell := 500, block := 8 }

/-- The scan that PEAK of slot 47 builds from its record. -/
def recordedScan : ScanParams := { fullScan with rowLength := 2, steps := 256 }

theorem test_meets_PeakPlacesItsScan :
    (takes .cab (.peak peaking) alone ∧ maySubmit .cab alone ∧ peakFits peaking ∧ peaking.slot = none
        ∧ fullScan.source = (if alone.settings.inForce.levelSource = 1 then .link else .analog)
        ∧ fullScan.dwell = alone.settings.inForce.dwell ∧ fullScan.block = alone.settings.inForce.block.toNat
        ∧ (∀ x, peaking.pattern = some x →
            fullScan.pattern = (if x.1 = 0x00 then .spiral else .raster) ∧ fullScan.rowLength = x.2)
        ∧ alone.exe.queue.length < 16 ∧ alone.exe.active.isSome = true ∧ alone.exe.closing = none)
      ∧ (takes .cab (.peak (peakOfSlot 47)) (busyWith []) ∧ peakFits (peakOfSlot 47) ∧ (peakOfSlot 47).slot = some 47
        ∧ (busyWith []).store.engine.erasing = false ∧ ((busyWith []).store.slotAt 47).state = .committed
        ∧ ((busyWith []).store.slotAt 47).contents = some (recorded 0xFF) ∧ recordedScan.pattern = sitePattern site
        ∧ recordedScan.rowLength = site.rowLength.toNat ∧ recordedScan.stepSize = site.stepSize.toNat
        ∧ recordedScan.steps = (if site.defaultSteps = 0x00 then 256 else site.defaultSteps.toNat)
        ∧ recordedScan.source = recordSource site (busyWith []).settings.inForce)
      ∧ 16 ≤ (busyWith (List.replicate 15 (pole 2 none))).exe.queue.length := by
  refine ⟨⟨by unfold takes; decide +kernel, by unfold maySubmit; decide +kernel, peaking_fits, rfl, by decide +kernel,
    by decide +kernel, by decide +kernel, of_some _ rfl (by decide), by decide +kernel, rfl, rfl⟩,
    ⟨by unfold takes; decide +kernel, peakOfSlot_fits, rfl, ?_⟩, by decide +kernel⟩
  decide +kernel

theorem test_meets_APeakBeginsItsScan :
    takes .cab (.peak peaking) (raised (holding .cab)) ∧ peakFits peaking ∧ peaking.slot = none
      ∧ (raised (holding .cab)).arb.holder = some (.port .cab) ∧ (raised (holding .cab)).arb.auth = .held
      ∧ (raised (holding .cab)).arb.deferred = none ∧ (raised (holding .cab)).exe.queue = []
      ∧ (raised (holding .cab)).exe.active = none ∧ (raised (holding .cab)).exe.closing = none
      ∧ (raised (holding .cab)).pose.faulted.pan = false ∧ (raised (holding .cab)).pose.faulted.tilt = false
      ∧ 1200 ≤ (raised (holding .cab)).pose.position.mast ∧ (raised (holding .cab)).safe.park = true
      ∧ (raised (holding .cab)).exe.supply = .available := by
  refine ⟨by unfold takes; decide +kernel, peaking_fits, by decide +kernel⟩

theorem test_meets_ScanPatterns :
    (fullScan.pattern = .spiral ∧ ((0 + 1) * (0 + 1) / 4 ≤ 0 ∧ 0 < (0 + 2) * (0 + 2) / 4)
        ∧ (6 + 1) * (6 + 1) / 4 ≤ 12 ∧ 12 < (6 + 2) * (6 + 2) / 4)
      ∧ (({ fullScan with pattern := .raster, rowLength := 4 } : ScanParams).pattern = .raster ∧ 3 < 4
        ∧ 8 = 1 * 4 + 3 + 1) := by decide

def scanEntry (q : ScanParams) (slot : Option Nat) : Entry :=
  { pole 1 none with motion := .scan q, rate := .slow, purpose := .scan, slot := slot, target := none }

def begun : ScanResult :=
  { tag := 1, slot := some 47, requested := 4, done := 0, bestLevel := none, bestPose := none, endReason := none, learned := false }

/-- CAB's scan runs in a phase, at an index, its pattern begun at the raised pose. -/
def scanning (phase : ScanPhase) (index : Nat) : Scan :=
  { start := { pan := 6000, tilt := 300 }, index := index, phase := phase, target := { pan := 6000, tilt := 300 } }

def still (yieldDue : Bool) : Active := { runs .running yieldDue false with phases := Axes.all .idle }

def scanOf (q : ScanParams) (z : Scan) (r : ScanResult) (report : Option LinkReport) (x : Active) : State :=
  let s := raised committedAt
  ((inState .moving (some (.port .cab)) s).setExe
      { Executor.start with queue := [scanEntry q (some 47)], active := some x, nextTag := 2 }).setScan
    { scan := some z, result := some r, report := report }

/-- The mast stands below the clearance. -/
def lowered (s : State) : State := s.setPose { s.pose with position := { s.pose.position with mast := 1190 } }

theorem test_meets_ASampleIsTaken :
    (scanRuns (still false) (scanEntry fullScan (some 47)) [] fullScan (scanning .dwell 0) begun
          (scanOf fullScan (scanning .dwell 0) begun none (still false))
        ∧ brings (.dwellEnd 6200) (analogLevel 6200) fullScan (scanning .dwell 0)
          (scanOf fullScan (scanning .dwell 0) begun none (still false))
        ∧ begun.done < begun.requested ∧ inRange .pan 6005 = true ∧ inRange .tilt 300 = true)
      ∧ brings (.dwellEnd 0) (-300) { fullScan with source := .link } (scanning .dwell 0)
          (scanOf { fullScan with source := .link } (scanning .dwell 0) begun (some ⟨-300, true⟩) (still false))
      ∧ brings (.levelReport .link (-1200)) (-1200) { fullScan with source := .link } (scanning .levelWait 0)
          (scanOf { fullScan with source := .link } (scanning .levelWait 0) begun none (still false))
      ∧ (scanRuns (still true) (scanEntry fullScan (some 47)) [] fullScan (scanning .dwell 0) begun
          (scanOf fullScan (scanning .dwell 0) begun none (still true)) ∧ (still true).yieldDue = true) := by
  refine ⟨⟨?_, .inl ⟨6200, rfl, rfl, rfl, rfl⟩, by decide, by decide, by decide⟩,
    .inr (.inl ⟨0, rfl, rfl, rfl, rfl⟩), .inr (.inr ⟨rfl, ⟨rfl, .inr ⟨rfl, rfl⟩⟩, by decide, by decide, rfl⟩), ?_, rfl⟩ <;>
  · unfold scanRuns activeIs
    decide +kernel

/-- The next step's cases of ASampleIsTaken: there at once, pan driven, tilt driven, out of range, below the clearance; and the
final move's. -/
theorem test_meets_ASampleIsTaken_and_moves_on :
    (∀ phase index report, scanRuns (still false) (scanEntry fullScan (some 47)) [] fullScan (scanning phase index) begun
        (scanOf fullScan (scanning phase index) begun report (still false)))
      ∧ scanStands (scanTarget { pan := 6000, tilt := 300 } fullScan 1)
          (scanOf fullScan (scanning .dwell 0) begun none (still false))
      ∧ ¬scanStands (scanTarget { pan := 6000, tilt := 300 } { fullScan with stepSize := 6 } 1)
          (scanOf { fullScan with stepSize := 6 } (scanning .dwell 0) begun none (still false))
      ∧ ((scanTarget { pan := 6000, tilt := 300 } { fullScan with stepSize := 6 } 3) = { pan := 6000, tilt := 306 })
      ∧ (inRange .pan (scanTarget { pan := 27000, tilt := 300 } fullScan 1).pan = false
        ∧ inRange .tilt (scanTarget { pan := 0, tilt := 9000 } fullScan 2).tilt = false)
      ∧ ((lowered (scanOf fullScan (scanning .dwell 0) begun none (still false))).pose.position.mast < 1200
        ∧ 1200 ≤ (scanOf fullScan (scanning .dwell 0) begun none (still false)).pose.position.mast)
      ∧ (fullScan.steps = 4 ∧ begun.requested = 4
        ∧ scanStands { pan := 6000, tilt := 300 } (scanOf fullScan (scanning .dwell 4) begun none (still false))
        ∧ ¬scanStands { pan := 6006, tilt := 300 } (scanOf fullScan (scanning .dwell 4) begun none (still false))) := by
  refine ⟨fun _ _ _ => ⟨⟨rfl, rfl, rfl⟩, rfl, rfl, rfl, rfl⟩, ?_⟩
  unfold scanStands
  decide +kernel

theorem test_meets_LevelsAreTaken :
    ((-1 : Int) < 0 ∧ (10000 : Int) < 10001 ∧ (0 : Int) ≤ 10000)
      ∧ (scanRuns (still false) (scanEntry { fullScan with source := .link } (some 47)) [] { fullScan with source := .link }
          (scanning .dwell 1) begun
          (scanOf { fullScan with source := .link } (scanning .dwell 1) begun (some ⟨-300, false⟩) (still false))
        ∧ (∀ w, (scanOf { fullScan with source := .link } (scanning .dwell 1) begun (some ⟨-300, false⟩) (still false)).scan.report
            = some w → w.sinceDwell = false))
      ∧ scanRuns (still false) (scanEntry fullScan (some 47)) [] fullScan (scanning .levelWait 1) begun
          (scanOf fullScan (scanning .levelWait 1) begun none (still false))
      ∧ (takes .cab (.levelReport 0) State.reset ∧ takes .link (.levelReport 1) State.reset
        ∧ takes .link (.levelReport (-1201)) State.reset ∧ takes .link (.levelReport (-1200)) State.reset
        ∧ takes .link (.levelReport 0) State.reset ∧ ∀ z, State.reset.scan.scan = some z → z.phase ≠ .levelWait) := by
  refine ⟨by decide, ⟨?_, of_some _ rfl rfl⟩, ?_, ⟨rfl, .inr ⟨rfl, rfl⟩⟩, ⟨rfl, .inr ⟨rfl, rfl⟩⟩, ⟨rfl, .inr ⟨rfl, rfl⟩⟩, ⟨rfl, .inr ⟨rfl, rfl⟩⟩,
    ⟨rfl, .inr ⟨rfl, rfl⟩⟩, of_none _ rfl⟩ <;>
  · unfold scanRuns activeIs
    decide +kernel

/-- CAB's scan is suspended in a phase, the settle timer running, the mechanism standing where its move leads or not. -/
def scanHalted (phase : ScanPhase) (there : Bool) : State :=
  let s := scanOf fullScan (scanning phase 2) begun none { still false with execution := .suspended }
  let u := s.setExe { s.exe with supply := .settling, settle := true, suspension := some 120 }
  if there then u else u.setPose { u.pose with position := { u.pose.position with pan := 6006 } }

/-- The suspended scan's cases of SupplyIsFollowed, with one that has not begun and, but for the final move, with a SCAN behind
it. -/
theorem test_meets_SupplyIsFollowed_by_a_scan :
    (∀ phase there, (scanHalted phase there).powered = true ∧ (scanHalted phase there).exe.settle = true
        ∧ activeIs { still false with execution := .suspended } (scanEntry fullScan (some 47)) [] (scanHalted phase there)
        ∧ (scanHalted phase there).scan.scan = some (scanning phase 2) ∧ (scanHalted phase there).scan.result = some begun)
      ∧ (∀ phase there,
          activeIs { still false with execution := .suspended } (scanEntry fullScan (some 47)) [scanEntry fullScan none]
            ((scanHalted phase there).setExe
              { (scanHalted phase there).exe with queue := [scanEntry fullScan (some 47), scanEntry fullScan none] }))
      ∧ ((scanHalted .dwell true).setScan { scan := none, result := none, report := none }).scan.scan = none
      ∧ scanStands { pan := 6000, tilt := 300 } (scanHalted .stepMove true)
      ∧ scanStands { pan := 6000, tilt := 300 } (scanHalted .finalMove true)
      ∧ ¬scanStands { pan := 6000, tilt := 300 } (scanHalted .finalMove false) := by
  refine ⟨fun phase there => ?_, fun phase there => ?_, rfl, ?_⟩
  · cases there <;> exact ⟨rfl, rfl, ⟨rfl, rfl, rfl⟩, rfl, rfl⟩
  · cases there <;> exact ⟨rfl, rfl, rfl⟩
  · unfold scanStands
    decide +kernel

/-- The result of a scan that found its best level at its first pose. -/
def found : ScanResult := { begun with bestLevel := some (-700), bestPose := some { pan := 6000, tilt := 300 } }

def finishing : State :=
  (scanOf fullScan (scanning .finalMove 4) found none (still false)).setHeading (some 0)

def atBest : Reading := { counts := { mast := 4000, pan := 6005, tilt := 295, pol := 0 }, atRest := Axes.all true }

/-- SCAN RESULT with a result (R154). -/
theorem test_meets_ReadingRequestsAnswerDone_of_a_scan :
    takes .link .scanResult finishing ∧ finishing.scan.result = some found := by
  unfold takes
  decide +kernel

/-- The pan axis at 6006, outside tolerance of the scan's target. -/
def pastBest : Reading := { atBest with counts := { atBest.counts with pan := 6006 } }

/-- The running scan's cases of ReadingsMoveThePose. -/
theorem test_meets_ReadingsMoveThePose_by_a_scan :
    (∀ phase, activeIs (still false) (scanEntry fullScan (some 47)) []
          (scanOf fullScan (scanning phase 2) begun none (still false))
        ∧ nothingWaits (scanOf fullScan (scanning phase 2) begun none (still false))
        ∧ scanRuns (still false) (scanEntry fullScan (some 47)) [] fullScan (scanning phase 2) begun
          (scanOf fullScan (scanning phase 2) begun none (still false)))
      ∧ scanStands { pan := 6000, tilt := 300 }
          (readingTaken atBest (scanOf fullScan (scanning .stepMove 2) begun none (still false)))
      ∧ ¬scanStands { pan := 6000, tilt := 300 }
          (readingTaken pastBest (scanOf fullScan (scanning .stepMove 2) begun none (still false)))
      ∧ (scanRuns (still false) (scanEntry fullScan (some 47)) [] fullScan (scanning .finalMove 4) found finishing
        ∧ scanStands { pan := 6000, tilt := 300 } (readingTaken atBest finishing)) := by
  refine ⟨fun _ => ⟨⟨rfl, rfl, rfl⟩, ⟨rfl, rfl⟩, ⟨rfl, rfl, rfl⟩, rfl, rfl, rfl, rfl⟩, ?_⟩
  unfold scanStands scanRuns activeIs
  decide +kernel

/-- A COMPLETE end solves with its slot COMMITTED and PARK asserted, and not with PARK negated (R127, R128). -/
theorem test_a_complete_end_solves :
    (∃ c, Solves found c finishing)
      ∧ ∀ c, ¬Solves found c (finishing.setSafe { finishing.safe with park := false }) :=
  ⟨⟨⟨47, 6000, 300, 0, 4000, -700⟩, rfl, ⟨rfl, by decide +kernel⟩, ⟨_, 0, rfl, rfl, by decide, rfl⟩, ⟨rfl, rfl⟩, rfl,
    by decide +kernel, by decide +kernel, _, rfl, rfl⟩, fun _ h => nomatch h.park⟩

theorem test_meets_ACompleteScanLearns :
    finishing.powered = true
      ∧ scanRuns (still false) (scanEntry fullScan (some 47)) [] fullScan (scanning .finalMove 4) found finishing
      ∧ nothingWaits finishing ∧ within .pan (positionsOf atBest.counts).pan 6000 = true ∧ atBest.atRest.pan = true
      ∧ within .tilt (positionsOf atBest.counts).tilt 300 = true ∧ atBest.atRest.tilt = true ∧ found.slot = some 47
      ∧ found.bestLevel = some (-700) ∧ found.bestPose = some { pan := 6000, tilt := 300 } ∧ finishing.heading = some 0
      ∧ finishing.settings.inForce.learnThreshold ≤ -700 ∧ finishing.safe.park = true
      ∧ finishing.store.engine.erasing = false ∧ (finishing.store.slotAt 47).state = .committed
      ∧ (finishing.store.slotAt 47).contents = some (recorded 0xFF) ∧ (recorded 0xFF).site.learn = 0x01 := by
  unfold scanRuns activeIs nothingWaits
  decide +kernel

/-! ### The site table and the cache -/

theorem site_fits : fieldsFit site := by
  intro k
  unfold fieldFits
  split <;> decide

theorem test_meets_StageSiteStagesACandidate :
    (takes .rack (.stageSite 48 site) State.reset ∧ 47 < 48)
      ∧ (takes .rack (.stageSite 47 site) (slotted .free none (.erase .rack 1) State.reset)
        ∧ (slotted .free none (.erase .rack 1) State.reset).store.engine = .erase .rack 1)
      ∧ (State.reset.store.engine.erasing = false ∧ ¬fieldsFit { site with bearing := 36000 } ∧ fieldsFit site)
      ∧ (fieldFits { site with bearing := 36000, levelSource := 0x03 } 2 = false
        ∧ ∀ j, j < 2 → fieldFits { site with bearing := 36000, levelSource := 0x03 } j = true) := by
  refine ⟨⟨⟨rfl, .inr ⟨rfl, rfl⟩⟩, by decide⟩, ⟨⟨rfl, .inr ⟨rfl, rfl⟩⟩, rfl⟩, ⟨rfl, fun h => absurd (h 2) (by decide), site_fits⟩,
    by decide, by decide⟩

def staged : Candidate := { slot := 47, site := site, check := 0x1234 }

/-- RACK has staged a candidate for slot 47. -/
def stagedAt (s : State) : State := s.setStore { s.store with staging := s.store.staging.set .rack (some staged) }

theorem test_meets_SiteWritesBegin :
    (takes .rack (.commitSite 48 0) State.reset ∧ 47 < 48)
      ∧ takes .rack (.commitSite 47 0) (slotted .free none (.erase .rack 1) State.reset)
      ∧ (State.reset.store.engine.erasing = false ∧ ∀ c, State.reset.store.staging.get .rack = some c → c.slot ≠ 47)
      ∧ (takes .rack (.commitSite 47 0) (stagedAt State.reset) ∧ (stagedAt State.reset).store.staging.get .rack = some staged
        ∧ staged.slot = 47 ∧ (0 : Check) ≠ staged.check)
      ∧ (stagedAt (slotted .free none (.commit 3 .cab) State.reset)).store.engine ≠ .idle
      ∧ ((stagedAt committedAt).store.engine = .idle ∧ ((stagedAt committedAt).store.slotAt 47).state ≠ .free)
      ∧ ((stagedAt State.reset).store.engine = .idle ∧ ((stagedAt State.reset).store.slotAt 47).state = .free)
      ∧ (takes .rack (.retireSite 48 none) State.reset ∧ takes .rack (.retireSite 47 (some 48)) State.reset)
      ∧ ((slotted .free none (.commit 3 .cab) State.reset).store.engine ≠ .idle
        ∧ (slotted .free none (.commit 3 .cab) State.reset).store.engine.erasing = false)
      ∧ (State.reset.store.slotAt 47).state ≠ .committed
      ∧ (takes .rack (.retireSite 47 (some 0)) committedAt ∧ (committedAt.store.slotAt 47).state = .committed
        ∧ (committedAt.store.slotAt 47).contents = some (recorded 0xFF) ∧ (committedAt.store.slotAt 0).state ≠ .committed)
      ∧ ((∀ n, (none : Option Nat) = some n → n ≠ 47 ∧ (committedAt.store.slotAt n).state = .committed)
        ∧ holds 47 committedAt.cache = false ∧ holds 47 (cachedAt committedAt).cache = true) := by
  refine ⟨⟨⟨rfl, .inr ⟨rfl, rfl⟩⟩, by decide⟩, ⟨rfl, .inr ⟨rfl, rfl⟩⟩, ⟨rfl, of_none _ rfl⟩, ⟨⟨rfl, .inr ⟨rfl, rfl⟩⟩, by decide +kernel⟩,
    by decide +kernel, by decide +kernel, by decide +kernel, ⟨⟨rfl, .inr ⟨rfl, rfl⟩⟩, ⟨rfl, .inr ⟨rfl, rfl⟩⟩⟩, by decide +kernel,
    by decide +kernel, ⟨⟨rfl, .inr ⟨rfl, rfl⟩⟩, by decide +kernel⟩, of_none _ rfl, by decide +kernel, by decide +kernel⟩

/-- RACK's commit, or retire, of slot 47 is being written. -/
def writingAt (retire : Bool) : State :=
  slotted .writing (some (recorded 0xFF)) (if retire = true then .retire 47 .rack else .commit 47 .rack) State.reset

theorem writingAt_fits (retire : Bool) : storeFits (writingAt retire) := by
  refine ⟨by cases retire <;> decide +kernel, fun slot writer re h => ?_⟩
  have h47 : slot = 47 := by
    cases retire <;> simp [writingAt, slotted, Engine.write] at h <;> exact h.1.symm
  subst h47
  cases retire <;> decide +kernel

theorem test_meets_ASlotWriteEnds :
    (State.reset.powered = true ∧ State.reset.store.engine.write = none)
      ∧ ((writingAt false).powered = true ∧ (writingAt false).store.engine = .commit 47 .rack ∧ storeFits (writingAt false)
        ∧ ((writingAt false).store.slotAt 47).contents = some (recorded 0xFF))
      ∧ ((writingAt true).powered = true ∧ (writingAt true).store.engine = .retire 47 .rack ∧ storeFits (writingAt true)
        ∧ ((writingAt true).store.slotAt 47).contents = some (recorded 0xFF))
      ∧ ReadBack.bad site 0xFF 1 ≠ .good :=
  ⟨⟨rfl, rfl⟩, ⟨rfl, rfl, writingAt_fits false, rfl⟩, ⟨rfl, rfl, writingAt_fits true, rfl⟩, by decide⟩

theorem test_meets_EraseTableFreesEverySlot :
    takes .cab .eraseTable State.reset ∧ takes .rack .eraseTable (writingAt false) ∧ (writingAt false).store.engine ≠ .idle
      ∧ (takes .rack .eraseTable (scanOf fullScan (scanning .dwell 0) begun none (still false))
        ∧ ∃ e q, e ∈ (scanOf fullScan (scanning .dwell 0) begun none (still false)).exe.queue ∧ e.motion = .scan q)
      ∧ (takes .rack .eraseTable State.reset ∧ State.reset.store.engine = .idle
        ∧ ∀ e q, e ∈ State.reset.exe.queue → e.motion ≠ .scan q)
      ∧ (slotted .free none (.erase .rack 1) State.reset).store.engine = .erase .rack 1
      ∧ State.reset.store.engine.erasing = false := by
  refine ⟨⟨rfl, .inr ⟨rfl, rfl⟩⟩, ⟨rfl, .inr ⟨rfl, rfl⟩⟩, by decide +kernel,
    ⟨⟨rfl, .inr ⟨rfl, rfl⟩⟩, scanEntry fullScan (some 47), fullScan, by decide +kernel, rfl⟩,
    ⟨⟨rfl, .inr ⟨rfl, rfl⟩⟩, rfl, fun e q h => by simp [State.reset, Executor.start] at h⟩, rfl, rfl⟩

/-- The most recent sample is this much of pitch. -/
def pitched (pitch : Int) (s : State) : State := s.setPose { s.pose with level := { pitch := pitch, roll := 0 } }

theorem test_meets_CacheRemovals :
    takes .cab (.invalidateSite 47) State.reset ∧ takes .rack (.invalidateSite 48) State.reset
      ∧ (takes .link (.invalidateSite 47) State.reset ∧ holds 47 State.reset.cache = false)
      ∧ (takes .rack (.invalidateSite 47) (cachedAt State.reset) ∧ holds 47 (cachedAt State.reset).cache = true)
      ∧ takes .cab .flushCache State.reset
      ∧ levelWithin 30 (pitched 30 (cachedAt State.reset)) ∧ ¬levelWithin 30 (pitched (-31) (cachedAt State.reset)) := by
  refine ⟨⟨rfl, .inr ⟨rfl, rfl⟩⟩, ⟨rfl, .inr ⟨rfl, rfl⟩⟩, ⟨⟨rfl, .inr ⟨rfl, rfl⟩⟩, rfl⟩, ⟨⟨rfl, .inr ⟨rfl, rfl⟩⟩, rfl⟩, ⟨rfl, .inr ⟨rfl, rfl⟩⟩,
    of_some _ rfl (by decide), fun h => absurd (h _ rfl).1 (by decide)⟩

/-! ### Settings, starts and power -/

/-- The level tolerance is 100 cdeg. -/
def tolerant (s : State) : State :=
  s.setSettings { s.settings with inForce := { s.settings.inForce with tolerance := 100 } }

theorem test_meets_SettingsAreWritten :
    (takes .cab (.configure 0x01 255) State.reset ∧ takes .rack (.configure 0x01 255) State.reset ∧ supported 0x01 255)
      ∧ ((0x01 : Byte) ≠ 0x7F ∧ ¬supported 0x01 256 ∧ ¬supported 0x07 3005 ∧ ¬supported 0x00 0)
      ∧ (supported 0x08 10 ∧ levelWithin 10 State.reset ∧ ¬levelWithin 10 (pitched 11 (cachedAt State.reset)))
      ∧ (takes .cab .revert State.reset ∧ takes .rack .revert State.reset ∧ State.reset.settings.inForce.tolerance = 30)
      ∧ (takes .rack .revert (tolerant (pitched 31 (cachedAt State.reset)))
        ∧ (tolerant (pitched 31 (cachedAt State.reset))).settings.inForce.tolerance ≠ 30
        ∧ ¬levelWithin 30 (tolerant (pitched 31 (cachedAt State.reset))))
      ∧ (State.reset.settings.writing = none
        ∧ (State.reset.setSettings { Settings.start with writing := some (0x01, 255) }).settings.writing = some (0x01, 255)) := by
  refine ⟨⟨⟨rfl, .inr ⟨rfl, rfl⟩⟩, ⟨rfl, .inr ⟨rfl, rfl⟩⟩, ⟨0, 255, by decide, by decide, by decide⟩, by decide⟩,
    ⟨by decide, ?_, fun h => absurd (h.2 rfl) (by decide), ?_⟩,
    ⟨⟨⟨10, 100, by decide, by decide, by decide⟩, by decide⟩, of_none _ rfl, fun h => absurd (h _ rfl).1 (by decide)⟩,
    ⟨⟨rfl, .inr ⟨rfl, rfl⟩⟩, ⟨rfl, .inr ⟨rfl, rfl⟩⟩, rfl⟩, ⟨⟨rfl, .inr ⟨rfl, rfl⟩⟩, by decide, fun h => absurd (h _ rfl).1 (by decide)⟩, rfl, rfl⟩
  · rintro ⟨⟨low, high, h, h1, h2⟩, -⟩
    simp [featureRanges] at h
    omega
  · rintro ⟨⟨low, high, h, -⟩, -⟩
    simp [featureRanges] at h

/-- Stored settings whose check does not match. -/
def spoilt : State :=
  State.reset.setSettings { Settings.start with stored := { values := SettingValues.defaults, check := 0 } }

theorem test_meets_AColdStartStartsAfresh :
    (State.reset.settings.stored.check = settingsCheck State.reset.settings.stored.values
        ∧ settingsInRange State.reset.settings.stored.values = true)
      ∧ spoilt.settings.stored.check ≠ settingsCheck spoilt.settings.stored.values
      ∧ (∃ x, State.reset.store.slots[47]? = some x ∧ x.recorded = .free)
      ∧ (∃ x, committedAt.store.slots[47]? = some x ∧ x.recorded = .committed ∧ x.contents = some (recorded 0xFF)
        ∧ (recorded 0xFF).check = recordCheck (recorded 0xFF).site (recorded 0xFF).redirection) := by
  refine ⟨⟨by decide +kernel, by decide⟩, by decide +kernel, ⟨Slot.free, by decide +kernel, rfl⟩,
    ⟨{ state := .committed, recorded := .committed, contents := some (recorded 0xFF) }, by decide +kernel⟩⟩

/-- A start that finds a line acts on it: ESTOP locks out, PARK negated with the mast up stows, MANUAL REQ is granted (R168). -/
theorem test_a_start_reads_its_lines :
    let found (i : StartInputs) : State := after State.reset (exec (.powerApplied i) State.reset)
    let up : Reading := { counts := { mast := 4000, pan := 0, tilt := -1000, pol := 0 }, atRest := Axes.all true }
    ((found { stowed with estop := true }).arb.auth = .lockout ∧ (found { stowed with estop := true }).arb.reasons = onlyEstop)
      ∧ (found { stowed with park := false, reading := up }).safe.group = some .parkStow
      ∧ (found { stowed with park := false }).arb.reasons = { Reasons.empty with interlock := true }
      ∧ (found { stowed with manualReq := true }).arb.auth = .manual := by decide +kernel

/-- A warm start with the class LIMIT and the mast up sets the WIND cause, and one that saw PARK negated flushes the cache (R88,
R100). -/
theorem test_a_warm_start_reads_its_lines :
    let up : Reading := { counts := { mast := 3010, pan := 0, tilt := -1000, pol := 0 }, atRest := Axes.all true }
    let windy : State := cachedAt (State.reset.setSafe { State.reset.safe with windClass := .limit })
    let t : State := after windy (exec (.reset { stowed with reading := up, parkNegatedDuring := true }) windy)
    windy.cache.entries ≠ [] ∧ t.safe.alarmWind = true ∧ t.safe.alarm = true ∧ t.cache.entries = [] := by decide +kernel

theorem test_meets_AWarmStartKeepsWhatItMust :
    (State.reset.powered = true ∧ State.reset.safe.resetLine = false ∧ takes .rack .restart State.reset
        ∧ takes .link .restart State.reset)
      ∧ (State.reset.setSafe { State.reset.safe with resetLine := true }).safe.resetLine = true
      ∧ ((slotted .free none (.erase .rack 1) State.reset).powered = true
        ∧ (slotted .free none (.erase .rack 1) State.reset).store.engine = .erase .rack 1)
      ∧ ((writingAt false).powered = true ∧ (writingAt false).store.engine = .commit 47 .rack ∧ storeFits (writingAt false)
        ∧ stowed.readBack = .good)
      ∧ ((writingAt true).powered = true ∧ (writingAt true).store.engine.write = some (47, .rack, true)
        ∧ ({ stowed with readBack := .bad site 0xFF 1 } : StartInputs).readBack ≠ .good)
      ∧ (State.reset.setSettings { Settings.start with writing := some (0x01, 255) }).settings.writing.isSome = true :=
  ⟨⟨rfl, rfl, ⟨rfl, .inr ⟨rfl, rfl⟩⟩, ⟨rfl, .inr ⟨rfl, rfl⟩⟩⟩, rfl, ⟨rfl, rfl⟩,
    ⟨rfl, rfl, writingAt_fits false, rfl⟩, ⟨rfl, rfl, by decide⟩, rfl⟩

theorem test_meets_PowerLossStopsTheController :
    (State.reset.powered = true ∧ State.reset.store.engine = .idle ∧ wholeLoss.settings = none)
      ∧ ((writingAt false).store.engine.write = some (47, .rack, false) ∧ storeFits (writingAt false) ∧ quiet stowed)
      ∧ ((slotted .free none (.erase .rack 1) State.reset).store.engine = .erase .rack 1
        ∧ (slotted .free none (.erase .rack 1) State.reset).store.slots.length = 48 ∧ 46 < 47 ∧ 47 < 48 ∧ wholeLoss.erased < 47)
      ∧ ((State.reset.setSettings { Settings.start with writing := some (0x01, 255) }).settings.writing.isSome = true
        ∧ ({ wholeLoss with settings := some (SettingValues.defaults, 1) } : PowerLoss).settings = some (SettingValues.defaults, 1))
      ∧ ((State.reset.setPowered false).powered = false ∧ ∀ i, Instr.obstructionEdge ≠ .powerApplied i) :=
  ⟨⟨rfl, rfl, rfl⟩, ⟨rfl, writingAt_fits false, rfl, rfl, rfl, rfl⟩, ⟨rfl, by decide +kernel, by decide, by decide, by decide⟩,
    ⟨rfl, rfl⟩, rfl, fun i h => by cases h⟩

/-! ### The invariants, at a state in which an entry runs and at one with a cache entry -/

theorem forall_port (P : Port → Prop) : (∀ p, P p) ↔ P .cab ∧ P .rack ∧ P .link :=
  ⟨fun h => ⟨h _, h _, h _⟩, fun ⟨h1, h2, h3⟩ p => by cases p <;> assumption⟩

theorem test_meets_OutputsFollowIsKept :
    outputsFollow alone ∧ exec (.halt .cab) alone = .next (after alone (exec (.halt .cab) alone)) := by
  refine ⟨?_, rfl⟩
  unfold outputsFollow poseFollows lampFollows alarmFollows stopHolds grantFollows
  decide +kernel

theorem test_meets_MotionFitsIsKept :
    motionFits (alone.setPending [.halt .cab])
      ∧ step (alone.setPending [.halt .cab]) = .next (after alone (step (alone.setPending [.halt .cab]))) := by
  refine ⟨?_, rfl⟩
  unfold motionFits authorityFits holderFits claimsFit grantFollows drivesFit activityFits portHolder
  simp only [forall_axis, forall_port]
  refine ⟨by decide +kernel, by decide +kernel, by decide +kernel, by decide +kernel, by decide +kernel, by decide +kernel,
    fun _ c h => ?_⟩
  simp [alone, moving, inState, Executor.start] at h

theorem test_meets_CapacitiesAreKept :
    queueFits finishing ∧ scanFits finishing ∧ portsFit finishing
      ∧ exec (.status .cab) finishing = .next (after finishing (exec (.status .cab) finishing)) := by
  refine ⟨by unfold queueFits; decide +kernel, ⟨of_some _ rfl (by decide), of_some _ rfl ⟨found, rfl, by decide⟩⟩, ?_, rfl⟩
  unfold portsFit portFits
  rw [forall_port]
  decide +kernel

theorem storeFits_idle {s : State} (h : s.store.slots.length = 48) (he : s.store.engine = .idle) : storeFits s :=
  ⟨h, fun slot writer retire h => by simp [he, Engine.write] at h⟩

theorem test_meets_TableFitsIsKept :
    tableFits ((cachedAt committedAt).setPending [.flushCache .cab])
      ∧ step ((cachedAt committedAt).setPending [.flushCache .cab])
        = .next (after committedAt (step ((cachedAt committedAt).setPending [.flushCache .cab]))) := by
  refine ⟨⟨storeFits_idle (by decide +kernel) rfl, ?_⟩, rfl⟩
  unfold cacheFits
  refine ⟨by decide +kernel, by decide +kernel, ?_, by decide +kernel, by decide +kernel⟩
  decide +kernel

theorem test_meets_GuardFitsIsKept :
    guardFits (pitched 30 (cachedAt committedAt))
      ∧ exec (.inclinometerSample { pitch := 31, roll := 0 }) (pitched 30 (cachedAt committedAt))
        = .next (after committedAt (exec (.inclinometerSample { pitch := 31, roll := 0 }) (pitched 30 (cachedAt committedAt)))) := by
  refine ⟨⟨by unfold settingsFit; decide +kernel, by decide +kernel, by decide +kernel, of_some _ rfl (by decide)⟩, rfl⟩

end Sys2Proof.Tests
end

section
/-! Aiming and peaking: the pan target of an AIM (R139) and the offsets of the scan patterns (R146). -/

namespace Sys2Proof.Machine

/-! ### The pan target (R139) -/

theorem inRange_pan_iff (v : Int) : inRange .pan v = true ↔ -27000 ≤ v ∧ v ≤ 27000 := by
  rw [inRange, Bool.and_eq_true, decide_eq_true_eq, decide_eq_true_eq, leastOf, greatestOf]

theorem inRange_pan_eq_false_iff (v : Int) : inRange .pan v = false ↔ v < -27000 ∨ 27000 < v := by
  rw [← Bool.not_eq_true, inRange_pan_iff]
  omega

theorem turn_bounds (angle : Int) : 0 ≤ turn angle ∧ turn angle < 36000 := by
  unfold turn
  omega

/-- The range of pan as bounds of the relative angle: above 27,000 it is out of range itself, below 9,000 it less 36,000 is. -/
theorem panTarget_eq (bearing heading pan : Int) :
    panTarget bearing heading pan =
      if 27000 < turn (bearing - heading) then turn (bearing - heading) - 36000
      else if turn (bearing - heading) < 9000 then turn (bearing - heading)
      else if (turn (bearing - heading) - 36000 - pan).natAbs < (turn (bearing - heading) - pan).natAbs then
        turn (bearing - heading) - 36000
      else turn (bearing - heading) := by
  have bounds := turn_bounds (bearing - heading)
  have up : inRange .pan (turn (bearing - heading)) = false ↔ 27000 < turn (bearing - heading) := by
    rw [inRange_pan_eq_false_iff]
    omega
  have down : inRange .pan (turn (bearing - heading) - 36000) = false ↔ turn (bearing - heading) < 9000 := by
    rw [inRange_pan_eq_false_iff]
    omega
  simp only [panTarget, up, down]

/-- Settles O37, by which of the two candidates lie within the range of pan and, where both do, which is nearer. -/
theorem panTargetIsTheNearerCandidate : Obligations.PanTargetIsTheNearerCandidate := by
  rintro bearing heading pan relative target hrelative rfl
  obtain rfl : relative = turn (bearing - heading) := hrelative
  have bounds := turn_bounds (bearing - heading)
  by_cases upOut : 27000 < turn (bearing - heading)
  · rw [panTarget_eq, if_pos upOut]
    omega
  by_cases downOut : turn (bearing - heading) < 9000
  · rw [panTarget_eq, if_neg upOut, if_pos downOut]
    omega
  by_cases downNearer : (turn (bearing - heading) - 36000 - pan).natAbs < (turn (bearing - heading) - pan).natAbs
  · rw [panTarget_eq, if_neg upOut, if_neg downOut, if_pos downNearer]
    omega
  · rw [panTarget_eq, if_neg upOut, if_neg downOut, if_neg downNearer]
    omega

/-! ### The runs of the spiral (R146) -/

/-- The unit moves made before a run: the runs before it have the lengths 1, 1, 2, 2, 3, 3 and so on. -/
def runStart (run : Nat) : Nat := (run + 1) * (run + 1) / 4

theorem runStart_even (m : Nat) : runStart (2 * m) = m * m + m := by
  have square : (2 * m + 1) * (2 * m + 1) = 4 * (m * m + m) + 1 := by grind
  rw [runStart, square]
  omega

theorem runStart_odd (m : Nat) : runStart (2 * m + 1) = (m + 1) * (m + 1) := by
  have square : (2 * m + 1 + 1) * (2 * m + 1 + 1) = 4 * ((m + 1) * (m + 1)) := by grind
  rw [runStart, square]
  omega

theorem runStart_succ (run : Nat) : runStart (run + 1) = runStart run + (run / 2 + 1) := by
  have parity : run = 2 * (run / 2) ∨ run = 2 * (run / 2) + 1 := by omega
  generalize run / 2 = m at parity ⊢
  rcases parity with rfl | rfl
  · rw [runStart_odd, runStart_even, Nat.mul_add_one, Nat.add_one_mul]
  · rw [show 2 * m + 1 + 1 = 2 * (m + 1) by omega, runStart_even, runStart_odd]

/-- A place of the spiral in this run (the first is run 0), with this many of the run's unit moves made. -/
structure OnRun (run made : Nat) (q : SpiralPlace) : Prop where
  direction : q.direction = run % 4
  left : q.left + made = run / 2 + 1
  length : q.length = run / 2 + 1
  second : q.second = decide (run % 2 = 1)

theorem spiralStart_onRun : OnRun 0 0 spiralStart := ⟨rfl, rfl, rfl, rfl⟩

theorem spiralNext_of_left {q : SpiralPlace} (h : 1 < q.left) :
    spiralNext q = { q with pan := (spiralNext q).pan, tilt := (spiralNext q).tilt, left := q.left - 1 } := by
  simp [spiralNext, h]

theorem spiralNext_of_last {q : SpiralPlace} (h : q.left ≤ 1) :
    spiralNext q =
      { pan := (spiralNext q).pan, tilt := (spiralNext q).tilt, direction := (q.direction + 1) % 4,
        left := if q.second then q.length + 1 else q.length, length := if q.second then q.length + 1 else q.length,
        second := !q.second } := by
  simp [spiralNext, Nat.not_lt.2 h]

theorem spiralNext_pan (q : SpiralPlace) :
    (spiralNext q).pan = if q.direction = 0 then q.pan + 1 else if q.direction = 2 then q.pan - 1 else q.pan := by
  by_cases more : 1 < q.left <;> simp [spiralNext, more]

theorem spiralNext_tilt (q : SpiralPlace) :
    (spiralNext q).tilt = if q.direction = 1 then q.tilt + 1 else if q.direction = 3 then q.tilt - 1 else q.tilt := by
  by_cases more : 1 < q.left <;> simp [spiralNext, more]

section
variable {run made : Nat} {q : SpiralPlace}

theorem OnRun.next_within (h : OnRun run made q) (more : made < run / 2) : OnRun run (made + 1) (spiralNext q) := by
  obtain ⟨direction, left, length, second⟩ := h
  rw [spiralNext_of_left (by omega)]
  exact ⟨direction, show q.left - 1 + (made + 1) = run / 2 + 1 by omega, length, second⟩

/-- After its last unit move a run is followed by the next, which is one longer after every second run. -/
theorem OnRun.next_turn (h : OnRun run (run / 2) q) : OnRun (run + 1) 0 (spiralNext q) := by
  obtain ⟨direction, left, length, second⟩ := h
  have grown : (if q.second then q.length + 1 else q.length) = (run + 1) / 2 + 1 := by
    rw [second, length]
    simp only [decide_eq_true_eq]
    split <;> omega
  rw [spiralNext_of_last (by omega)]
  refine ⟨?_, grown, grown, ?_⟩
  · show (q.direction + 1) % 4 = (run + 1) % 4
    omega
  · show (!q.second) = decide ((run + 1) % 2 = 1)
    rw [second, ← decide_not]
    exact decide_eq_decide.2 (by omega)

/-- The direction of the run is that of its unit moves. -/
theorem OnRun.next_moves (h : OnRun run made q) :
    (spiralNext q).pan = q.pan + (unitMove run).pan ∧ (spiralNext q).tilt = q.tilt + (unitMove run).tilt := by
  rw [spiralNext_pan, spiralNext_tilt, h.direction]
  have cycle : run % 4 = 0 ∨ run % 4 = 1 ∨ run % 4 = 2 ∨ run % 4 = 3 := by omega
  rcases cycle with d | d | d | d <;> simp [unitMove, d, Int.sub_eq_add_neg]

end

/-- By induction on the runs, and within a run on the unit moves made. -/
theorem spiralAt_onRun (run made : Nat) (within : made ≤ run / 2) : OnRun run made (spiralAt (runStart run + made)) := by
  induction run generalizing made with
  | zero =>
    obtain rfl : made = 0 := by omega
    exact spiralStart_onRun
  | succ run previous =>
    induction made with
    | zero =>
      rw [runStart_succ]
      exact (previous (run / 2) (Nat.le_refl _)).next_turn
    | succ made ih => exact (ih (by omega)).next_within (by omega)

/-- A step from the start of a run up to the start of the next makes that run's unit move. -/
theorem spiralAt_succ {run i : Nat} (first : runStart run ≤ i) (last : i < runStart (run + 1)) :
    (spiralAt (i + 1)).pan = (spiralAt i).pan + (unitMove run).pan
      ∧ (spiralAt (i + 1)).tilt = (spiralAt i).tilt + (unitMove run).tilt := by
  rw [runStart_succ] at last
  obtain ⟨made, rfl⟩ := Nat.exists_eq_add_of_le first
  exact (spiralAt_onRun run made (by omega)).next_moves

/-! ### The rows of the raster (R146) -/

theorem rasterOffset_of_row_column {rowLength column : Nat} (row : Nat) (h : column < rowLength) :
    rasterOffset rowLength (row * rowLength + column + 1) =
      { pan := ((if row % 2 = 1 then rowLength - 1 - column else column : Nat) : Int) - ((rowLength / 2 : Nat) : Int)
        tilt := (row : Int) - ((rowLength / 2 : Nat) : Int) } := by
  have quotient : (row * rowLength + column) / rowLength = row := by
    rw [Nat.mul_comm, Nat.mul_add_div (by omega), Nat.div_eq_of_lt h, Nat.add_zero]
  have remainder : (row * rowLength + column) % rowLength = column := by
    rw [Nat.mul_add_mod', Nat.mod_eq_of_lt h]
  simp only [rasterOffset, Nat.add_sub_cancel, quotient, remainder]

/-! ### The patterns -/

theorem scanOffset_of_spiral {q : ScanParams} (h : q.pattern = .spiral) (i : Nat) :
    scanOffset q i = { pan := (spiralAt i).pan, tilt := (spiralAt i).tilt } := by
  simp only [scanOffset, h]

theorem scanOffset_of_raster {q : ScanParams} (h : q.pattern = .raster) (i : Nat) :
    scanOffset q i = rasterOffset q.rowLength i := by
  simp only [scanOffset, h]

/-- Settles O42, from the runs of the spiral and the rows of the raster. -/
theorem scanPatterns : Obligations.ScanPatterns := by
  intro start q i
  refine ⟨rfl, fun spiral => ⟨?_, ?_⟩, ?_⟩
  · rintro rfl
    exact scanOffset_of_spiral spiral 0
  · intro run first last
    obtain ⟨pan, tilt⟩ := spiralAt_succ first last
    simp only [scanOffset_of_spiral spiral, pan, tilt]
  · rintro raster row column inRow rfl
    rw [scanOffset_of_raster raster, rasterOffset_of_row_column row inRow]

end Sys2Proof.Machine
end

section
/-! The step and the reset state. -/

namespace Sys2Proof.Machine

theorem step_cons {s : State} {c : Instr} {rest : List Instr} (h : s.pending = c :: rest) :
    step s = exec c (s.setPending rest) := by
  rw [step, h]

theorem step_nil {s : State} (h : s.pending = []) : step s = .next s := by
  rw [step, h]

/-- Settles O1, by the two forms of the queue of commands. -/
theorem stepRunsFrontCommand : Obligations.StepRunsFrontCommand :=
  ⟨fun _ _ _ => step_cons, fun _ => step_nil⟩

/-- What every command keeps, and what only the front of the queue leaves, every step keeps: the invariants do not read the
queue of commands. -/
theorem step_keeps {P : State → Prop} (pending : ∀ s x, P s → P (s.setPending x))
    (command : ∀ c s t, P s → exec c s = .next t → P t) {s t : State} (h : P s) (step : step s = .next t) : P t := by
  cases queue : s.pending with
  | nil =>
    rw [step_nil queue] at step
    cases step
    exact h
  | cons c rest =>
    rw [step_cons queue] at step
    exact command c _ t (pending s rest h) step

/-! ### The reset state -/

theorem reset_outputsFollow : outputsFollow State.reset := by
  unfold outputsFollow poseFollows lampFollows alarmFollows stopHolds grantFollows
  decide

theorem reset_authorityFits : authorityFits State.reset := by
  unfold authorityFits holderFits claimsFit portHolder
  exact ⟨by decide, by decide, nofun, by decide⟩

theorem reset_motionFits : motionFits State.reset := by
  refine ⟨reset_authorityFits, reset_outputsFollow.2.2.2.2, ?_, nofun, nofun, nofun, nofun⟩
  intro a
  cases a <;> exact nofun

theorem reset_scanFits : scanFits State.reset := ⟨nofun, nofun⟩

theorem reset_portsFit : portsFit State.reset := by
  refine ⟨fun p => ?_, nofun⟩
  unfold portFits
  cases p <;> decide

theorem reset_tableFits : tableFits State.reset := by
  refine ⟨⟨by decide, nofun⟩, ?_⟩
  unfold cacheFits
  exact ⟨by decide, by decide, nofun, nofun, by decide⟩

theorem reset_guardFits : guardFits State.reset := by
  refine ⟨?_, ?_, nofun, nofun⟩
  · unfold settingsFit
    decide
  · decide

/-- Settles O60, invariant by invariant. -/
theorem resetHasTheInvariants : Obligations.ResetHasTheInvariants :=
  ⟨reset_outputsFollow, reset_motionFits, Nat.zero_le _, reset_scanFits, reset_portsFit, reset_tableFits, reset_guardFits⟩

end Sys2Proof.Machine
end

section
/-! The frames of the commands: for the function behind each, the parts of State that it leaves unchanged. -/

namespace Sys2Proof.Machine

@[simp] theorem takeReading_level (r : Reading) (s : State) : (takeReading r s).pose.level = s.pose.level := by
  simp [takeReading, alarmAfterReading, recordReading]

@[simp] theorem setFaulted_level (a : Axis) (faulted : Bool) (s : State) : (setFaulted a faulted s).pose.level = s.pose.level :=
  rfl

/-! ### Requests of the ports, authority -/

@[simp] theorem setNotices_frame (p : Port) (mask : BitVec 16) (s : State) :
    (setNotices p mask s).pending = s.pending ∧ (setNotices p mask s).powered = s.powered
      ∧ (setNotices p mask s).arb.auth = s.arb.auth ∧ (setNotices p mask s).arb.holder = s.arb.holder
      ∧ (setNotices p mask s).arb.claims = s.arb.claims ∧ (setNotices p mask s).arb.releaseMark = s.arb.releaseMark
      ∧ (setNotices p mask s).arb.reasons = s.arb.reasons ∧ (setNotices p mask s).arb.grant = s.arb.grant
      ∧ (setNotices p mask s).arb.deferred = s.arb.deferred ∧ (setNotices p mask s).arb.crankEnd = s.arb.crankEnd
      ∧ (setNotices p mask s).exe = s.exe ∧ (setNotices p mask s).pose = s.pose ∧ (setNotices p mask s).safe = s.safe
      ∧ (setNotices p mask s).store = s.store ∧ (setNotices p mask s).cache = s.cache
      ∧ (setNotices p mask s).heading = s.heading ∧ (setNotices p mask s).settings = s.settings
      ∧ (setNotices p mask s).scan = s.scan := by
  unfold setNotices
  simp

@[simp] theorem joinClaim_frame (p : Port) (s : State) :
    (joinClaim p s).pending = s.pending ∧ (joinClaim p s).powered = s.powered ∧ (joinClaim p s).ports = s.ports
      ∧ (joinClaim p s).exe = s.exe ∧ (joinClaim p s).pose = s.pose ∧ (joinClaim p s).safe = s.safe
      ∧ (joinClaim p s).store = s.store ∧ (joinClaim p s).cache = s.cache ∧ (joinClaim p s).heading = s.heading
      ∧ (joinClaim p s).settings = s.settings ∧ (joinClaim p s).scan = s.scan := by
  unfold joinClaim
  simp

@[simp] theorem preempt_frame (p : Port) (s : State) :
    (preempt p s).pending = s.pending ∧ (preempt p s).powered = s.powered ∧ (preempt p s).exe = s.exe
      ∧ (preempt p s).pose = s.pose ∧ (preempt p s).safe = s.safe ∧ (preempt p s).store = s.store
      ∧ (preempt p s).cache = s.cache ∧ (preempt p s).heading = s.heading ∧ (preempt p s).settings = s.settings
      ∧ (preempt p s).scan = s.scan := by
  unfold preempt
  repeat' split
  all_goals simp

@[simp] theorem callForYield_frame (p : Port) (s : State) :
    (callForYield p s).pending = s.pending ∧ (callForYield p s).powered = s.powered ∧ (callForYield p s).pose = s.pose
      ∧ (callForYield p s).safe = s.safe ∧ (callForYield p s).store = s.store ∧ (callForYield p s).cache = s.cache
      ∧ (callForYield p s).heading = s.heading ∧ (callForYield p s).settings = s.settings
      ∧ (callForYield p s).scan = s.scan := by
  unfold callForYield
  dsimp only
  simp

@[simp] theorem claimAgainst_frame (p : Port) (h : Party) (s : State) :
    (claimAgainst p h s).pending = s.pending ∧ (claimAgainst p h s).powered = s.powered
      ∧ (claimAgainst p h s).pose = s.pose ∧ (claimAgainst p h s).safe = s.safe ∧ (claimAgainst p h s).store = s.store
      ∧ (claimAgainst p h s).cache = s.cache ∧ (claimAgainst p h s).heading = s.heading
      ∧ (claimAgainst p h s).settings = s.settings ∧ (claimAgainst p h s).scan = s.scan := by
  unfold claimAgainst
  repeat' split
  all_goals simp

@[simp] theorem claimAuthority_frame (p : Port) (s : State) :
    (claimAuthority p s).pending = s.pending ∧ (claimAuthority p s).powered = s.powered
      ∧ (claimAuthority p s).pose = s.pose ∧ (claimAuthority p s).safe = s.safe ∧ (claimAuthority p s).store = s.store
      ∧ (claimAuthority p s).cache = s.cache ∧ (claimAuthority p s).heading = s.heading
      ∧ (claimAuthority p s).settings = s.settings ∧ (claimAuthority p s).scan = s.scan := by
  unfold claimAuthority
  repeat' split
  all_goals simp

@[simp] theorem withdrawClaim_frame (p : Port) (s : State) :
    (withdrawClaim p s).pending = s.pending ∧ (withdrawClaim p s).powered = s.powered
      ∧ (withdrawClaim p s).arb.auth = s.arb.auth ∧ (withdrawClaim p s).arb.holder = s.arb.holder
      ∧ (withdrawClaim p s).arb.releaseMark = s.arb.releaseMark ∧ (withdrawClaim p s).arb.reasons = s.arb.reasons
      ∧ (withdrawClaim p s).arb.grant = s.arb.grant ∧ (withdrawClaim p s).arb.deferred = s.arb.deferred
      ∧ (withdrawClaim p s).arb.crankEnd = s.arb.crankEnd ∧ (withdrawClaim p s).exe = s.exe
      ∧ (withdrawClaim p s).pose = s.pose ∧ (withdrawClaim p s).safe = s.safe ∧ (withdrawClaim p s).store = s.store
      ∧ (withdrawClaim p s).cache = s.cache ∧ (withdrawClaim p s).heading = s.heading
      ∧ (withdrawClaim p s).settings = s.settings ∧ (withdrawClaim p s).scan = s.scan := by
  unfold withdrawClaim
  dsimp only
  repeat' split
  all_goals simp

@[simp] theorem markRelease_frame (s : State) :
    (markRelease s).pending = s.pending ∧ (markRelease s).powered = s.powered ∧ (markRelease s).ports = s.ports
      ∧ (markRelease s).exe = s.exe ∧ (markRelease s).pose = s.pose ∧ (markRelease s).safe = s.safe
      ∧ (markRelease s).store = s.store ∧ (markRelease s).cache = s.cache ∧ (markRelease s).heading = s.heading
      ∧ (markRelease s).settings = s.settings ∧ (markRelease s).scan = s.scan := by
  unfold markRelease
  dsimp only
  simp

@[simp] theorem releaseFrom_frame (p : Port) (s : State) :
    (releaseFrom p s).pending = s.pending ∧ (releaseFrom p s).powered = s.powered ∧ (releaseFrom p s).pose = s.pose
      ∧ (releaseFrom p s).safe = s.safe ∧ (releaseFrom p s).store = s.store ∧ (releaseFrom p s).cache = s.cache
      ∧ (releaseFrom p s).heading = s.heading ∧ (releaseFrom p s).settings = s.settings
      ∧ (releaseFrom p s).scan = s.scan := by
  unfold releaseFrom
  dsimp only
  repeat' split
  all_goals simp

@[simp] theorem releaseAuthority_frame (p : Port) (s : State) :
    (releaseAuthority p s).pending = s.pending ∧ (releaseAuthority p s).powered = s.powered
      ∧ (releaseAuthority p s).pose = s.pose ∧ (releaseAuthority p s).safe = s.safe
      ∧ (releaseAuthority p s).store = s.store ∧ (releaseAuthority p s).cache = s.cache
      ∧ (releaseAuthority p s).heading = s.heading ∧ (releaseAuthority p s).settings = s.settings
      ∧ (releaseAuthority p s).scan = s.scan := by
  unfold releaseAuthority
  repeat' split
  all_goals simp

@[simp] theorem expireIdle_frame (s : State) :
    (expireIdle s).pending = s.pending ∧ (expireIdle s).powered = s.powered ∧ (expireIdle s).pose = s.pose
      ∧ (expireIdle s).safe = s.safe ∧ (expireIdle s).store = s.store ∧ (expireIdle s).cache = s.cache
      ∧ (expireIdle s).heading = s.heading ∧ (expireIdle s).settings = s.settings ∧ (expireIdle s).scan = s.scan := by
  unfold expireIdle
  repeat' split
  all_goals simp

@[simp] theorem clearEstop_frame (s : State) :
    (clearEstop s).pending = s.pending ∧ (clearEstop s).powered = s.powered ∧ (clearEstop s).exe = s.exe
      ∧ (clearEstop s).pose = s.pose ∧ (clearEstop s).safe = s.safe ∧ (clearEstop s).store = s.store
      ∧ (clearEstop s).cache = s.cache ∧ (clearEstop s).heading = s.heading ∧ (clearEstop s).settings = s.settings
      ∧ (clearEstop s).scan = s.scan := by
  unfold clearEstop
  repeat' split
  all_goals simp

@[simp] theorem clearStowFailed_frame (s : State) :
    (clearStowFailed s).pending = s.pending ∧ (clearStowFailed s).powered = s.powered ∧ (clearStowFailed s).exe = s.exe
      ∧ (clearStowFailed s).pose = s.pose ∧ (clearStowFailed s).safe = s.safe ∧ (clearStowFailed s).store = s.store
      ∧ (clearStowFailed s).cache = s.cache ∧ (clearStowFailed s).heading = s.heading
      ∧ (clearStowFailed s).settings = s.settings ∧ (clearStowFailed s).scan = s.scan := by
  unfold clearStowFailed
  repeat' split
  all_goals simp

@[simp] theorem clearLockout_frame (p : Port) (s : State) :
    (clearLockout p s).pending = s.pending ∧ (clearLockout p s).powered = s.powered ∧ (clearLockout p s).pose = s.pose
      ∧ (clearLockout p s).safe.pulses = s.safe.pulses ∧ (clearLockout p s).safe.speed = s.safe.speed
      ∧ (clearLockout p s).safe.windClass = s.safe.windClass ∧ (clearLockout p s).safe.calm = s.safe.calm
      ∧ (clearLockout p s).safe.ease = s.safe.ease ∧ (clearLockout p s).safe.park = s.safe.park
      ∧ (clearLockout p s).safe.estop = s.safe.estop ∧ (clearLockout p s).safe.supplyOk = s.safe.supplyOk
      ∧ (clearLockout p s).safe.manualReq = s.safe.manualReq ∧ (clearLockout p s).safe.resetLine = s.safe.resetLine
      ∧ (clearLockout p s).store = s.store ∧ (clearLockout p s).cache = s.cache
      ∧ (clearLockout p s).heading = s.heading ∧ (clearLockout p s).settings = s.settings := by
  unfold clearLockout
  dsimp only
  repeat' split
  all_goals simp

@[simp] theorem clearLatches_frame (p : Port) (s : State) :
    (clearLatches p s).pending = s.pending ∧ (clearLatches p s).powered = s.powered
      ∧ (clearLatches p s).pose.level = s.pose.level ∧ (clearLatches p s).arb.auth = s.arb.auth
      ∧ (clearLatches p s).arb.holder = s.arb.holder ∧ (clearLatches p s).arb.claims = s.arb.claims
      ∧ (clearLatches p s).arb.releaseMark = s.arb.releaseMark ∧ (clearLatches p s).arb.reasons = s.arb.reasons
      ∧ (clearLatches p s).arb.grant = s.arb.grant ∧ (clearLatches p s).arb.deferred = s.arb.deferred
      ∧ (clearLatches p s).arb.crankEnd = s.arb.crankEnd ∧ (clearLatches p s).exe = s.exe
      ∧ (clearLatches p s).safe = s.safe ∧ (clearLatches p s).store = s.store ∧ (clearLatches p s).cache = s.cache
      ∧ (clearLatches p s).heading = s.heading ∧ (clearLatches p s).settings = s.settings
      ∧ (clearLatches p s).scan = s.scan := by
  unfold clearLatches
  dsimp only
  repeat' split
  all_goals simp

/-! ### Motion -/

@[simp] theorem queueMoves_frame (p : Port) (lock : Byte) (moves : List RawMove) (s : State) :
    (queueMoves p lock moves s).pending = s.pending ∧ (queueMoves p lock moves s).powered = s.powered
      ∧ (queueMoves p lock moves s).pose = s.pose ∧ (queueMoves p lock moves s).safe.pulses = s.safe.pulses
      ∧ (queueMoves p lock moves s).safe.speed = s.safe.speed
      ∧ (queueMoves p lock moves s).safe.windClass = s.safe.windClass
      ∧ (queueMoves p lock moves s).safe.calm = s.safe.calm ∧ (queueMoves p lock moves s).safe.ease = s.safe.ease
      ∧ (queueMoves p lock moves s).safe.park = s.safe.park ∧ (queueMoves p lock moves s).safe.estop = s.safe.estop
      ∧ (queueMoves p lock moves s).safe.supplyOk = s.safe.supplyOk
      ∧ (queueMoves p lock moves s).safe.manualReq = s.safe.manualReq
      ∧ (queueMoves p lock moves s).safe.resetLine = s.safe.resetLine ∧ (queueMoves p lock moves s).store = s.store
      ∧ (queueMoves p lock moves s).cache = s.cache ∧ (queueMoves p lock moves s).heading = s.heading
      ∧ (queueMoves p lock moves s).settings = s.settings := by
  unfold queueMoves
  dsimp only
  repeat' split
  all_goals simp [submit]

@[simp] theorem haltMotion_frame (p : Port) (s : State) :
    (haltMotion p s).pending = s.pending ∧ (haltMotion p s).powered = s.powered ∧ (haltMotion p s).pose = s.pose
      ∧ (haltMotion p s).safe.pulses = s.safe.pulses ∧ (haltMotion p s).safe.speed = s.safe.speed
      ∧ (haltMotion p s).safe.windClass = s.safe.windClass ∧ (haltMotion p s).safe.calm = s.safe.calm
      ∧ (haltMotion p s).safe.ease = s.safe.ease ∧ (haltMotion p s).safe.park = s.safe.park
      ∧ (haltMotion p s).safe.estop = s.safe.estop ∧ (haltMotion p s).safe.supplyOk = s.safe.supplyOk
      ∧ (haltMotion p s).safe.manualReq = s.safe.manualReq ∧ (haltMotion p s).safe.resetLine = s.safe.resetLine
      ∧ (haltMotion p s).store = s.store ∧ (haltMotion p s).cache = s.cache ∧ (haltMotion p s).heading = s.heading
      ∧ (haltMotion p s).settings = s.settings := by
  unfold haltMotion
  simp

@[simp] theorem clearAxis_frame (p : Port) (axis : Byte) (s : State) :
    (clearAxis p axis s).pending = s.pending ∧ (clearAxis p axis s).powered = s.powered
      ∧ (clearAxis p axis s).pose.level = s.pose.level ∧ (clearAxis p axis s).arb.auth = s.arb.auth
      ∧ (clearAxis p axis s).arb.holder = s.arb.holder ∧ (clearAxis p axis s).arb.claims = s.arb.claims
      ∧ (clearAxis p axis s).arb.releaseMark = s.arb.releaseMark ∧ (clearAxis p axis s).arb.reasons = s.arb.reasons
      ∧ (clearAxis p axis s).arb.grant = s.arb.grant ∧ (clearAxis p axis s).arb.deferred = s.arb.deferred
      ∧ (clearAxis p axis s).arb.crankEnd = s.arb.crankEnd ∧ (clearAxis p axis s).exe = s.exe
      ∧ (clearAxis p axis s).safe = s.safe ∧ (clearAxis p axis s).store = s.store
      ∧ (clearAxis p axis s).cache = s.cache ∧ (clearAxis p axis s).heading = s.heading
      ∧ (clearAxis p axis s).settings = s.settings ∧ (clearAxis p axis s).scan = s.scan := by
  unfold clearAxis
  repeat' split
  all_goals simp

@[simp] theorem followMove_frame (e : Entry) (a : Axis) (s : State) :
    (followMove e a s).pending = s.pending ∧ (followMove e a s).powered = s.powered ∧ (followMove e a s).arb = s.arb
      ∧ (followMove e a s).pose = s.pose ∧ (followMove e a s).safe = s.safe ∧ (followMove e a s).store = s.store
      ∧ (followMove e a s).cache = s.cache ∧ (followMove e a s).heading = s.heading
      ∧ (followMove e a s).settings = s.settings ∧ (followMove e a s).scan = s.scan := by
  unfold followMove
  dsimp only
  repeat' split
  all_goals simp

@[simp] theorem followScan_frame (x : Scan) (s : State) :
    (followScan x s).pending = s.pending ∧ (followScan x s).powered = s.powered ∧ (followScan x s).arb = s.arb
      ∧ (followScan x s).pose = s.pose ∧ (followScan x s).safe = s.safe ∧ (followScan x s).store = s.store
      ∧ (followScan x s).heading = s.heading ∧ (followScan x s).settings = s.settings := by
  unfold followScan
  dsimp only
  repeat' split
  all_goals simp

@[simp] theorem followActive_frame (s : State) :
    (followActive s).pending = s.pending ∧ (followActive s).powered = s.powered ∧ (followActive s).arb = s.arb
      ∧ (followActive s).pose = s.pose ∧ (followActive s).safe = s.safe ∧ (followActive s).store = s.store
      ∧ (followActive s).heading = s.heading ∧ (followActive s).settings = s.settings := by
  unfold followActive
  repeat' split
  all_goals simp

@[simp] theorem stallWindow_frame (a : Axis) (s : State) :
    (stallWindow a s).pending = s.pending ∧ (stallWindow a s).powered = s.powered ∧ (stallWindow a s).pose = s.pose
      ∧ (stallWindow a s).safe.pulses = s.safe.pulses ∧ (stallWindow a s).safe.speed = s.safe.speed
      ∧ (stallWindow a s).safe.windClass = s.safe.windClass ∧ (stallWindow a s).safe.calm = s.safe.calm
      ∧ (stallWindow a s).safe.ease = s.safe.ease ∧ (stallWindow a s).safe.park = s.safe.park
      ∧ (stallWindow a s).safe.estop = s.safe.estop ∧ (stallWindow a s).safe.supplyOk = s.safe.supplyOk
      ∧ (stallWindow a s).safe.manualReq = s.safe.manualReq ∧ (stallWindow a s).safe.resetLine = s.safe.resetLine
      ∧ (stallWindow a s).store = s.store ∧ (stallWindow a s).cache = s.cache ∧ (stallWindow a s).heading = s.heading
      ∧ (stallWindow a s).settings = s.settings := by
  unfold stallWindow
  repeat' split
  all_goals simp

@[simp] theorem settlingTimeout_frame (a : Axis) (s : State) :
    (settlingTimeout a s).pending = s.pending ∧ (settlingTimeout a s).powered = s.powered
      ∧ (settlingTimeout a s).pose = s.pose ∧ (settlingTimeout a s).safe.pulses = s.safe.pulses
      ∧ (settlingTimeout a s).safe.speed = s.safe.speed ∧ (settlingTimeout a s).safe.windClass = s.safe.windClass
      ∧ (settlingTimeout a s).safe.calm = s.safe.calm ∧ (settlingTimeout a s).safe.ease = s.safe.ease
      ∧ (settlingTimeout a s).safe.park = s.safe.park ∧ (settlingTimeout a s).safe.estop = s.safe.estop
      ∧ (settlingTimeout a s).safe.supplyOk = s.safe.supplyOk ∧ (settlingTimeout a s).safe.manualReq = s.safe.manualReq
      ∧ (settlingTimeout a s).safe.resetLine = s.safe.resetLine ∧ (settlingTimeout a s).store = s.store
      ∧ (settlingTimeout a s).cache = s.cache ∧ (settlingTimeout a s).heading = s.heading
      ∧ (settlingTimeout a s).settings = s.settings := by
  unfold settlingTimeout
  repeat' split
  all_goals simp

@[simp] theorem faultRestless_frame (axes : Axes Bool) (s : State) :
    (faultRestless axes s).pending = s.pending ∧ (faultRestless axes s).powered = s.powered
      ∧ (faultRestless axes s).pose.level = s.pose.level ∧ (faultRestless axes s).ports = s.ports
      ∧ (faultRestless axes s).arb = s.arb ∧ (faultRestless axes s).exe = s.exe ∧ (faultRestless axes s).safe = s.safe
      ∧ (faultRestless axes s).store = s.store ∧ (faultRestless axes s).cache = s.cache
      ∧ (faultRestless axes s).heading = s.heading ∧ (faultRestless axes s).settings = s.settings
      ∧ (faultRestless axes s).scan = s.scan := by
  unfold faultRestless
  dsimp only
  simp

@[simp] theorem setFaultLine_frame (a : Axis) (asserted : Bool) (s : State) :
    (setFaultLine a asserted s).pending = s.pending ∧ (setFaultLine a asserted s).powered = s.powered
      ∧ (setFaultLine a asserted s).pose.level = s.pose.level ∧ (setFaultLine a asserted s).ports = s.ports
      ∧ (setFaultLine a asserted s).arb = s.arb ∧ (setFaultLine a asserted s).exe = s.exe
      ∧ (setFaultLine a asserted s).safe = s.safe ∧ (setFaultLine a asserted s).store = s.store
      ∧ (setFaultLine a asserted s).cache = s.cache ∧ (setFaultLine a asserted s).heading = s.heading
      ∧ (setFaultLine a asserted s).settings = s.settings ∧ (setFaultLine a asserted s).scan = s.scan := by
  unfold setFaultLine
  dsimp only
  simp

@[simp] theorem failOnAxis_frame (a : Axis) (s : State) :
    (failOnAxis a s).pending = s.pending ∧ (failOnAxis a s).powered = s.powered ∧ (failOnAxis a s).arb = s.arb
      ∧ (failOnAxis a s).pose = s.pose ∧ (failOnAxis a s).safe.pulses = s.safe.pulses
      ∧ (failOnAxis a s).safe.speed = s.safe.speed ∧ (failOnAxis a s).safe.windClass = s.safe.windClass
      ∧ (failOnAxis a s).safe.calm = s.safe.calm ∧ (failOnAxis a s).safe.ease = s.safe.ease
      ∧ (failOnAxis a s).safe.park = s.safe.park ∧ (failOnAxis a s).safe.estop = s.safe.estop
      ∧ (failOnAxis a s).safe.supplyOk = s.safe.supplyOk ∧ (failOnAxis a s).safe.manualReq = s.safe.manualReq
      ∧ (failOnAxis a s).safe.resetLine = s.safe.resetLine ∧ (failOnAxis a s).store = s.store
      ∧ (failOnAxis a s).cache = s.cache ∧ (failOnAxis a s).heading = s.heading
      ∧ (failOnAxis a s).settings = s.settings := by
  unfold failOnAxis
  repeat' split
  all_goals simp

@[simp] theorem takeFault_frame (a : Axis) (s : State) :
    (takeFault a s).pending = s.pending ∧ (takeFault a s).powered = s.powered
      ∧ (takeFault a s).pose.level = s.pose.level ∧ (takeFault a s).safe.pulses = s.safe.pulses
      ∧ (takeFault a s).safe.speed = s.safe.speed ∧ (takeFault a s).safe.windClass = s.safe.windClass
      ∧ (takeFault a s).safe.calm = s.safe.calm ∧ (takeFault a s).safe.ease = s.safe.ease
      ∧ (takeFault a s).safe.park = s.safe.park ∧ (takeFault a s).safe.estop = s.safe.estop
      ∧ (takeFault a s).safe.supplyOk = s.safe.supplyOk ∧ (takeFault a s).safe.manualReq = s.safe.manualReq
      ∧ (takeFault a s).safe.resetLine = s.safe.resetLine ∧ (takeFault a s).store = s.store
      ∧ (takeFault a s).cache = s.cache ∧ (takeFault a s).heading = s.heading ∧ (takeFault a s).settings = s.settings := by
  unfold takeFault
  repeat' split
  all_goals simp

@[simp] theorem setLatch_frame (s : State) :
    (setLatch s).pending = s.pending ∧ (setLatch s).powered = s.powered ∧ (setLatch s).pose.level = s.pose.level
      ∧ (setLatch s).arb = s.arb ∧ (setLatch s).exe = s.exe ∧ (setLatch s).safe = s.safe ∧ (setLatch s).store = s.store
      ∧ (setLatch s).cache = s.cache ∧ (setLatch s).heading = s.heading ∧ (setLatch s).settings = s.settings
      ∧ (setLatch s).scan = s.scan := by
  unfold setLatch
  dsimp only
  repeat' split
  all_goals simp

@[simp] theorem failRaising_frame (s : State) :
    (failRaising s).pending = s.pending ∧ (failRaising s).powered = s.powered ∧ (failRaising s).pose = s.pose
      ∧ (failRaising s).safe.pulses = s.safe.pulses ∧ (failRaising s).safe.speed = s.safe.speed
      ∧ (failRaising s).safe.windClass = s.safe.windClass ∧ (failRaising s).safe.calm = s.safe.calm
      ∧ (failRaising s).safe.ease = s.safe.ease ∧ (failRaising s).safe.park = s.safe.park
      ∧ (failRaising s).safe.estop = s.safe.estop ∧ (failRaising s).safe.supplyOk = s.safe.supplyOk
      ∧ (failRaising s).safe.manualReq = s.safe.manualReq ∧ (failRaising s).safe.resetLine = s.safe.resetLine
      ∧ (failRaising s).store = s.store ∧ (failRaising s).cache = s.cache ∧ (failRaising s).heading = s.heading
      ∧ (failRaising s).settings = s.settings := by
  unfold failRaising
  repeat' split
  all_goals simp

/-! ### Aiming and peaking -/

@[simp] theorem setHeading_frame (p : Port) (value : Int) (s : State) :
    (setHeading p value s).pending = s.pending ∧ (setHeading p value s).powered = s.powered
      ∧ (setHeading p value s).arb.auth = s.arb.auth ∧ (setHeading p value s).arb.holder = s.arb.holder
      ∧ (setHeading p value s).arb.claims = s.arb.claims ∧ (setHeading p value s).arb.releaseMark = s.arb.releaseMark
      ∧ (setHeading p value s).arb.reasons = s.arb.reasons ∧ (setHeading p value s).arb.grant = s.arb.grant
      ∧ (setHeading p value s).arb.deferred = s.arb.deferred ∧ (setHeading p value s).arb.crankEnd = s.arb.crankEnd
      ∧ (setHeading p value s).exe = s.exe ∧ (setHeading p value s).pose = s.pose
      ∧ (setHeading p value s).safe = s.safe ∧ (setHeading p value s).store = s.store
      ∧ (setHeading p value s).cache = s.cache ∧ (setHeading p value s).settings = s.settings
      ∧ (setHeading p value s).scan = s.scan := by
  unfold setHeading
  repeat' split
  all_goals simp

@[simp] theorem aimAt_frame (p : Port) (r : Request) (slot : Nat) (flag : Byte) (site : SiteFields) (heading : Int) (s : State) :
    (aimAt p r slot flag site heading s).pending = s.pending ∧ (aimAt p r slot flag site heading s).powered = s.powered
      ∧ (aimAt p r slot flag site heading s).pose = s.pose
      ∧ (aimAt p r slot flag site heading s).safe.pulses = s.safe.pulses
      ∧ (aimAt p r slot flag site heading s).safe.speed = s.safe.speed
      ∧ (aimAt p r slot flag site heading s).safe.windClass = s.safe.windClass
      ∧ (aimAt p r slot flag site heading s).safe.calm = s.safe.calm
      ∧ (aimAt p r slot flag site heading s).safe.ease = s.safe.ease
      ∧ (aimAt p r slot flag site heading s).safe.park = s.safe.park
      ∧ (aimAt p r slot flag site heading s).safe.estop = s.safe.estop
      ∧ (aimAt p r slot flag site heading s).safe.supplyOk = s.safe.supplyOk
      ∧ (aimAt p r slot flag site heading s).safe.manualReq = s.safe.manualReq
      ∧ (aimAt p r slot flag site heading s).safe.resetLine = s.safe.resetLine
      ∧ (aimAt p r slot flag site heading s).store = s.store ∧ (aimAt p r slot flag site heading s).heading = s.heading
      ∧ (aimAt p r slot flag site heading s).settings = s.settings := by
  unfold aimAt
  dsimp only
  repeat' split
  all_goals simp [submit]

@[simp] theorem resolveAim_frame (p : Port) (r : Request) (slot : Nat) (flag : Byte) (s : State) :
    (resolveAim p r slot flag s).pending = s.pending ∧ (resolveAim p r slot flag s).powered = s.powered
      ∧ (resolveAim p r slot flag s).pose = s.pose ∧ (resolveAim p r slot flag s).safe.pulses = s.safe.pulses
      ∧ (resolveAim p r slot flag s).safe.speed = s.safe.speed
      ∧ (resolveAim p r slot flag s).safe.windClass = s.safe.windClass
      ∧ (resolveAim p r slot flag s).safe.calm = s.safe.calm ∧ (resolveAim p r slot flag s).safe.ease = s.safe.ease
      ∧ (resolveAim p r slot flag s).safe.park = s.safe.park ∧ (resolveAim p r slot flag s).safe.estop = s.safe.estop
      ∧ (resolveAim p r slot flag s).safe.supplyOk = s.safe.supplyOk
      ∧ (resolveAim p r slot flag s).safe.manualReq = s.safe.manualReq
      ∧ (resolveAim p r slot flag s).safe.resetLine = s.safe.resetLine ∧ (resolveAim p r slot flag s).store = s.store
      ∧ (resolveAim p r slot flag s).heading = s.heading ∧ (resolveAim p r slot flag s).settings = s.settings := by
  unfold resolveAim
  repeat' split
  all_goals simp

@[simp] theorem aim_frame (p : Port) (slot : Nat) (heading : Option Int) (flag : Byte) (s : State) :
    (aim p slot heading flag s).pending = s.pending ∧ (aim p slot heading flag s).powered = s.powered
      ∧ (aim p slot heading flag s).pose = s.pose ∧ (aim p slot heading flag s).safe.pulses = s.safe.pulses
      ∧ (aim p slot heading flag s).safe.speed = s.safe.speed
      ∧ (aim p slot heading flag s).safe.windClass = s.safe.windClass
      ∧ (aim p slot heading flag s).safe.calm = s.safe.calm ∧ (aim p slot heading flag s).safe.ease = s.safe.ease
      ∧ (aim p slot heading flag s).safe.park = s.safe.park ∧ (aim p slot heading flag s).safe.estop = s.safe.estop
      ∧ (aim p slot heading flag s).safe.supplyOk = s.safe.supplyOk
      ∧ (aim p slot heading flag s).safe.manualReq = s.safe.manualReq
      ∧ (aim p slot heading flag s).safe.resetLine = s.safe.resetLine ∧ (aim p slot heading flag s).store = s.store
      ∧ (aim p slot heading flag s).settings = s.settings := by
  unfold aim
  dsimp only
  repeat' split
  all_goals simp

@[simp] theorem stow_frame (p : Port) (s : State) :
    (stow p s).pending = s.pending ∧ (stow p s).powered = s.powered ∧ (stow p s).pose = s.pose
      ∧ (stow p s).safe.pulses = s.safe.pulses ∧ (stow p s).safe.speed = s.safe.speed
      ∧ (stow p s).safe.windClass = s.safe.windClass ∧ (stow p s).safe.calm = s.safe.calm
      ∧ (stow p s).safe.ease = s.safe.ease ∧ (stow p s).safe.park = s.safe.park ∧ (stow p s).safe.estop = s.safe.estop
      ∧ (stow p s).safe.supplyOk = s.safe.supplyOk ∧ (stow p s).safe.manualReq = s.safe.manualReq
      ∧ (stow p s).safe.resetLine = s.safe.resetLine ∧ (stow p s).store = s.store ∧ (stow p s).cache = s.cache
      ∧ (stow p s).heading = s.heading ∧ (stow p s).settings = s.settings := by
  unfold stow
  dsimp only
  repeat' split
  all_goals simp [submit]

@[simp] theorem placeScan_frame (p : Port) (r : Request) (slot : Option Nat) (q : ScanParams) (s : State) :
    (placeScan p r slot q s).pending = s.pending ∧ (placeScan p r slot q s).powered = s.powered
      ∧ (placeScan p r slot q s).pose = s.pose ∧ (placeScan p r slot q s).safe.pulses = s.safe.pulses
      ∧ (placeScan p r slot q s).safe.speed = s.safe.speed ∧ (placeScan p r slot q s).safe.windClass = s.safe.windClass
      ∧ (placeScan p r slot q s).safe.calm = s.safe.calm ∧ (placeScan p r slot q s).safe.ease = s.safe.ease
      ∧ (placeScan p r slot q s).safe.park = s.safe.park ∧ (placeScan p r slot q s).safe.estop = s.safe.estop
      ∧ (placeScan p r slot q s).safe.supplyOk = s.safe.supplyOk
      ∧ (placeScan p r slot q s).safe.manualReq = s.safe.manualReq
      ∧ (placeScan p r slot q s).safe.resetLine = s.safe.resetLine ∧ (placeScan p r slot q s).store = s.store
      ∧ (placeScan p r slot q s).cache = s.cache ∧ (placeScan p r slot q s).heading = s.heading
      ∧ (placeScan p r slot q s).settings = s.settings := by
  unfold placeScan
  repeat' split
  all_goals simp [submit]

@[simp] theorem buildPeak_frame (p : Port) (q : PeakParams) (s : State) :
    (buildPeak p q s).pending = s.pending ∧ (buildPeak p q s).powered = s.powered ∧ (buildPeak p q s).pose = s.pose
      ∧ (buildPeak p q s).safe.pulses = s.safe.pulses ∧ (buildPeak p q s).safe.speed = s.safe.speed
      ∧ (buildPeak p q s).safe.windClass = s.safe.windClass ∧ (buildPeak p q s).safe.calm = s.safe.calm
      ∧ (buildPeak p q s).safe.ease = s.safe.ease ∧ (buildPeak p q s).safe.park = s.safe.park
      ∧ (buildPeak p q s).safe.estop = s.safe.estop ∧ (buildPeak p q s).safe.supplyOk = s.safe.supplyOk
      ∧ (buildPeak p q s).safe.manualReq = s.safe.manualReq ∧ (buildPeak p q s).safe.resetLine = s.safe.resetLine
      ∧ (buildPeak p q s).store = s.store ∧ (buildPeak p q s).cache = s.cache ∧ (buildPeak p q s).heading = s.heading
      ∧ (buildPeak p q s).settings = s.settings := by
  unfold buildPeak
  repeat' split
  all_goals simp

@[simp] theorem peak_frame (p : Port) (q : PeakParams) (s : State) :
    (peak p q s).pending = s.pending ∧ (peak p q s).powered = s.powered ∧ (peak p q s).pose = s.pose
      ∧ (peak p q s).safe.pulses = s.safe.pulses ∧ (peak p q s).safe.speed = s.safe.speed
      ∧ (peak p q s).safe.windClass = s.safe.windClass ∧ (peak p q s).safe.calm = s.safe.calm
      ∧ (peak p q s).safe.ease = s.safe.ease ∧ (peak p q s).safe.park = s.safe.park
      ∧ (peak p q s).safe.estop = s.safe.estop ∧ (peak p q s).safe.supplyOk = s.safe.supplyOk
      ∧ (peak p q s).safe.manualReq = s.safe.manualReq ∧ (peak p q s).safe.resetLine = s.safe.resetLine
      ∧ (peak p q s).store = s.store ∧ (peak p q s).cache = s.cache ∧ (peak p q s).heading = s.heading
      ∧ (peak p q s).settings = s.settings := by
  unfold peak
  repeat' split
  all_goals simp

@[simp] theorem endDwell_frame (millivolts : Int) (s : State) :
    (endDwell millivolts s).pending = s.pending ∧ (endDwell millivolts s).powered = s.powered
      ∧ (endDwell millivolts s).pose = s.pose ∧ (endDwell millivolts s).safe.pulses = s.safe.pulses
      ∧ (endDwell millivolts s).safe.speed = s.safe.speed ∧ (endDwell millivolts s).safe.windClass = s.safe.windClass
      ∧ (endDwell millivolts s).safe.calm = s.safe.calm ∧ (endDwell millivolts s).safe.ease = s.safe.ease
      ∧ (endDwell millivolts s).safe.park = s.safe.park ∧ (endDwell millivolts s).safe.estop = s.safe.estop
      ∧ (endDwell millivolts s).safe.supplyOk = s.safe.supplyOk
      ∧ (endDwell millivolts s).safe.manualReq = s.safe.manualReq
      ∧ (endDwell millivolts s).safe.resetLine = s.safe.resetLine ∧ (endDwell millivolts s).store = s.store
      ∧ (endDwell millivolts s).heading = s.heading ∧ (endDwell millivolts s).settings = s.settings := by
  unfold endDwell
  repeat' split
  all_goals simp

@[simp] theorem expireLevelWait_frame (s : State) :
    (expireLevelWait s).pending = s.pending ∧ (expireLevelWait s).powered = s.powered
      ∧ (expireLevelWait s).pose = s.pose ∧ (expireLevelWait s).safe.pulses = s.safe.pulses
      ∧ (expireLevelWait s).safe.speed = s.safe.speed ∧ (expireLevelWait s).safe.windClass = s.safe.windClass
      ∧ (expireLevelWait s).safe.calm = s.safe.calm ∧ (expireLevelWait s).safe.ease = s.safe.ease
      ∧ (expireLevelWait s).safe.park = s.safe.park ∧ (expireLevelWait s).safe.estop = s.safe.estop
      ∧ (expireLevelWait s).safe.supplyOk = s.safe.supplyOk ∧ (expireLevelWait s).safe.manualReq = s.safe.manualReq
      ∧ (expireLevelWait s).safe.resetLine = s.safe.resetLine ∧ (expireLevelWait s).store = s.store
      ∧ (expireLevelWait s).cache = s.cache ∧ (expireLevelWait s).heading = s.heading
      ∧ (expireLevelWait s).settings = s.settings := by
  unfold expireLevelWait
  repeat' split
  all_goals simp

@[simp] theorem keepReport_frame (level : Int) (s : State) :
    (keepReport level s).pending = s.pending ∧ (keepReport level s).powered = s.powered
      ∧ (keepReport level s).ports = s.ports ∧ (keepReport level s).arb = s.arb ∧ (keepReport level s).exe = s.exe
      ∧ (keepReport level s).pose = s.pose ∧ (keepReport level s).safe = s.safe ∧ (keepReport level s).store = s.store
      ∧ (keepReport level s).cache = s.cache ∧ (keepReport level s).heading = s.heading
      ∧ (keepReport level s).settings = s.settings := by
  unfold keepReport
  dsimp only
  simp

@[simp] theorem sampleReport_frame (level : Int) (s : State) :
    (sampleReport level s).pending = s.pending ∧ (sampleReport level s).powered = s.powered
      ∧ (sampleReport level s).pose = s.pose ∧ (sampleReport level s).safe.pulses = s.safe.pulses
      ∧ (sampleReport level s).safe.speed = s.safe.speed ∧ (sampleReport level s).safe.windClass = s.safe.windClass
      ∧ (sampleReport level s).safe.calm = s.safe.calm ∧ (sampleReport level s).safe.ease = s.safe.ease
      ∧ (sampleReport level s).safe.park = s.safe.park ∧ (sampleReport level s).safe.estop = s.safe.estop
      ∧ (sampleReport level s).safe.supplyOk = s.safe.supplyOk
      ∧ (sampleReport level s).safe.manualReq = s.safe.manualReq
      ∧ (sampleReport level s).safe.resetLine = s.safe.resetLine ∧ (sampleReport level s).store = s.store
      ∧ (sampleReport level s).heading = s.heading ∧ (sampleReport level s).settings = s.settings := by
  unfold sampleReport
  repeat' split
  all_goals simp

@[simp] theorem levelReport_frame (p : Port) (level : Int) (s : State) :
    (levelReport p level s).pending = s.pending ∧ (levelReport p level s).powered = s.powered
      ∧ (levelReport p level s).pose = s.pose ∧ (levelReport p level s).safe.pulses = s.safe.pulses
      ∧ (levelReport p level s).safe.speed = s.safe.speed ∧ (levelReport p level s).safe.windClass = s.safe.windClass
      ∧ (levelReport p level s).safe.calm = s.safe.calm ∧ (levelReport p level s).safe.ease = s.safe.ease
      ∧ (levelReport p level s).safe.park = s.safe.park ∧ (levelReport p level s).safe.estop = s.safe.estop
      ∧ (levelReport p level s).safe.supplyOk = s.safe.supplyOk
      ∧ (levelReport p level s).safe.manualReq = s.safe.manualReq
      ∧ (levelReport p level s).safe.resetLine = s.safe.resetLine ∧ (levelReport p level s).store = s.store
      ∧ (levelReport p level s).heading = s.heading ∧ (levelReport p level s).settings = s.settings := by
  unfold levelReport
  repeat' split
  all_goals simp

/-! ### The site table, the cache and the settings -/

@[simp] theorem answerBusy_frame (p : Port) (r : Request) (s : State) :
    (answerBusy p r s).pending = s.pending ∧ (answerBusy p r s).powered = s.powered
      ∧ (answerBusy p r s).arb.auth = s.arb.auth ∧ (answerBusy p r s).arb.holder = s.arb.holder
      ∧ (answerBusy p r s).arb.claims = s.arb.claims ∧ (answerBusy p r s).arb.releaseMark = s.arb.releaseMark
      ∧ (answerBusy p r s).arb.reasons = s.arb.reasons ∧ (answerBusy p r s).arb.grant = s.arb.grant
      ∧ (answerBusy p r s).arb.deferred = s.arb.deferred ∧ (answerBusy p r s).arb.crankEnd = s.arb.crankEnd
      ∧ (answerBusy p r s).exe = s.exe ∧ (answerBusy p r s).pose = s.pose ∧ (answerBusy p r s).safe = s.safe
      ∧ (answerBusy p r s).store = s.store ∧ (answerBusy p r s).cache = s.cache
      ∧ (answerBusy p r s).heading = s.heading ∧ (answerBusy p r s).settings = s.settings
      ∧ (answerBusy p r s).scan = s.scan := by
  unfold answerBusy
  simp

@[simp] theorem readSite_frame (p : Port) (slot : Nat) (s : State) :
    (readSite p slot s).pending = s.pending ∧ (readSite p slot s).powered = s.powered
      ∧ (readSite p slot s).arb.auth = s.arb.auth ∧ (readSite p slot s).arb.holder = s.arb.holder
      ∧ (readSite p slot s).arb.claims = s.arb.claims ∧ (readSite p slot s).arb.releaseMark = s.arb.releaseMark
      ∧ (readSite p slot s).arb.reasons = s.arb.reasons ∧ (readSite p slot s).arb.grant = s.arb.grant
      ∧ (readSite p slot s).arb.deferred = s.arb.deferred ∧ (readSite p slot s).arb.crankEnd = s.arb.crankEnd
      ∧ (readSite p slot s).exe = s.exe ∧ (readSite p slot s).pose = s.pose ∧ (readSite p slot s).safe = s.safe
      ∧ (readSite p slot s).store = s.store ∧ (readSite p slot s).cache = s.cache
      ∧ (readSite p slot s).heading = s.heading ∧ (readSite p slot s).settings = s.settings
      ∧ (readSite p slot s).scan = s.scan := by
  unfold readSite
  repeat' split
  all_goals simp

@[simp] theorem stageSite_frame (p : Port) (slot : Nat) (fields : SiteFields) (s : State) :
    (stageSite p slot fields s).pending = s.pending ∧ (stageSite p slot fields s).powered = s.powered
      ∧ (stageSite p slot fields s).arb.auth = s.arb.auth ∧ (stageSite p slot fields s).arb.holder = s.arb.holder
      ∧ (stageSite p slot fields s).arb.claims = s.arb.claims
      ∧ (stageSite p slot fields s).arb.releaseMark = s.arb.releaseMark
      ∧ (stageSite p slot fields s).arb.reasons = s.arb.reasons ∧ (stageSite p slot fields s).arb.grant = s.arb.grant
      ∧ (stageSite p slot fields s).arb.deferred = s.arb.deferred
      ∧ (stageSite p slot fields s).arb.crankEnd = s.arb.crankEnd ∧ (stageSite p slot fields s).exe = s.exe
      ∧ (stageSite p slot fields s).pose = s.pose ∧ (stageSite p slot fields s).safe = s.safe
      ∧ (stageSite p slot fields s).cache = s.cache ∧ (stageSite p slot fields s).heading = s.heading
      ∧ (stageSite p slot fields s).settings = s.settings ∧ (stageSite p slot fields s).scan = s.scan := by
  unfold stageSite
  dsimp only
  repeat' split
  all_goals simp

@[simp] theorem commitSite_frame (p : Port) (slot : Nat) (check : Check) (s : State) :
    (commitSite p slot check s).pending = s.pending ∧ (commitSite p slot check s).powered = s.powered
      ∧ (commitSite p slot check s).arb.auth = s.arb.auth ∧ (commitSite p slot check s).arb.holder = s.arb.holder
      ∧ (commitSite p slot check s).arb.claims = s.arb.claims
      ∧ (commitSite p slot check s).arb.releaseMark = s.arb.releaseMark
      ∧ (commitSite p slot check s).arb.reasons = s.arb.reasons ∧ (commitSite p slot check s).arb.grant = s.arb.grant
      ∧ (commitSite p slot check s).arb.deferred = s.arb.deferred
      ∧ (commitSite p slot check s).arb.crankEnd = s.arb.crankEnd ∧ (commitSite p slot check s).exe = s.exe
      ∧ (commitSite p slot check s).pose = s.pose ∧ (commitSite p slot check s).safe = s.safe
      ∧ (commitSite p slot check s).cache = s.cache ∧ (commitSite p slot check s).heading = s.heading
      ∧ (commitSite p slot check s).settings = s.settings ∧ (commitSite p slot check s).scan = s.scan := by
  unfold commitSite commitCandidate beginCommit
  dsimp only
  repeat' split
  all_goals simp

@[simp] theorem retireSite_frame (p : Port) (slot : Nat) (redirection : Option Nat) (s : State) :
    (retireSite p slot redirection s).pending = s.pending ∧ (retireSite p slot redirection s).powered = s.powered
      ∧ (retireSite p slot redirection s).arb.auth = s.arb.auth
      ∧ (retireSite p slot redirection s).arb.holder = s.arb.holder
      ∧ (retireSite p slot redirection s).arb.claims = s.arb.claims
      ∧ (retireSite p slot redirection s).arb.releaseMark = s.arb.releaseMark
      ∧ (retireSite p slot redirection s).arb.reasons = s.arb.reasons
      ∧ (retireSite p slot redirection s).arb.grant = s.arb.grant
      ∧ (retireSite p slot redirection s).arb.deferred = s.arb.deferred
      ∧ (retireSite p slot redirection s).arb.crankEnd = s.arb.crankEnd ∧ (retireSite p slot redirection s).exe = s.exe
      ∧ (retireSite p slot redirection s).pose = s.pose ∧ (retireSite p slot redirection s).safe = s.safe
      ∧ (retireSite p slot redirection s).heading = s.heading ∧ (retireSite p slot redirection s).settings = s.settings
      ∧ (retireSite p slot redirection s).scan = s.scan := by
  unfold retireSite retireSlot beginRetire
  dsimp only
  repeat' split
  all_goals simp

@[simp] theorem eraseTable_frame (p : Port) (s : State) :
    (eraseTable p s).pending = s.pending ∧ (eraseTable p s).powered = s.powered
      ∧ (eraseTable p s).arb.auth = s.arb.auth ∧ (eraseTable p s).arb.holder = s.arb.holder
      ∧ (eraseTable p s).arb.claims = s.arb.claims ∧ (eraseTable p s).arb.releaseMark = s.arb.releaseMark
      ∧ (eraseTable p s).arb.reasons = s.arb.reasons ∧ (eraseTable p s).arb.grant = s.arb.grant
      ∧ (eraseTable p s).arb.deferred = s.arb.deferred ∧ (eraseTable p s).arb.crankEnd = s.arb.crankEnd
      ∧ (eraseTable p s).exe = s.exe ∧ (eraseTable p s).pose = s.pose ∧ (eraseTable p s).safe = s.safe
      ∧ (eraseTable p s).heading = s.heading ∧ (eraseTable p s).settings = s.settings ∧ (eraseTable p s).scan = s.scan := by
  unfold eraseTable
  dsimp only
  repeat' split
  all_goals simp

@[simp] theorem placeWritten_frame (writer : Port) (body : NoticeBody) (s : State) :
    (placeWritten writer body s).pending = s.pending ∧ (placeWritten writer body s).powered = s.powered
      ∧ (placeWritten writer body s).arb = s.arb ∧ (placeWritten writer body s).exe = s.exe
      ∧ (placeWritten writer body s).pose = s.pose ∧ (placeWritten writer body s).safe = s.safe
      ∧ (placeWritten writer body s).cache = s.cache ∧ (placeWritten writer body s).heading = s.heading
      ∧ (placeWritten writer body s).settings = s.settings ∧ (placeWritten writer body s).scan = s.scan
      ∧ (placeWritten writer body s).store = s.store := by
  unfold placeWritten
  dsimp only
  repeat' split
  all_goals simp

@[simp] theorem endSlotWrite_frame (readBack : ReadBack) (s : State) :
    (endSlotWrite readBack s).pending = s.pending ∧ (endSlotWrite readBack s).powered = s.powered
      ∧ (endSlotWrite readBack s).arb = s.arb ∧ (endSlotWrite readBack s).exe = s.exe
      ∧ (endSlotWrite readBack s).pose = s.pose ∧ (endSlotWrite readBack s).safe = s.safe
      ∧ (endSlotWrite readBack s).cache = s.cache ∧ (endSlotWrite readBack s).heading = s.heading
      ∧ (endSlotWrite readBack s).settings = s.settings ∧ (endSlotWrite readBack s).scan = s.scan := by
  unfold endSlotWrite
  dsimp only
  repeat' split
  all_goals simp

@[simp] theorem endErase_frame (s : State) :
    (endErase s).pending = s.pending ∧ (endErase s).powered = s.powered ∧ (endErase s).arb = s.arb
      ∧ (endErase s).exe = s.exe ∧ (endErase s).pose = s.pose ∧ (endErase s).safe = s.safe
      ∧ (endErase s).cache = s.cache ∧ (endErase s).heading = s.heading ∧ (endErase s).settings = s.settings
      ∧ (endErase s).scan = s.scan := by
  unfold endErase
  repeat' split
  all_goals simp

@[simp] theorem invalidateSite_frame (p : Port) (slot : Nat) (s : State) :
    (invalidateSite p slot s).pending = s.pending ∧ (invalidateSite p slot s).powered = s.powered
      ∧ (invalidateSite p slot s).arb.auth = s.arb.auth ∧ (invalidateSite p slot s).arb.holder = s.arb.holder
      ∧ (invalidateSite p slot s).arb.claims = s.arb.claims
      ∧ (invalidateSite p slot s).arb.releaseMark = s.arb.releaseMark
      ∧ (invalidateSite p slot s).arb.reasons = s.arb.reasons ∧ (invalidateSite p slot s).arb.grant = s.arb.grant
      ∧ (invalidateSite p slot s).arb.deferred = s.arb.deferred
      ∧ (invalidateSite p slot s).arb.crankEnd = s.arb.crankEnd ∧ (invalidateSite p slot s).exe = s.exe
      ∧ (invalidateSite p slot s).pose = s.pose ∧ (invalidateSite p slot s).safe = s.safe
      ∧ (invalidateSite p slot s).store = s.store ∧ (invalidateSite p slot s).heading = s.heading
      ∧ (invalidateSite p slot s).settings = s.settings ∧ (invalidateSite p slot s).scan = s.scan := by
  unfold invalidateSite
  dsimp only
  repeat' split
  all_goals simp

@[simp] theorem flushOnRequest_frame (p : Port) (s : State) :
    (flushOnRequest p s).pending = s.pending ∧ (flushOnRequest p s).powered = s.powered
      ∧ (flushOnRequest p s).arb.auth = s.arb.auth ∧ (flushOnRequest p s).arb.holder = s.arb.holder
      ∧ (flushOnRequest p s).arb.claims = s.arb.claims ∧ (flushOnRequest p s).arb.releaseMark = s.arb.releaseMark
      ∧ (flushOnRequest p s).arb.reasons = s.arb.reasons ∧ (flushOnRequest p s).arb.grant = s.arb.grant
      ∧ (flushOnRequest p s).arb.deferred = s.arb.deferred ∧ (flushOnRequest p s).arb.crankEnd = s.arb.crankEnd
      ∧ (flushOnRequest p s).exe = s.exe ∧ (flushOnRequest p s).pose = s.pose ∧ (flushOnRequest p s).safe = s.safe
      ∧ (flushOnRequest p s).store = s.store ∧ (flushOnRequest p s).heading = s.heading
      ∧ (flushOnRequest p s).settings = s.settings ∧ (flushOnRequest p s).scan = s.scan := by
  unfold flushOnRequest
  simp

@[simp] theorem recordLevel_frame (sample : Level) (s : State) :
    (recordLevel sample s).pending = s.pending ∧ (recordLevel sample s).powered = s.powered
      ∧ (recordLevel sample s).ports = s.ports ∧ (recordLevel sample s).arb = s.arb
      ∧ (recordLevel sample s).exe = s.exe ∧ (recordLevel sample s).safe = s.safe
      ∧ (recordLevel sample s).store = s.store ∧ (recordLevel sample s).cache = s.cache
      ∧ (recordLevel sample s).heading = s.heading ∧ (recordLevel sample s).settings = s.settings
      ∧ (recordLevel sample s).scan = s.scan := by
  unfold recordLevel
  dsimp only
  simp

@[simp] theorem beginWrite_frame (p : Port) (values : SettingValues) (feature : Byte) (x : Int) (s : State) :
    (beginWrite p values feature x s).pending = s.pending ∧ (beginWrite p values feature x s).powered = s.powered
      ∧ (beginWrite p values feature x s).arb = s.arb ∧ (beginWrite p values feature x s).exe = s.exe
      ∧ (beginWrite p values feature x s).pose = s.pose ∧ (beginWrite p values feature x s).safe = s.safe
      ∧ (beginWrite p values feature x s).store = s.store ∧ (beginWrite p values feature x s).cache = s.cache
      ∧ (beginWrite p values feature x s).heading = s.heading ∧ (beginWrite p values feature x s).scan = s.scan := by
  unfold beginWrite
  dsimp only
  simp

@[simp] theorem toleranceTaken_frame (old : Int) (s : State) :
    (toleranceTaken old s).pending = s.pending ∧ (toleranceTaken old s).powered = s.powered
      ∧ (toleranceTaken old s).arb = s.arb ∧ (toleranceTaken old s).exe = s.exe ∧ (toleranceTaken old s).pose = s.pose
      ∧ (toleranceTaken old s).safe = s.safe ∧ (toleranceTaken old s).store = s.store
      ∧ (toleranceTaken old s).heading = s.heading ∧ (toleranceTaken old s).settings = s.settings
      ∧ (toleranceTaken old s).scan = s.scan := by
  unfold toleranceTaken
  repeat' split
  all_goals simp

@[simp] theorem configure_frame (p : Port) (feature : Byte) (x : Int) (s : State) :
    (configure p feature x s).pending = s.pending ∧ (configure p feature x s).powered = s.powered
      ∧ (configure p feature x s).arb.auth = s.arb.auth ∧ (configure p feature x s).arb.holder = s.arb.holder
      ∧ (configure p feature x s).arb.claims = s.arb.claims
      ∧ (configure p feature x s).arb.releaseMark = s.arb.releaseMark
      ∧ (configure p feature x s).arb.reasons = s.arb.reasons ∧ (configure p feature x s).arb.grant = s.arb.grant
      ∧ (configure p feature x s).arb.deferred = s.arb.deferred
      ∧ (configure p feature x s).arb.crankEnd = s.arb.crankEnd ∧ (configure p feature x s).exe = s.exe
      ∧ (configure p feature x s).pose = s.pose ∧ (configure p feature x s).safe = s.safe
      ∧ (configure p feature x s).store = s.store ∧ (configure p feature x s).heading = s.heading
      ∧ (configure p feature x s).scan = s.scan := by
  unfold configure
  dsimp only
  repeat' split
  all_goals simp

@[simp] theorem revert_frame (p : Port) (s : State) :
    (revert p s).pending = s.pending ∧ (revert p s).powered = s.powered ∧ (revert p s).arb.auth = s.arb.auth
      ∧ (revert p s).arb.holder = s.arb.holder ∧ (revert p s).arb.claims = s.arb.claims
      ∧ (revert p s).arb.releaseMark = s.arb.releaseMark ∧ (revert p s).arb.reasons = s.arb.reasons
      ∧ (revert p s).arb.grant = s.arb.grant ∧ (revert p s).arb.deferred = s.arb.deferred
      ∧ (revert p s).arb.crankEnd = s.arb.crankEnd ∧ (revert p s).exe = s.exe ∧ (revert p s).pose = s.pose
      ∧ (revert p s).safe = s.safe ∧ (revert p s).store = s.store ∧ (revert p s).heading = s.heading
      ∧ (revert p s).scan = s.scan := by
  unfold revert
  repeat' split
  all_goals simp

@[simp] theorem endSettingsWrite_frame (s : State) :
    (endSettingsWrite s).pending = s.pending ∧ (endSettingsWrite s).powered = s.powered
      ∧ (endSettingsWrite s).arb.auth = s.arb.auth ∧ (endSettingsWrite s).arb.holder = s.arb.holder
      ∧ (endSettingsWrite s).arb.claims = s.arb.claims ∧ (endSettingsWrite s).arb.releaseMark = s.arb.releaseMark
      ∧ (endSettingsWrite s).arb.reasons = s.arb.reasons ∧ (endSettingsWrite s).arb.grant = s.arb.grant
      ∧ (endSettingsWrite s).arb.deferred = s.arb.deferred ∧ (endSettingsWrite s).arb.crankEnd = s.arb.crankEnd
      ∧ (endSettingsWrite s).exe = s.exe ∧ (endSettingsWrite s).pose = s.pose ∧ (endSettingsWrite s).safe = s.safe
      ∧ (endSettingsWrite s).store = s.store ∧ (endSettingsWrite s).cache = s.cache
      ∧ (endSettingsWrite s).heading = s.heading ∧ (endSettingsWrite s).scan = s.scan := by
  unfold endSettingsWrite
  repeat' split
  all_goals simp

/-! ### The lines, the wind and the supply -/

@[simp] theorem setEstop_safe (asserted : Bool) (s : State) :
    (setEstop asserted s).safe = { s.safe with estop := asserted } := rfl

@[simp] theorem setPark_safe (asserted : Bool) (s : State) :
    (setPark asserted s).safe = { s.safe with park := asserted } := rfl

@[simp] theorem setManualReq_safe (asserted : Bool) (s : State) :
    (setManualReq asserted s).safe = { s.safe with manualReq := asserted } := rfl

@[simp] theorem setSupply_safe (asserted : Bool) (supply : Supply) (settle : Bool) (s : State) :
    (setSupply asserted supply settle s).safe = { s.safe with supplyOk := asserted } := rfl

@[simp] theorem setSupply_exe (asserted : Bool) (supply : Supply) (settle : Bool) (s : State) :
    (setSupply asserted supply settle s).exe = { s.exe with supply := supply, settle := settle } := rfl

@[simp] theorem setEstop_frame (asserted : Bool) (s : State) :
    (setEstop asserted s).pending = s.pending ∧ (setEstop asserted s).powered = s.powered
      ∧ (setEstop asserted s).ports = s.ports ∧ (setEstop asserted s).arb = s.arb ∧ (setEstop asserted s).exe = s.exe
      ∧ (setEstop asserted s).pose = s.pose ∧ (setEstop asserted s).store = s.store
      ∧ (setEstop asserted s).cache = s.cache ∧ (setEstop asserted s).heading = s.heading
      ∧ (setEstop asserted s).settings = s.settings ∧ (setEstop asserted s).scan = s.scan := by
  unfold setEstop
  dsimp only
  simp

@[simp] theorem takeEstop_frame (s : State) :
    (takeEstop s).pending = s.pending ∧ (takeEstop s).powered = s.powered ∧ (takeEstop s).pose = s.pose
      ∧ (takeEstop s).safe.pulses = s.safe.pulses ∧ (takeEstop s).safe.speed = s.safe.speed
      ∧ (takeEstop s).safe.windClass = s.safe.windClass ∧ (takeEstop s).safe.calm = s.safe.calm
      ∧ (takeEstop s).safe.ease = s.safe.ease ∧ (takeEstop s).safe.park = s.safe.park
      ∧ (takeEstop s).safe.supplyOk = s.safe.supplyOk ∧ (takeEstop s).safe.manualReq = s.safe.manualReq
      ∧ (takeEstop s).safe.resetLine = s.safe.resetLine ∧ (takeEstop s).store = s.store ∧ (takeEstop s).cache = s.cache
      ∧ (takeEstop s).heading = s.heading ∧ (takeEstop s).settings = s.settings := by
  unfold takeEstop
  simp

@[simp] theorem setPark_frame (asserted : Bool) (s : State) :
    (setPark asserted s).pending = s.pending ∧ (setPark asserted s).powered = s.powered
      ∧ (setPark asserted s).ports = s.ports ∧ (setPark asserted s).arb = s.arb ∧ (setPark asserted s).exe = s.exe
      ∧ (setPark asserted s).pose = s.pose ∧ (setPark asserted s).store = s.store
      ∧ (setPark asserted s).cache = s.cache ∧ (setPark asserted s).heading = s.heading
      ∧ (setPark asserted s).settings = s.settings ∧ (setPark asserted s).scan = s.scan := by
  unfold setPark
  dsimp only
  simp

@[simp] theorem takeParkNegation_frame (s : State) :
    (takeParkNegation s).pending = s.pending ∧ (takeParkNegation s).powered = s.powered
      ∧ (takeParkNegation s).pose = s.pose ∧ (takeParkNegation s).safe.pulses = s.safe.pulses
      ∧ (takeParkNegation s).safe.speed = s.safe.speed ∧ (takeParkNegation s).safe.windClass = s.safe.windClass
      ∧ (takeParkNegation s).safe.calm = s.safe.calm ∧ (takeParkNegation s).safe.ease = s.safe.ease
      ∧ (takeParkNegation s).safe.estop = s.safe.estop ∧ (takeParkNegation s).safe.supplyOk = s.safe.supplyOk
      ∧ (takeParkNegation s).safe.manualReq = s.safe.manualReq ∧ (takeParkNegation s).safe.resetLine = s.safe.resetLine
      ∧ (takeParkNegation s).store = s.store ∧ (takeParkNegation s).settings = s.settings := by
  unfold takeParkNegation
  dsimp only
  simp

@[simp] theorem dropParkReasons_frame (s : State) :
    (dropParkReasons s).pending = s.pending ∧ (dropParkReasons s).powered = s.powered ∧ (dropParkReasons s).exe = s.exe
      ∧ (dropParkReasons s).pose = s.pose ∧ (dropParkReasons s).safe = s.safe ∧ (dropParkReasons s).store = s.store
      ∧ (dropParkReasons s).cache = s.cache ∧ (dropParkReasons s).heading = s.heading
      ∧ (dropParkReasons s).settings = s.settings ∧ (dropParkReasons s).scan = s.scan := by
  unfold dropParkReasons
  dsimp only
  repeat' split
  all_goals simp

@[simp] theorem takeParkAssertion_frame (s : State) :
    (takeParkAssertion s).pending = s.pending ∧ (takeParkAssertion s).powered = s.powered
      ∧ (takeParkAssertion s).pose = s.pose ∧ (takeParkAssertion s).safe.pulses = s.safe.pulses
      ∧ (takeParkAssertion s).safe.speed = s.safe.speed ∧ (takeParkAssertion s).safe.windClass = s.safe.windClass
      ∧ (takeParkAssertion s).safe.calm = s.safe.calm ∧ (takeParkAssertion s).safe.ease = s.safe.ease
      ∧ (takeParkAssertion s).safe.estop = s.safe.estop ∧ (takeParkAssertion s).safe.supplyOk = s.safe.supplyOk
      ∧ (takeParkAssertion s).safe.manualReq = s.safe.manualReq
      ∧ (takeParkAssertion s).safe.resetLine = s.safe.resetLine ∧ (takeParkAssertion s).store = s.store
      ∧ (takeParkAssertion s).cache = s.cache ∧ (takeParkAssertion s).heading = s.heading
      ∧ (takeParkAssertion s).settings = s.settings := by
  unfold takeParkAssertion
  simp

@[simp] theorem offerLowering_frame (s : State) :
    (offerLowering s).pending = s.pending ∧ (offerLowering s).powered = s.powered ∧ (offerLowering s).pose = s.pose
      ∧ (offerLowering s).safe.pulses = s.safe.pulses ∧ (offerLowering s).safe.speed = s.safe.speed
      ∧ (offerLowering s).safe.windClass = s.safe.windClass ∧ (offerLowering s).safe.calm = s.safe.calm
      ∧ (offerLowering s).safe.ease = s.safe.ease ∧ (offerLowering s).safe.park = s.safe.park
      ∧ (offerLowering s).safe.estop = s.safe.estop ∧ (offerLowering s).safe.supplyOk = s.safe.supplyOk
      ∧ (offerLowering s).safe.manualReq = s.safe.manualReq ∧ (offerLowering s).safe.resetLine = s.safe.resetLine
      ∧ (offerLowering s).store = s.store ∧ (offerLowering s).cache = s.cache ∧ (offerLowering s).heading = s.heading
      ∧ (offerLowering s).settings = s.settings := by
  unfold offerLowering
  repeat' split
  all_goals simp

@[simp] theorem windChanged_frame (previous : WindClass) (s : State) :
    (windChanged previous s).pending = s.pending ∧ (windChanged previous s).powered = s.powered
      ∧ (windChanged previous s).pose = s.pose ∧ (windChanged previous s).safe.pulses = s.safe.pulses
      ∧ (windChanged previous s).safe.speed = s.safe.speed ∧ (windChanged previous s).safe.windClass = s.safe.windClass
      ∧ (windChanged previous s).safe.calm = s.safe.calm ∧ (windChanged previous s).safe.ease = s.safe.ease
      ∧ (windChanged previous s).safe.park = s.safe.park ∧ (windChanged previous s).safe.estop = s.safe.estop
      ∧ (windChanged previous s).safe.supplyOk = s.safe.supplyOk
      ∧ (windChanged previous s).safe.manualReq = s.safe.manualReq
      ∧ (windChanged previous s).safe.resetLine = s.safe.resetLine ∧ (windChanged previous s).store = s.store
      ∧ (windChanged previous s).cache = s.cache ∧ (windChanged previous s).heading = s.heading
      ∧ (windChanged previous s).settings = s.settings := by
  unfold windChanged
  dsimp only
  repeat' split
  all_goals simp

@[simp] theorem sampleWind_frame (s : State) :
    (sampleWind s).pending = s.pending ∧ (sampleWind s).powered = s.powered ∧ (sampleWind s).pose = s.pose
      ∧ (sampleWind s).safe.park = s.safe.park ∧ (sampleWind s).safe.estop = s.safe.estop
      ∧ (sampleWind s).safe.supplyOk = s.safe.supplyOk ∧ (sampleWind s).safe.manualReq = s.safe.manualReq
      ∧ (sampleWind s).safe.resetLine = s.safe.resetLine ∧ (sampleWind s).store = s.store
      ∧ (sampleWind s).cache = s.cache ∧ (sampleWind s).heading = s.heading ∧ (sampleWind s).settings = s.settings := by
  unfold sampleWind
  dsimp only
  repeat' split
  all_goals simp

@[simp] theorem setSupply_frame (asserted : Bool) (supply : Supply) (settle : Bool) (s : State) :
    (setSupply asserted supply settle s).pending = s.pending ∧ (setSupply asserted supply settle s).powered = s.powered
      ∧ (setSupply asserted supply settle s).ports = s.ports ∧ (setSupply asserted supply settle s).arb = s.arb
      ∧ (setSupply asserted supply settle s).pose = s.pose ∧ (setSupply asserted supply settle s).store = s.store
      ∧ (setSupply asserted supply settle s).cache = s.cache ∧ (setSupply asserted supply settle s).heading = s.heading
      ∧ (setSupply asserted supply settle s).settings = s.settings ∧ (setSupply asserted supply settle s).scan = s.scan := by
  unfold setSupply
  dsimp only
  simp

@[simp] theorem takeSupplyLoss_frame (s : State) :
    (takeSupplyLoss s).pending = s.pending ∧ (takeSupplyLoss s).powered = s.powered ∧ (takeSupplyLoss s).pose = s.pose
      ∧ (takeSupplyLoss s).safe.pulses = s.safe.pulses ∧ (takeSupplyLoss s).safe.speed = s.safe.speed
      ∧ (takeSupplyLoss s).safe.windClass = s.safe.windClass ∧ (takeSupplyLoss s).safe.calm = s.safe.calm
      ∧ (takeSupplyLoss s).safe.ease = s.safe.ease ∧ (takeSupplyLoss s).safe.park = s.safe.park
      ∧ (takeSupplyLoss s).safe.estop = s.safe.estop ∧ (takeSupplyLoss s).safe.manualReq = s.safe.manualReq
      ∧ (takeSupplyLoss s).safe.resetLine = s.safe.resetLine ∧ (takeSupplyLoss s).store = s.store
      ∧ (takeSupplyLoss s).cache = s.cache ∧ (takeSupplyLoss s).heading = s.heading
      ∧ (takeSupplyLoss s).settings = s.settings := by
  unfold takeSupplyLoss
  dsimp only
  repeat' split
  all_goals simp

@[simp] theorem takeSupplyReturn_frame (s : State) :
    (takeSupplyReturn s).pending = s.pending ∧ (takeSupplyReturn s).powered = s.powered
      ∧ (takeSupplyReturn s).ports = s.ports ∧ (takeSupplyReturn s).arb = s.arb ∧ (takeSupplyReturn s).pose = s.pose
      ∧ (takeSupplyReturn s).safe.pulses = s.safe.pulses ∧ (takeSupplyReturn s).safe.speed = s.safe.speed
      ∧ (takeSupplyReturn s).safe.windClass = s.safe.windClass ∧ (takeSupplyReturn s).safe.calm = s.safe.calm
      ∧ (takeSupplyReturn s).safe.ease = s.safe.ease ∧ (takeSupplyReturn s).safe.park = s.safe.park
      ∧ (takeSupplyReturn s).safe.estop = s.safe.estop ∧ (takeSupplyReturn s).safe.manualReq = s.safe.manualReq
      ∧ (takeSupplyReturn s).safe.resetLine = s.safe.resetLine ∧ (takeSupplyReturn s).store = s.store
      ∧ (takeSupplyReturn s).cache = s.cache ∧ (takeSupplyReturn s).heading = s.heading
      ∧ (takeSupplyReturn s).settings = s.settings ∧ (takeSupplyReturn s).scan = s.scan := by
  unfold takeSupplyReturn
  repeat' split
  all_goals simp

@[simp] theorem expireSettle_frame (suspended : Nat) (s : State) :
    (expireSettle suspended s).pending = s.pending ∧ (expireSettle suspended s).powered = s.powered
      ∧ (expireSettle suspended s).pose = s.pose ∧ (expireSettle suspended s).safe.pulses = s.safe.pulses
      ∧ (expireSettle suspended s).safe.speed = s.safe.speed
      ∧ (expireSettle suspended s).safe.windClass = s.safe.windClass
      ∧ (expireSettle suspended s).safe.calm = s.safe.calm ∧ (expireSettle suspended s).safe.ease = s.safe.ease
      ∧ (expireSettle suspended s).safe.park = s.safe.park ∧ (expireSettle suspended s).safe.estop = s.safe.estop
      ∧ (expireSettle suspended s).safe.supplyOk = s.safe.supplyOk
      ∧ (expireSettle suspended s).safe.manualReq = s.safe.manualReq
      ∧ (expireSettle suspended s).safe.resetLine = s.safe.resetLine ∧ (expireSettle suspended s).store = s.store
      ∧ (expireSettle suspended s).heading = s.heading ∧ (expireSettle suspended s).settings = s.settings := by
  unfold expireSettle
  dsimp only
  repeat' split
  all_goals simp

@[simp] theorem expireSuspension_frame (s : State) :
    (expireSuspension s).pending = s.pending ∧ (expireSuspension s).powered = s.powered
      ∧ (expireSuspension s).pose = s.pose ∧ (expireSuspension s).safe.pulses = s.safe.pulses
      ∧ (expireSuspension s).safe.speed = s.safe.speed ∧ (expireSuspension s).safe.windClass = s.safe.windClass
      ∧ (expireSuspension s).safe.calm = s.safe.calm ∧ (expireSuspension s).safe.ease = s.safe.ease
      ∧ (expireSuspension s).safe.park = s.safe.park ∧ (expireSuspension s).safe.estop = s.safe.estop
      ∧ (expireSuspension s).safe.supplyOk = s.safe.supplyOk ∧ (expireSuspension s).safe.manualReq = s.safe.manualReq
      ∧ (expireSuspension s).safe.resetLine = s.safe.resetLine ∧ (expireSuspension s).store = s.store
      ∧ (expireSuspension s).cache = s.cache ∧ (expireSuspension s).heading = s.heading
      ∧ (expireSuspension s).settings = s.settings := by
  unfold expireSuspension
  repeat' split
  all_goals simp

@[simp] theorem setManualReq_frame (asserted : Bool) (s : State) :
    (setManualReq asserted s).pending = s.pending ∧ (setManualReq asserted s).powered = s.powered
      ∧ (setManualReq asserted s).ports = s.ports ∧ (setManualReq asserted s).arb = s.arb
      ∧ (setManualReq asserted s).exe = s.exe ∧ (setManualReq asserted s).pose = s.pose
      ∧ (setManualReq asserted s).store = s.store ∧ (setManualReq asserted s).cache = s.cache
      ∧ (setManualReq asserted s).heading = s.heading ∧ (setManualReq asserted s).settings = s.settings
      ∧ (setManualReq asserted s).scan = s.scan := by
  unfold setManualReq
  dsimp only
  simp

@[simp] theorem endCrank_frame (reading : Reading) (s : State) :
    (endCrank reading s).pending = s.pending ∧ (endCrank reading s).powered = s.powered
      ∧ (endCrank reading s).pose.level = s.pose.level ∧ (endCrank reading s).safe.pulses = s.safe.pulses
      ∧ (endCrank reading s).safe.speed = s.safe.speed ∧ (endCrank reading s).safe.windClass = s.safe.windClass
      ∧ (endCrank reading s).safe.calm = s.safe.calm ∧ (endCrank reading s).safe.ease = s.safe.ease
      ∧ (endCrank reading s).safe.park = s.safe.park ∧ (endCrank reading s).safe.estop = s.safe.estop
      ∧ (endCrank reading s).safe.supplyOk = s.safe.supplyOk ∧ (endCrank reading s).safe.manualReq = s.safe.manualReq
      ∧ (endCrank reading s).safe.resetLine = s.safe.resetLine ∧ (endCrank reading s).store = s.store
      ∧ (endCrank reading s).cache = s.cache ∧ (endCrank reading s).heading = s.heading
      ∧ (endCrank reading s).settings = s.settings := by
  unfold endCrank
  dsimp only
  simp

@[simp] theorem takeManualEnd_frame (reading : Reading) (s : State) :
    (takeManualEnd reading s).pending = s.pending ∧ (takeManualEnd reading s).powered = s.powered
      ∧ (takeManualEnd reading s).pose.level = s.pose.level ∧ (takeManualEnd reading s).safe.pulses = s.safe.pulses
      ∧ (takeManualEnd reading s).safe.speed = s.safe.speed
      ∧ (takeManualEnd reading s).safe.windClass = s.safe.windClass ∧ (takeManualEnd reading s).safe.calm = s.safe.calm
      ∧ (takeManualEnd reading s).safe.ease = s.safe.ease ∧ (takeManualEnd reading s).safe.park = s.safe.park
      ∧ (takeManualEnd reading s).safe.estop = s.safe.estop ∧ (takeManualEnd reading s).safe.supplyOk = s.safe.supplyOk
      ∧ (takeManualEnd reading s).safe.manualReq = s.safe.manualReq
      ∧ (takeManualEnd reading s).safe.resetLine = s.safe.resetLine ∧ (takeManualEnd reading s).store = s.store
      ∧ (takeManualEnd reading s).cache = s.cache ∧ (takeManualEnd reading s).heading = s.heading
      ∧ (takeManualEnd reading s).settings = s.settings := by
  unfold takeManualEnd
  repeat' split
  all_goals simp

/-! ### Starts and power -/

@[simp] theorem setResetLine_frame (asserted : Bool) (s : State) :
    (setResetLine asserted s).pending = s.pending ∧ (setResetLine asserted s).powered = s.powered
      ∧ (setResetLine asserted s).ports = s.ports ∧ (setResetLine asserted s).arb = s.arb
      ∧ (setResetLine asserted s).exe = s.exe ∧ (setResetLine asserted s).pose = s.pose
      ∧ (setResetLine asserted s).store = s.store ∧ (setResetLine asserted s).cache = s.cache
      ∧ (setResetLine asserted s).heading = s.heading ∧ (setResetLine asserted s).settings = s.settings
      ∧ (setResetLine asserted s).scan = s.scan := by
  unfold setResetLine
  dsimp only
  simp

@[simp] theorem foundFaults_frame (lines : Axes Bool) (s : State) :
    (foundFaults lines s).pending = s.pending ∧ (foundFaults lines s).powered = s.powered
      ∧ (foundFaults lines s).pose.level = s.pose.level ∧ (foundFaults lines s).ports = s.ports
      ∧ (foundFaults lines s).arb = s.arb ∧ (foundFaults lines s).exe = s.exe ∧ (foundFaults lines s).safe = s.safe
      ∧ (foundFaults lines s).store = s.store ∧ (foundFaults lines s).cache = s.cache
      ∧ (foundFaults lines s).heading = s.heading ∧ (foundFaults lines s).settings = s.settings
      ∧ (foundFaults lines s).scan = s.scan := by
  unfold foundFaults
  dsimp only
  simp

@[simp] theorem foundSupply_frame (ok : Bool) (s : State) :
    (foundSupply ok s).pending = s.pending ∧ (foundSupply ok s).powered = s.powered
      ∧ (foundSupply ok s).ports = s.ports ∧ (foundSupply ok s).arb = s.arb ∧ (foundSupply ok s).pose = s.pose
      ∧ (foundSupply ok s).store = s.store ∧ (foundSupply ok s).cache = s.cache
      ∧ (foundSupply ok s).heading = s.heading ∧ (foundSupply ok s).settings = s.settings
      ∧ (foundSupply ok s).scan = s.scan := by
  unfold foundSupply
  repeat' split
  all_goals simp

@[simp] theorem announce_frame (cause : StartCause) (ready : Ports Bool) (s : State) :
    (announce cause ready s).pending = s.pending ∧ (announce cause ready s).powered = s.powered
      ∧ (announce cause ready s).arb = s.arb ∧ (announce cause ready s).exe = s.exe
      ∧ (announce cause ready s).pose = s.pose ∧ (announce cause ready s).safe = s.safe
      ∧ (announce cause ready s).store = s.store ∧ (announce cause ready s).cache = s.cache
      ∧ (announce cause ready s).heading = s.heading ∧ (announce cause ready s).settings = s.settings
      ∧ (announce cause ready s).scan = s.scan := by
  unfold announce
  dsimp only
  simp

@[simp] theorem noteDefaulted_frame (s : State) :
    (noteDefaulted s).pending = s.pending ∧ (noteDefaulted s).powered = s.powered ∧ (noteDefaulted s).arb = s.arb
      ∧ (noteDefaulted s).exe = s.exe ∧ (noteDefaulted s).pose = s.pose ∧ (noteDefaulted s).safe = s.safe
      ∧ (noteDefaulted s).store = s.store ∧ (noteDefaulted s).cache = s.cache ∧ (noteDefaulted s).heading = s.heading
      ∧ (noteDefaulted s).settings = s.settings ∧ (noteDefaulted s).scan = s.scan := by
  unfold noteDefaulted
  repeat' split
  all_goals simp

@[simp] theorem keptLockout_frame (s : State) :
    (keptLockout s).pending = s.pending ∧ (keptLockout s).powered = s.powered ∧ (keptLockout s).ports = s.ports
      ∧ (keptLockout s).exe = s.exe ∧ (keptLockout s).pose = s.pose ∧ (keptLockout s).safe = s.safe
      ∧ (keptLockout s).store = s.store ∧ (keptLockout s).cache = s.cache ∧ (keptLockout s).heading = s.heading
      ∧ (keptLockout s).settings = s.settings ∧ (keptLockout s).scan = s.scan := by
  unfold keptLockout
  dsimp only
  repeat' split
  all_goals simp

@[simp] theorem foundEstop_frame (asserted : Bool) (s : State) :
    (foundEstop asserted s).pending = s.pending ∧ (foundEstop asserted s).powered = s.powered
      ∧ (foundEstop asserted s).pose = s.pose ∧ (foundEstop asserted s).safe.pulses = s.safe.pulses
      ∧ (foundEstop asserted s).safe.speed = s.safe.speed ∧ (foundEstop asserted s).safe.windClass = s.safe.windClass
      ∧ (foundEstop asserted s).safe.calm = s.safe.calm ∧ (foundEstop asserted s).safe.ease = s.safe.ease
      ∧ (foundEstop asserted s).safe.park = s.safe.park ∧ (foundEstop asserted s).safe.supplyOk = s.safe.supplyOk
      ∧ (foundEstop asserted s).safe.manualReq = s.safe.manualReq
      ∧ (foundEstop asserted s).safe.resetLine = s.safe.resetLine ∧ (foundEstop asserted s).store = s.store
      ∧ (foundEstop asserted s).cache = s.cache ∧ (foundEstop asserted s).heading = s.heading
      ∧ (foundEstop asserted s).settings = s.settings := by
  unfold foundEstop
  repeat' split
  all_goals simp

@[simp] theorem foundPark_frame (asserted negatedDuring : Bool) (s : State) :
    (foundPark asserted negatedDuring s).pending = s.pending ∧ (foundPark asserted negatedDuring s).powered = s.powered
      ∧ (foundPark asserted negatedDuring s).pose = s.pose
      ∧ (foundPark asserted negatedDuring s).safe.pulses = s.safe.pulses
      ∧ (foundPark asserted negatedDuring s).safe.speed = s.safe.speed
      ∧ (foundPark asserted negatedDuring s).safe.windClass = s.safe.windClass
      ∧ (foundPark asserted negatedDuring s).safe.calm = s.safe.calm
      ∧ (foundPark asserted negatedDuring s).safe.ease = s.safe.ease
      ∧ (foundPark asserted negatedDuring s).safe.estop = s.safe.estop
      ∧ (foundPark asserted negatedDuring s).safe.supplyOk = s.safe.supplyOk
      ∧ (foundPark asserted negatedDuring s).safe.manualReq = s.safe.manualReq
      ∧ (foundPark asserted negatedDuring s).safe.resetLine = s.safe.resetLine
      ∧ (foundPark asserted negatedDuring s).store = s.store
      ∧ (foundPark asserted negatedDuring s).settings = s.settings := by
  unfold foundPark
  dsimp only
  repeat' split
  all_goals simp

@[simp] theorem foundWind_frame (s : State) :
    (foundWind s).pending = s.pending ∧ (foundWind s).powered = s.powered ∧ (foundWind s).arb = s.arb
      ∧ (foundWind s).exe = s.exe ∧ (foundWind s).pose = s.pose ∧ (foundWind s).safe.pulses = s.safe.pulses
      ∧ (foundWind s).safe.speed = s.safe.speed ∧ (foundWind s).safe.windClass = s.safe.windClass
      ∧ (foundWind s).safe.calm = s.safe.calm ∧ (foundWind s).safe.ease = s.safe.ease
      ∧ (foundWind s).safe.park = s.safe.park ∧ (foundWind s).safe.estop = s.safe.estop
      ∧ (foundWind s).safe.supplyOk = s.safe.supplyOk ∧ (foundWind s).safe.manualReq = s.safe.manualReq
      ∧ (foundWind s).safe.resetLine = s.safe.resetLine ∧ (foundWind s).store = s.store ∧ (foundWind s).cache = s.cache
      ∧ (foundWind s).heading = s.heading ∧ (foundWind s).settings = s.settings ∧ (foundWind s).scan = s.scan := by
  unfold foundWind
  repeat' split
  all_goals simp

@[simp] theorem foundManual_frame (asserted : Bool) (s : State) :
    (foundManual asserted s).pending = s.pending ∧ (foundManual asserted s).powered = s.powered
      ∧ (foundManual asserted s).pose = s.pose ∧ (foundManual asserted s).safe.pulses = s.safe.pulses
      ∧ (foundManual asserted s).safe.speed = s.safe.speed ∧ (foundManual asserted s).safe.windClass = s.safe.windClass
      ∧ (foundManual asserted s).safe.calm = s.safe.calm ∧ (foundManual asserted s).safe.ease = s.safe.ease
      ∧ (foundManual asserted s).safe.park = s.safe.park ∧ (foundManual asserted s).safe.estop = s.safe.estop
      ∧ (foundManual asserted s).safe.supplyOk = s.safe.supplyOk
      ∧ (foundManual asserted s).safe.resetLine = s.safe.resetLine ∧ (foundManual asserted s).store = s.store
      ∧ (foundManual asserted s).cache = s.cache ∧ (foundManual asserted s).heading = s.heading
      ∧ (foundManual asserted s).settings = s.settings := by
  unfold foundManual
  repeat' split
  all_goals simp

@[simp] theorem endOfStart_frame (cause : StartCause) (negatedDuring : Bool) (i : StartInputs) (s : State) :
    (endOfStart cause negatedDuring i s).pending = s.pending ∧ (endOfStart cause negatedDuring i s).powered = s.powered
      ∧ (endOfStart cause negatedDuring i s).store = s.store
      ∧ (endOfStart cause negatedDuring i s).settings = s.settings := by
  unfold endOfStart
  dsimp only
  simp

end Sys2Proof.Machine
end

section
/-! The site table and the cache (sections 6 and 7): what each operation makes of the slots and of the cache entries, and the
invariant that ties them together. -/

namespace Sys2Proof.Machine

/-! ### Commands that are taken or not -/

theorem whenPowered_keeps {P : State → Prop} {f : State → State} {s : State} (h : P s) (hf : P (f s)) :
    P (whenPowered f s) := by
  rcases whenPowered_cases f s with e | e <;> rw [e] <;> assumption

theorem onRequest_keeps {P : State → Prop} {p : Port} {r : Request} {f : State → State} {s : State} (h : P s) (hf : P (f s)) :
    P (onRequest p r f s) := by
  rcases onRequest_cases p r f s with e | e <;> rw [e] <;> assumption

theorem asHolder_keeps {P : State → Prop} {p : Port} {r : Request} {submits : Bool} {f : State → State} {s : State}
    (refused : ∀ status, P (respond p r status [] s)) (hf : P (f s)) : P (asHolder p r submits f s) := by
  rcases asHolder_cases p r submits f s with ⟨status, e⟩ | e <;> rw [e]
  · exact refused status
  · exact hf

theorem ite_keeps {P : State → Prop} {c : Prop} [Decidable c] {s t : State} (hs : P s) (ht : P t) :
    P (if c then s else t) := by
  split <;> assumption

/-! ### Slots by number -/

theorem slotAt_setSlot_same {t : Store} {n : Nat} (x : Slot) (h : n < t.slots.length) : (t.setSlot n x).slotAt n = x := by
  simp [Store.slotAt, Store.setSlot, h]

theorem slotAt_setSlot_other {t : Store} {n m : Nat} (x : Slot) (h : m ≠ n) : (t.setSlot n x).slotAt m = t.slotAt m := by
  simp [Store.slotAt, Store.setSlot, List.getElem?_set_ne (Ne.symm h)]

theorem writeEnded_slotAt_other {t : Store} {n m : Nat} (retire : Bool) (back : ReadBack) (h : m ≠ n) :
    (t.writeEnded n retire back).slotAt m = t.slotAt m :=
  slotAt_setSlot_other _ h

theorem committedSite_some {t : Store} {n : Nat} {f : SiteFields} (h : t.committedSite n = some f) :
    t.engine.erasing = false ∧ (t.slotAt n).state = .committed ∧ (t.slotAt n).contents.map Contents.site = some f := by
  unfold Store.committedSite at h
  split at h
  · next hc => exact ⟨hc.1, hc.2, h⟩
  · cases h

theorem engine_write_some {e : Engine} {n : Nat} {p : Port} {retire : Bool} (h : e.write = some (n, p, retire)) :
    e = (if retire = true then .retire n p else .commit n p) := by
  cases e <;> simp [Engine.write] at h <;> obtain ⟨rfl, rfl, rfl⟩ := h <;> rfl

theorem engine_erasing_iff {e : Engine} : e.erasing = true ↔ ∃ p n, e = .erase p n := by
  cases e <;> simp [Engine.erasing]

/-! ### The cache a scan may teach -/

/-- The cache stands as it stood, or has learned a solution that it may keep (R128). -/
def CacheLearns (s t : State) : Prop :=
  t.cache = s.cache ∨ ∃ e, mayLearn e.slot s = true ∧ t.cache = s.cache.learn e s.pose.level

theorem CacheLearns.of_same {s t : State} (h : t.cache = s.cache) : CacheLearns s t := Or.inl h

theorem CacheLearns.after_frame {s u t : State} (h : CacheLearns u t) (store : u.store = s.store) (cache : u.cache = s.cache)
    (pose : u.pose = s.pose) (park : u.safe.park = s.safe.park) : CacheLearns s t := by
  simpa only [CacheLearns, mayLearn, store, cache, pose, park] using h

theorem CacheLearns.then_advance {s t : State} (h : CacheLearns s t) : CacheLearns s (advance t) := by
  simpa only [CacheLearns, advance_frame] using h

theorem CacheLearns.then_settleAll {s t : State} (h : CacheLearns s t) : CacheLearns s (settleAll t) := by
  simpa only [CacheLearns, settleAll_frame] using h

theorem completeScan_learns (s : State) : CacheLearns s (completeScan s) := by
  unfold completeScan
  split
  · exact .of_same rfl
  · split
    · next e learned =>
      refine Or.inr ⟨e, ?_, by simp⟩
      exact (Option.filter_eq_some_iff.mp learned).2
    · exact .of_same (by simp)

theorem arriveScan_learns (s : State) : CacheLearns s (arriveScan s) := by
  unfold arriveScan
  split
  · exact .of_same rfl
  · dsimp only
    split
    · exact .of_same (by simp)
    · exact (completeScan_learns _).after_frame (by simp) (by simp) (by simp) (by simp)
    · exact .of_same rfl
    · exact .of_same rfl

theorem driveScan_learns (target : PanTilt) (s : State) : CacheLearns s (driveScan target s) := by
  unfold driveScan
  dsimp only
  split
  · exact (arriveScan_learns _).after_frame (by simp) (by simp) (by simp) (by simp)
  · exact .of_same (by simp)

theorem scanMove_learns (phase : ScanPhase) (target : PanTilt) (s : State) : CacheLearns s (scanMove phase target s) := by
  unfold scanMove
  split
  · exact .of_same (by simp)
  · exact (driveScan_learns target _).after_frame (by simp) (by simp) (by simp) (by simp)

theorem scanStep_learns (q : ScanParams) (s : State) : CacheLearns s (scanStep q s) := by
  unfold scanStep
  split
  · exact .of_same rfl
  · dsimp only
    split
    · exact .of_same (by simp)
    · exact (scanMove_learns .stepMove _ _).after_frame (by simp) (by simp) (by simp) (by simp)

theorem scanBoundary_learns (q : ScanParams) (s : State) : CacheLearns s (scanBoundary q s) := by
  unfold scanBoundary
  split
  · split
    · exact .of_same (by simp)
    split
    · exact .of_same (by simp)
    split
    · exact scanStep_learns q s
    split
    · exact scanMove_learns _ _ s
    · exact .of_same rfl
  · exact .of_same rfl

theorem takeSample_learns (level : Int) (s : State) : CacheLearns s (takeSample level s) := by
  unfold takeSample
  split
  · split
    · exact (scanBoundary_learns _ _).after_frame (by simp) (by simp) (by simp) (by simp)
    · exact .of_same rfl
  · exact .of_same rfl

theorem resumeScan_learns (s : State) : CacheLearns s (resumeScan s) := by
  unfold resumeScan
  split
  · exact .of_same rfl
  · split
    · exact driveScan_learns _ s
    · exact driveScan_learns _ s
    · exact .of_same (by simp)
    · exact .of_same (by simp)

theorem restartActive_learns (seconds : Nat) (s : State) : CacheLearns s (restartActive seconds s) := by
  unfold restartActive
  split
  · exact .of_same rfl
  · dsimp only
    split
    · exact (resumeScan_learns _).after_frame (by simp) (by simp) (by simp) (by simp)
    · exact .of_same (by simp)

theorem expireSettle_learns (seconds : Nat) (s : State) : CacheLearns s (expireSettle seconds s) := by
  unfold expireSettle
  split
  · dsimp only
    split
    · exact ((restartActive_learns seconds _).after_frame (by simp) (by simp) (by simp) (by simp)).then_advance
    · exact .of_same (by simp)
  · exact .of_same rfl

theorem followScan_learns (x : Scan) (s : State) : CacheLearns s (followScan x s) := by
  unfold followScan
  split
  · exact .of_same rfl
  · exact .of_same rfl
  · dsimp only
    split
    · exact (arriveScan_learns _).after_frame (by simp) (by simp) (by simp) (by simp)
    · exact .of_same (by simp)

theorem followActive_learns (s : State) : CacheLearns s (followActive s) := by
  unfold followActive
  split
  · split
    · exact .of_same rfl
    · split
      · exact .of_same (by simp)
      · exact followScan_learns _ s
      · exact .of_same rfl
  · exact .of_same rfl

theorem endDwell_learns (millivolts : Int) (s : State) : CacheLearns s (endDwell millivolts s) := by
  unfold endDwell
  split
  · exact (takeSample_learns _ s).then_advance
  · split
    · exact (takeSample_learns _ s).then_advance
    · exact .of_same (by simp)
  · exact .of_same (by simp)
  · exact .of_same rfl

theorem levelReport_learns (p : Port) (level : Int) (s : State) : CacheLearns s (levelReport p level s) := by
  unfold levelReport
  split
  · exact .of_same (by simp)
  split
  · exact .of_same (by simp)
  · unfold sampleReport
    split
    · exact ((takeSample_learns level _).after_frame (by simp) (by simp) (by simp) (by simp)).then_advance
    · exact .of_same (by simp)

/-! ### Removals and lookups -/

theorem cacheEntry_slot {c : Cache} {slot : Nat} {e : CacheEntry} (h : cacheEntry c slot = some e) :
    e ∈ c.entries ∧ e.slot = slot :=
  ⟨List.mem_of_find?_eq_some h, by simpa using List.find?_some h⟩

@[simp] theorem flushCache_cache (cause : FlushCause) (requester : Option Port) (s : State) :
    (flushCache cause requester s).cache = Cache.start := by
  simp [flushCache, placeFlushed]

theorem without_of_absent {c : Cache} {slot : Nat} (h : cacheEntry c slot = none)
    (reference : c.entries = [] → c.reference = none) : c.without slot = c := by
  obtain ⟨entries, level⟩ := c
  have kept : entries.filter (fun e => e.slot != slot) = entries :=
    List.filter_eq_self.mpr (fun e he => by simpa using List.find?_eq_none.mp h e he)
  by_cases empty : entries = []
  · obtain rfl : level = none := reference empty
    simp [Cache.without, kept]
  · simp [Cache.without, kept, empty]

/-- A single removal leaves the cache without the entry of the slot, whether there was one or not (R132). -/
theorem removeEntry_cache (slot : Nat) (cause : FlushCause) (requester : Option Port) (s : State)
    (reference : s.cache.entries = [] → s.cache.reference = none) :
    (removeEntry slot cause requester s).cache = s.cache.without slot := by
  unfold removeEntry
  split
  · simp [placeFlushed]
  · next absent => exact (without_of_absent absent reference).symm

/-- A comparison with the level reference leaves the cache, or flushes it (R130). -/
theorem compareLevel_cache (s : State) : (compareLevel s).cache = s.cache ∨ (compareLevel s).cache = Cache.start := by
  unfold compareLevel
  split
  · exact Or.inl rfl
  split
  · exact Or.inr (by simp)
  · exact Or.inl rfl

/-! ### The invariant of the table and the cache -/

theorem tableFits_of_same {s t : State} (h : tableFits s) (store : t.store = s.store) (cache : t.cache = s.cache) :
    tableFits t := by
  simpa only [tableFits, storeFits, cacheFits, store, cache] using h

theorem tableFits_count {s : State} (h : tableFits s) : s.store.slots.length = Config.slotCount := h.1.1

theorem cacheFits_reference {s : State} (h : cacheFits s) : s.cache.entries = [] ↔ s.cache.reference = none := by
  obtain ⟨-, -, -, -, reference⟩ := h
  exact reference

theorem tableFits_reference {s : State} (h : tableFits s) : s.cache.entries = [] ↔ s.cache.reference = none :=
  cacheFits_reference h.2

theorem tableFits_committed {s : State} (h : tableFits s) {e : CacheEntry} (he : e ∈ s.cache.entries) :
    (s.store.slotAt e.slot).state = .committed := by
  obtain ⟨-, -, -, committed, -⟩ := h
  exact committed e he

/-- The staging areas are no part of the invariant. -/
theorem tableFits_of_slots {s t : State} (h : tableFits s) (slots : t.store.slots = s.store.slots)
    (engine : t.store.engine = s.store.engine) (cache : t.cache = s.cache) : tableFits t := by
  simpa only [tableFits, storeFits, cacheFits, Store.slotAt, slots, engine, cache] using h

/-- An empty cache fits every table. -/
theorem cacheFits_of_start {t : State} (h : t.cache = Cache.start) : cacheFits t := by
  simp [cacheFits, h, Cache.start]

/-- A cache whose entries are some of those before, with the level reference present exactly with an entry, fits still. -/
theorem cacheFits_of_sublist {s t : State} (h : cacheFits s) (slots : t.store = s.store)
    (entries : t.cache.entries.Sublist s.cache.entries) (reference : t.cache.entries = [] ↔ t.cache.reference = none) :
    cacheFits t := by
  obtain ⟨few, once, committed, erasing, -⟩ := h
  refine ⟨Nat.le_trans entries.length_le few, once.sublist (entries.map _), ?_, ?_, reference⟩
  · intro e he
    rw [slots]
    exact committed e (entries.subset he)
  · intro he
    rw [slots] at he
    exact List.eq_nil_of_sublist_nil (erasing he ▸ entries)

theorem cacheFits_without {s t : State} {slot : Nat} (h : cacheFits s) (store : t.store = s.store)
    (cache : t.cache = s.cache.without slot) : cacheFits t := by
  refine cacheFits_of_sublist h store (by rw [cache]; exact List.filter_sublist) ?_
  obtain ⟨-, -, -, -, reference⟩ := h
  by_cases empty : s.cache.entries.filter (fun e => e.slot != slot) = []
  · simp [cache, Cache.without, empty]
  · have some : s.cache.entries ≠ [] := fun none => empty (by simp [none])
    simp [cache, Cache.without, empty, ← reference, some]

theorem learn_slots_nodup {entries : List CacheEntry} (e : CacheEntry) (n : Nat)
    (once : (entries.map CacheEntry.slot).Nodup) :
    ((e :: (entries.filter (fun x => x.slot != e.slot)).take n).map CacheEntry.slot).Nodup := by
  have kept := ((List.take_sublist n _).trans (List.filter_sublist (p := fun x => x.slot != e.slot) (l := entries)))
  refine List.nodup_cons.mpr ⟨?_, once.sublist (kept.map _)⟩
  intro mem
  obtain ⟨x, hx, same⟩ := List.mem_map.mp mem
  simpa [same] using (List.mem_filter.mp (List.mem_of_mem_take hx)).2

/-- A solution that may be learned keeps the cache within its bounds (R126, R128). -/
theorem cacheFits_learn {s t : State} {e : CacheEntry} {level : Level} (h : cacheFits s) (may : mayLearn e.slot s = true)
    (store : t.store = s.store) (cache : t.cache = s.cache.learn e level) : cacheFits t := by
  obtain ⟨few, once, committed, -, reference⟩ := h
  obtain ⟨-, learn⟩ := Bool.and_eq_true_iff.mp may
  obtain ⟨f, site, -⟩ := (Option.any_eq_true _ _).mp learn
  obtain ⟨notErasing, slot, -⟩ := committedSite_some site
  unfold cacheFits
  rw [cache, store]
  refine ⟨?_, learn_slots_nodup e _ once, ?_, ?_, ?_⟩
  · simp only [Cache.learn, List.length_cons, List.length_take, Config.cacheCapacity]
    omega
  · intro x hx
    rcases List.mem_cons.mp hx with rfl | hx
    · exact slot
    · exact committed x (List.mem_filter.mp (List.mem_of_mem_take hx)).1
  · simp [notErasing]
  · by_cases empty : s.cache.entries = []
    · simp [Cache.learn, empty]
    · simp [Cache.learn, empty, ← reference]

/-- A lookup changes the order of the entries alone (R129). -/
theorem cacheFits_lookedUp {s t : State} {slot : Nat} (h : cacheFits s) (store : t.store = s.store)
    (cache : t.cache = s.cache.lookedUp slot) : cacheFits t := by
  obtain ⟨few, once, committed, erasing, reference⟩ := h
  unfold cacheFits
  rw [cache, store]
  unfold Cache.lookedUp
  split
  · next e found =>
    obtain ⟨mem, rfl⟩ := cacheEntry_slot found
    have filled : s.cache.entries ≠ [] := List.ne_nil_of_mem mem
    have fewer : (s.cache.entries.filter (fun x => x.slot != e.slot)).length < s.cache.entries.length :=
      List.length_filter_lt_length_iff_exists.mpr ⟨e, mem, by simp⟩
    refine ⟨?_, ?_, ?_, fun he => absurd (erasing he) filled, by simp [← reference, filled]⟩
    · simp only [List.length_cons]
      omega
    · simpa using learn_slots_nodup e (s.cache.entries.filter (fun x => x.slot != e.slot)).length once
    · intro x hx
      rcases List.mem_cons.mp hx with rfl | hx
      · exact committed _ mem
      · exact committed x (List.mem_filter.mp hx).1
  · exact ⟨few, once, committed, erasing, reference⟩

theorem tableFits_learns {s t : State} (h : tableFits s) (store : t.store = s.store) (learns : CacheLearns s t) :
    tableFits t := by
  refine ⟨by simpa only [storeFits, store] using h.1, ?_⟩
  rcases learns with same | ⟨e, may, learned⟩
  · exact (tableFits_of_same h store same).2
  · exact cacheFits_learn h.2 may store learned

theorem tableFits_flushed {s t : State} (h : tableFits s) (store : t.store = s.store)
    (cache : t.cache = s.cache ∨ t.cache = Cache.start) : tableFits t := by
  rcases cache with same | flushed
  · exact tableFits_of_same h store same
  · exact ⟨by simpa only [storeFits, store] using h.1, cacheFits_of_start flushed⟩

/-- Where no operation is in flight, 48 slots and an empty cache fit. -/
theorem tableFits_of_idle {t : State} (slots : t.store.slots.length = Config.slotCount) (engine : t.store.engine.write = none)
    (cache : t.cache = Cache.start) : tableFits t :=
  ⟨⟨slots, fun n p retire h => by rw [engine] at h; cases h⟩, cacheFits_of_start cache⟩

/-- A slot that holds no cache entry may be written over: the other slots keep theirs. -/
theorem tableFits_set {s t : State} {slot : Nat} {x : Slot} (h : tableFits s)
    (slots : t.store.slots = s.store.slots.set slot x)
    (engine : ∀ n p retire, t.store.engine.write = some (n, p, retire) → n = slot ∧ slot < 48 ∧ x.state = .writing)
    (erasing : t.store.engine.erasing = false) (entries : t.cache.entries.Sublist s.cache.entries)
    (free : ∀ e, e ∈ t.cache.entries → e.slot ≠ slot)
    (reference : t.cache.entries = [] ↔ t.cache.reference = none) : tableFits t := by
  obtain ⟨⟨count, -⟩, few, once, committed, -⟩ := h
  refine ⟨⟨by rw [slots, List.length_set, count], ?_⟩, Nat.le_trans entries.length_le few, once.sublist (entries.map _), ?_, ?_,
    reference⟩
  · intro n p retire write
    obtain ⟨rfl, small, state⟩ := engine n p retire write
    refine ⟨small, ?_⟩
    have inside : n < s.store.slots.length := by rw [count]; exact small
    simp [Store.slotAt, slots, inside, state]
  · intro e he
    rw [← committed e (entries.subset he)]
    simp [Store.slotAt, slots, List.getElem?_set_ne (Ne.symm (free e he))]
  · simp [erasing]

theorem beginCommit_tableFits {s : State} (p : Port) {slot : Nat} (site : SiteFields) (h : tableFits s) (small : slot < 48)
    (isFree : (s.store.slotAt slot).state = .free) : tableFits (beginCommit p slot site s) := by
  refine tableFits_set (slot := slot) (x := writingSlot site 0xFF) h rfl ?_ rfl (List.Sublist.refl _) ?_
    (tableFits_reference (s := s) h)
  · intro n q retire write
    obtain ⟨rfl, -, -⟩ : slot = n ∧ p = q ∧ false = retire := by simpa [beginCommit, Engine.write] using write
    exact ⟨rfl, small, rfl⟩
  · rintro e he rfl
    have committed := tableFits_committed h he
    rw [isFree] at committed
    cases committed

theorem beginRetire_tableFits {s : State} (p : Port) {slot : Nat} (redirection : Option Nat) (site : SiteFields)
    (h : tableFits s) (small : slot < 48) : tableFits (beginRetire p slot redirection site s) := by
  have cache : (beginRetire p slot redirection site s).cache = s.cache.without slot :=
    removeEntry_cache slot .retire none s (tableFits_reference h).mp
  refine tableFits_set (slot := slot) (x := writingSlot site (optionByte redirection)) h ?_ ?_ rfl ?_ ?_ ?_
  · simp [beginRetire, Store.setSlot]
  · intro n q retire write
    obtain ⟨rfl, -, -⟩ : slot = n ∧ p = q ∧ true = retire := by simpa [beginRetire, Engine.write] using write
    exact ⟨rfl, small, rfl⟩
  · rw [cache]
    exact List.filter_sublist
  · intro e he
    rw [cache] at he
    simpa using (List.mem_filter.mp he).2
  · rw [cache]
    exact cacheFits_reference (cacheFits_without (t := s.setCache (s.cache.without slot)) h.2 rfl rfl)

theorem writeEnded_tableFits {s t : State} {slot : Nat} {p : Port} {retire : Bool} (back : ReadBack) (h : tableFits s)
    (write : s.store.engine.write = some (slot, p, retire))
    (slots : t.store.slots = (s.store.writeEnded slot retire back).slots) (engine : t.store.engine = .idle)
    (cache : t.cache = s.cache) : tableFits t := by
  obtain ⟨-, state⟩ := h.1.2 slot p retire write
  refine tableFits_set (slot := slot) (x := writtenSlot retire back (s.store.slotAt slot)) h slots ?_ (by rw [engine]; rfl)
    (by simp [cache]) ?_ (by rw [cache]; exact tableFits_reference h)
  · intro n q b none
    rw [engine] at none
    cases none
  · rintro e he rfl
    rw [cache] at he
    have committed := tableFits_committed h he
    rw [state] at committed
    cases committed

theorem erased_tableFits {s t : State} {p : Port} {n : Nat} (h : tableFits s) (erase : s.store.engine = .erase p n)
    (slots : t.store.slots = s.store.erased.slots) (engine : t.store.engine = .idle) (cache : t.cache = s.cache) :
    tableFits t := by
  obtain ⟨-, -, -, -, erasing, -⟩ := id h
  have empty : s.cache.entries = [] := erasing (by rw [erase]; rfl)
  refine tableFits_of_idle (by rw [slots]; simp [Store.erased, Config.slotCount]) (by rw [engine]; rfl) ?_
  have none : s.cache.reference = none := (tableFits_reference h).mp empty
  rw [cache, Cache.start, ← empty, ← none]

end Sys2Proof.Machine
end

section
/-! Every command keeps the table and the cache together (R104, R105, R113, R124, R126). -/

namespace Sys2Proof.Machine

variable {s : State}

/-! ### Requests -/

theorem respond_tableFits {p : Port} {r : Request} {status : Status} {fields : List Byte} (h : tableFits s) :
    tableFits (respond p r status fields s) :=
  tableFits_of_same h (by simp) (by simp)

theorem aimAt_cache (p : Port) (r : Request) (slot : Nat) (flag : Byte) (site : SiteFields) (heading : Int) (s : State) :
    (aimAt p r slot flag site heading s).cache = s.cache.lookedUp slot := by
  unfold aimAt
  dsimp only
  repeat' split
  all_goals simp [submit]

theorem resolveAim_tableFits (p : Port) (r : Request) (slot : Nat) (flag : Byte) (h : tableFits s) :
    tableFits (resolveAim p r slot flag s) := by
  unfold resolveAim
  split
  · exact respond_tableFits h
  split
  · exact ⟨by simpa [storeFits] using h.1, cacheFits_lookedUp h.2 (by simp) (aimAt_cache ..)⟩
  · exact respond_tableFits h
  · exact respond_tableFits h

theorem aim_tableFits (p : Port) (slot : Nat) (heading : Option Int) (flag : Byte) (h : tableFits s) :
    tableFits (aim p slot heading flag s) := by
  unfold aim
  dsimp only
  split
  · exact respond_tableFits h
  split
  · exact respond_tableFits h
  split
  · exact resolveAim_tableFits _ _ _ _ h
  split
  · exact resolveAim_tableFits _ _ _ _ (tableFits_of_same h rfl rfl)
  · exact respond_tableFits h

theorem stageSite_tableFits (p : Port) (slot : Nat) (fields : SiteFields) (h : tableFits s) :
    tableFits (stageSite p slot fields s) := by
  unfold stageSite
  dsimp only
  split
  · exact respond_tableFits h
  split
  · exact respond_tableFits h
  split
  · exact respond_tableFits h
  · exact respond_tableFits (tableFits_of_slots h rfl rfl rfl)

theorem commitCandidate_tableFits (p : Port) (r : Request) {slot : Nat} (c : Candidate) (h : tableFits s) (small : slot < 48) :
    tableFits (commitCandidate p r slot c s) := by
  unfold commitCandidate
  split
  · exact respond_tableFits h
  split
  · exact respond_tableFits h
  · next isFree => exact respond_tableFits (beginCommit_tableFits p c.site h small (Decidable.not_not.mp isFree))

theorem commitSite_tableFits (p : Port) (slot : Nat) (check : Check) (h : tableFits s) :
    tableFits (commitSite p slot check s) := by
  unfold commitSite
  dsimp only
  split
  · exact respond_tableFits h
  split
  · exact respond_tableFits h
  split
  · exact respond_tableFits h
  split
  · exact respond_tableFits h
  split
  · exact respond_tableFits h
  · exact commitCandidate_tableFits p _ _ h (by omega)

theorem retireSlot_tableFits (p : Port) (r : Request) {slot : Nat} (redirection : Option Nat) (h : tableFits s)
    (small : slot < 48) : tableFits (retireSlot p r slot redirection s) := by
  unfold retireSlot
  split
  · exact respond_tableFits h
  split
  · exact respond_tableFits h
  split
  · exact respond_tableFits h
  · exact respond_tableFits (beginRetire_tableFits p redirection _ h small)

theorem retireSite_tableFits (p : Port) (slot : Nat) (redirection : Option Nat) (h : tableFits s) :
    tableFits (retireSite p slot redirection s) := by
  unfold retireSite
  dsimp only
  split
  · exact respond_tableFits h
  split
  · exact respond_tableFits h
  · exact retireSlot_tableFits p _ _ h (by omega)

theorem eraseTable_tableFits (p : Port) (h : tableFits s) : tableFits (eraseTable p s) := by
  unfold eraseTable
  split
  · exact respond_tableFits h
  split
  · exact respond_tableFits h
  · exact respond_tableFits (tableFits_of_idle (by simpa using tableFits_count h) (by simp [Engine.write]) (by simp))

theorem endSlotWrite_tableFits (back : ReadBack) (h : tableFits s) : tableFits (endSlotWrite back s) := by
  unfold endSlotWrite
  split
  · exact h
  · next slot writer retire write => exact writeEnded_tableFits back h write (by simp) (by simp [Store.writeEnded]) (by simp)

theorem endErase_tableFits (h : tableFits s) : tableFits (endErase s) := by
  unfold endErase
  split
  · next erase => exact erased_tableFits h erase (by simp) (by simp [Store.erased]) (by simp)
  · exact h

theorem removeEntry_tableFits (slot : Nat) (cause : FlushCause) (requester : Option Port) (h : tableFits s) :
    tableFits (removeEntry slot cause requester s) :=
  ⟨by simpa [storeFits] using h.1,
    cacheFits_without h.2 (by simp) (removeEntry_cache slot cause requester s (tableFits_reference h).mp)⟩

theorem invalidateSite_tableFits (p : Port) (slot : Nat) (h : tableFits s) : tableFits (invalidateSite p slot s) := by
  unfold invalidateSite
  dsimp only
  split
  · exact respond_tableFits h
  split
  · exact respond_tableFits h
  · exact respond_tableFits (removeEntry_tableFits _ _ _ h)

theorem flushCache_tableFits (cause : FlushCause) (requester : Option Port) (h : tableFits s) :
    tableFits (flushCache cause requester s) :=
  tableFits_flushed h (by simp) (Or.inr (by simp))

theorem compareLevel_tableFits (h : tableFits s) : tableFits (compareLevel s) :=
  tableFits_flushed h (by simp) (compareLevel_cache s)

theorem configure_tableFits (p : Port) (feature : Byte) (x : Int) (h : tableFits s) :
    tableFits (configure p feature x s) := by
  unfold configure
  dsimp only
  split
  · exact respond_tableFits h
  split
  · exact respond_tableFits h
  have begun : ∀ v, tableFits (beginWrite p v feature x s) := fun v => tableFits_of_same h (by simp) (by simp)
  split
  · exact compareLevel_tableFits (begun _)
  · exact begun _

theorem revert_tableFits (p : Port) (h : tableFits s) : tableFits (revert p s) := by
  unfold revert
  split
  · exact respond_tableFits h
  have begun : tableFits (beginWrite p SettingValues.defaults 0x7F 0 s) := tableFits_of_same h (by simp) (by simp)
  unfold toleranceTaken
  split
  · exact begun
  · exact compareLevel_tableFits begun

theorem takeParkNegation_cache (s : State) : (takeParkNegation s).cache = Cache.start := by
  simp [takeParkNegation]

/-! ### Starts and power -/

/-- The lines read at the end of a start leave the cache, or flush it (R131, R168). -/
theorem endOfStart_cache (cause : StartCause) (negatedDuring : Bool) (i : StartInputs) (s : State) :
    (endOfStart cause negatedDuring i s).cache = s.cache ∨ (endOfStart cause negatedDuring i s).cache = Cache.start := by
  unfold endOfStart foundPark
  dsimp only
  split
  · split
    · exact Or.inr (by simp)
    · exact Or.inl (by simp)
  · exact Or.inr (by simp [takeParkNegation_cache])

theorem endOfStart_tableFits (cause : StartCause) (negatedDuring : Bool) (i : StartInputs) (h : tableFits s) :
    tableFits (endOfStart cause negatedDuring i s) :=
  tableFits_flushed h (by simp) (endOfStart_cache ..)

theorem coldStart_tableFits (i : StartInputs) (h : tableFits s) : tableFits (coldStart i s) :=
  endOfStart_tableFits _ _ _ (tableFits_of_idle (by simpa [coldState] using tableFits_count h) rfl rfl)

theorem finishWrites_tableFits (back : ReadBack) (h : tableFits s) : tableFits (finishWrites back s) := by
  unfold finishWrites
  dsimp only
  cases engine : s.store.engine with
  | idle => exact tableFits_of_slots h rfl rfl rfl
  | commit slot p =>
    exact writeEnded_tableFits (slot := slot) (p := p) (retire := false) back h (by rw [engine]; rfl) rfl rfl rfl
  | retire slot p =>
    exact writeEnded_tableFits (slot := slot) (p := p) (retire := true) back h (by rw [engine]; rfl) rfl rfl rfl
  | erase p n => exact erased_tableFits h engine rfl rfl rfl

theorem warmStart_tableFits (cause : StartCause) (i : StartInputs) (h : tableFits s) : tableFits (warmStart cause i s) :=
  endOfStart_tableFits _ _ _ (tableFits_of_same (finishWrites_tableFits i.readBack h) (by simp [warmState])
    (by simp [warmState]))

theorem slotsLeft_length (l : PowerLoss) (t : Store) : (slotsLeft l t).length = t.slots.length := by
  unfold slotsLeft
  split
  · rfl
  · rw [List.length_set]
  · rw [List.length_set]
  · simp only [List.length_append, List.length_replicate, List.length_map, List.length_take, List.length_drop]
    omega

theorem losePower_tableFits (l : PowerLoss) (h : tableFits s) : tableFits (losePower l s) :=
  tableFits_of_idle ((slotsLeft_length l s.store).trans (tableFits_count h)) rfl rfl

/-! ### Every command -/

theorem exec_tableFits (c : Instr) {t : State} (h : tableFits s) (step : exec c s = .next t) : tableFits t := by
  have answered : ∀ p r status fields, tableFits (respond p r status fields s) := fun _ _ _ _ => respond_tableFits h
  have same : ∀ {u : State}, u.store = s.store → u.cache = s.cache → tableFits u := tableFits_of_same h
  cases c <;> cases step
  case powerApplied i => exact coldStart_tableFits i h
  case reset i =>
    exact whenPowered_keeps h (ite_keeps h (warmStart_tableFits _ i h))
  case restart p i => exact onRequest_keeps h (ite_keeps (warmStart_tableFits _ i h) (answered _ _ _ _))
  case powerLoss l => exact whenPowered_keeps h (losePower_tableFits l h)
  case aim p slot heading flag => exact onRequest_keeps h (asHolder_keeps (fun _ => answered _ _ _ _) (aim_tableFits _ _ _ _ h))
  case queueMoves => exact onRequest_keeps h (asHolder_keeps (fun _ => answered _ _ _ _) (same (by simp) (by simp)))
  case stow => exact onRequest_keeps h (asHolder_keeps (fun _ => answered _ _ _ _) (same (by simp) (by simp)))
  case peak => exact onRequest_keeps h (asHolder_keeps (fun _ => answered _ _ _ _) (same (by simp) (by simp)))
  case halt => exact onRequest_keeps h (asHolder_keeps (fun _ => answered _ _ _ _) (same (by simp) (by simp)))
  case clearAxis => exact onRequest_keeps h (asHolder_keeps (fun _ => answered _ _ _ _) (same (by simp) (by simp)))
  case stageSite => exact onRequest_keeps h (stageSite_tableFits _ _ _ h)
  case commitSite => exact onRequest_keeps h (commitSite_tableFits _ _ _ h)
  case retireSite => exact onRequest_keeps h (retireSite_tableFits _ _ _ h)
  case eraseTable => exact onRequest_keeps h (eraseTable_tableFits _ h)
  case slotWriteEnd => exact whenPowered_keeps h (endSlotWrite_tableFits _ h)
  case eraseEnd => exact whenPowered_keeps h (endErase_tableFits h)
  case invalidateSite => exact onRequest_keeps h (invalidateSite_tableFits _ _ h)
  case flushCache => exact onRequest_keeps h (respond_tableFits (flushCache_tableFits _ _ h))
  case configure => exact onRequest_keeps h (configure_tableFits _ _ _ h)
  case revert => exact onRequest_keeps h (revert_tableFits _ h)
  case inclinometerSample => exact whenPowered_keeps h (compareLevel_tableFits (same rfl rfl))
  case levelReport => exact onRequest_keeps h (tableFits_learns h (by simp) (levelReport_learns _ _ s))
  case dwellEnd => exact whenPowered_keeps h (tableFits_learns h (by simp) (endDwell_learns _ s))
  case settleTimerExpiry => exact whenPowered_keeps h (tableFits_learns h (by simp) (expireSettle_learns _ s))
  case poseReading r =>
    refine whenPowered_keeps h (tableFits_learns (s := takeReading r s) (same (by simp) (by simp)) (by simp) ?_)
    exact (followActive_learns _).then_settleAll
  case parkNegated =>
    exact whenPowered_keeps h (ite_keeps (tableFits_flushed h (by simp) (Or.inr (takeParkNegation_cache s))) h)
  case restWatchExpiry =>
    refine whenPowered_keeps h ?_
    split
    · exact same (by simp) (by simp)
    · exact h
  case estopAsserted | parkAsserted | supplyOkAsserted | manualReqAsserted =>
    exact whenPowered_keeps h (ite_keeps h (same (by simp) (by simp)))
  case supplyOkNegated | manualReqNegated => exact whenPowered_keeps h (ite_keeps (same (by simp) (by simp)) h)
  case frameReceived | frameByteTimeout | takeFrame | readyChange | transmitBegin | frameSent | byteReceived
    | idleTimerExpiry | settingsWriteEnd | estopNegated | suspensionLimitExpiry | faultLineAsserted | faultLineNegated
    | obstructionEdge | stallWindowExpiry | settlingTimeout | anemometerPulse | windSample | levelWaitExpiry
    | resetNegated => exact whenPowered_keeps h (same (by simp) (by simp))
  case claim | withdraw | release | setHeading | readSite | readCache | status | identify | scanResult | clearLatches
    | clearLockout | setNotices => exact onRequest_keeps h (same (by simp) (by simp))

/-- Settles O58, command by command: the queue of commands is no part of the table or the cache. -/
theorem tableFitsIsKept : Obligations.TableFitsIsKept :=
  fun _ _ => step_keeps (fun _ _ h => tableFits_of_same h rfl rfl) (fun c _ _ => exec_tableFits c)

end Sys2Proof.Machine
end

section
/-! MANUAL GRANT follows the authority state through every operation of the arbiter (R79, R85). -/

namespace Sys2Proof.Machine

variable {s : State}

/-- MANUAL GRANT is negated and no crank is ending. -/
def Ungranted (s : State) : Prop := s.arb.grant = false ∧ s.arb.crankEnd = none

theorem grantFollows_of_arb {t : State} (h : grantFollows s) (arb : t.arb = s.arb) : grantFollows t := by
  simpa only [grantFollows, arb] using h

/-- The idle timer, the claims, the holder and the reasons are no part of it. -/
theorem grantFollows_of_same {t : State} (h : grantFollows s) (auth : t.arb.auth = s.arb.auth)
    (grant : t.arb.grant = s.arb.grant) (crankEnd : t.arb.crankEnd = s.arb.crankEnd)
    (deferred : t.arb.deferred = s.arb.deferred) : grantFollows t := by
  simpa only [grantFollows, auth, grant, crankEnd, deferred] using h

theorem ungranted_of_follows (h : grantFollows s) (auth : s.arb.auth ≠ .manual) : Ungranted s := by
  obtain ⟨grant, ending, -⟩ := h
  refine ⟨?_, ?_⟩
  · rw [grant, Bool.and_eq_false_iff]
    exact Or.inl (beq_false_of_ne auth)
  · rw [← Option.not_isSome_iff_eq_none]
    exact fun some => auth (ending some)

theorem not_manual_of_deferred (h : grantFollows s) {d : Deferral} (deferred : s.arb.deferred = some d) :
    s.arb.auth ≠ .manual := by
  obtain ⟨-, -, none⟩ := h
  intro manual
  rw [none manual] at deferred
  cases deferred

theorem grantFollows_of_ungranted (h : Ungranted s) (auth : s.arb.auth ≠ .manual) : grantFollows s := by
  obtain ⟨grant, crankEnd⟩ := h
  simp [grantFollows, grant, crankEnd, auth]

/-! ### Changes of holder -/

theorem toFree_grantFollows (h : Ungranted s) : grantFollows (toFree s) :=
  grantFollows_of_ungranted h (by simp [toFree])

theorem toHeld_grantFollows (p : Port) (h : Ungranted s) : grantFollows (toHeld p s) :=
  grantFollows_of_ungranted h (by simp [toHeld, startIdle])

theorem giveTo_grantFollows (p : Port) (reason : AuthReason) (h : Ungranted s) : grantFollows (giveTo p reason s) :=
  grantFollows_of_arb (toHeld_grantFollows p h) (by simp [giveTo])

theorem passOn_grantFollows (reason : AuthReason) (h : Ungranted s) : grantFollows (passOn reason s) := by
  unfold passOn
  split
  · exact giveTo_grantFollows _ _ h
  · exact toFree_grantFollows h

theorem retain_grantFollows (h : Ungranted s) : grantFollows (retain s) :=
  grantFollows_of_ungranted (by simpa [Ungranted, retain, startIdle] using h) (by simp [retain, startIdle])

theorem endDeferral_grantFollows (h : grantFollows s) : grantFollows (endDeferral s) := by
  obtain ⟨grant, ending, -⟩ := h
  exact ⟨grant, ending, fun _ => rfl⟩

theorem defer_grantFollows (d : Deferral) (h : grantFollows s) (auth : s.arb.auth ≠ .manual) : grantFollows (defer d s) :=
  grantFollows_of_ungranted (s := defer d s) (ungranted_of_follows (s := s) h auth) auth

/-! ### Lockout and the crank -/

theorem enterLockout_grantFollows (s : State) : grantFollows (enterLockout s) := by
  simp [grantFollows, enterLockout]

theorem grantCrank_grantFollows (lh ld bh bd : Nat) (s : State) : grantFollows (grantCrank lh ld bh bd s) := by
  simp [grantFollows, grantCrank]

theorem abandonForCrank_grantFollows (h : grantFollows s) : grantFollows (abandonForCrank s) := by
  unfold abandonForCrank
  split
  · exact h
  · exact grantCrank_grantFollows ..

theorem enlistReason_grantFollows (k : LockReason) (h : grantFollows s) : grantFollows (enlistReason k s) :=
  grantFollows_of_same h (by simp [enlistReason]) (by simp [enlistReason]) (by simp [enlistReason]) (by simp [enlistReason])

theorem dropReason_grantFollows (k : LockReason) (h : grantFollows s) : grantFollows (dropReason k s) := by
  unfold dropReason
  split
  · exact grantFollows_of_same h (by simp) (by simp) (by simp) (by simp)
  · exact h

theorem lockOut_grantFollows (k : LockReason) (s : State) : grantFollows (lockOut k s) := by
  unfold lockOut
  dsimp only
  split
  · exact grantCrank_grantFollows ..
  · exact enterLockout_grantFollows _

theorem addReason_grantFollows (k : LockReason) (h : grantFollows s) : grantFollows (addReason k s) := by
  unfold addReason
  split
  · exact h
  dsimp only
  split
  · exact enterLockout_grantFollows _
  · exact enlistReason_grantFollows _ h
  · exact enlistReason_grantFollows _ h
  · exact lockOut_grantFollows ..
  · exact enlistReason_grantFollows _ h
  · exact lockOut_grantFollows ..

/-! ### Handovers and boundaries -/

theorem safetyGivesBack_grantFollows (h : Ungranted s) : grantFollows (safetyGivesBack s) := by
  unfold safetyGivesBack
  split
  · exact passOn_grantFollows _ h
  · exact enterLockout_grantFollows s

theorem ungranted_of_arb {t : State} (h : Ungranted s) (arb : t.arb = s.arb) : Ungranted t := by
  simpa only [Ungranted, arb] using h

theorem yieldOutcome_grantFollows (h : Ungranted s) : grantFollows (yieldOutcome s) := by
  unfold yieldOutcome
  dsimp only
  split
  · exact giveTo_grantFollows _ _ (ungranted_of_arb h (by simp))
  split
  · exact toFree_grantFollows (ungranted_of_arb h (by simp))
  · exact retain_grantFollows h

theorem makeHandover_grantFollows (d : Deferral) (h : grantFollows s) (auth : s.arb.auth ≠ .manual) :
    grantFollows (makeHandover d s) := by
  have ungranted := ungranted_of_follows h auth
  unfold makeHandover
  split
  · split
    · split
      · exact giveTo_grantFollows _ _ (ungranted_of_arb ungranted (by simp))
      · exact endDeferral_grantFollows h
    · exact endDeferral_grantFollows h
  · exact passOn_grantFollows _ (ungranted_of_arb ungranted (by simp))
  · exact yieldOutcome_grantFollows ungranted
  · exact passOn_grantFollows _ (ungranted_of_arb ungranted (by simp))
  · exact safetyGivesBack_grantFollows ungranted

theorem handOn_grantFollows (d : Deferral) (h : grantFollows s) (auth : s.arb.auth ≠ .manual) :
    grantFollows (handOn d s) :=
  ite_keeps (defer_grantFollows d h auth) (makeHandover_grantFollows d h auth)

theorem handoverCheck_grantFollows (h : grantFollows s) : grantFollows (handoverCheck s) := by
  unfold handoverCheck
  split
  · next deferred => exact ite_keeps (makeHandover_grantFollows _ h (not_manual_of_deferred h deferred)) h
  · exact h

theorem groupEnded_grantFollows (ending : Ending) (h : grantFollows s) : grantFollows (groupEnded ending s) := by
  have none : grantFollows (s.setSafe { s.safe with group := none }) := h
  unfold groupEnded
  dsimp only
  split
  · exact ite_keeps none (addReason_grantFollows _ none)
  · exact grantFollows_of_arb none (by simp)
  · exact ite_keeps (addReason_grantFollows _ h) h

theorem safetyBoundary_grantFollows (ending : Ending) (h : grantFollows s) : grantFollows (safetyBoundary ending s) := by
  have ended := groupEnded_grantFollows ending h
  unfold safetyBoundary
  dsimp only
  split
  · exact ite_keeps (grantCrank_grantFollows ..) (grantCrank_grantFollows ..)
  · next moving => exact ite_keeps (handOn_grantFollows _ ended (by simp [moving])) (enterLockout_grantFollows _)
  · exact ended

theorem takeBoundary_grantFollows (ending : Ending) (h : grantFollows s) : grantFollows (takeBoundary ending s) := by
  unfold takeBoundary
  split
  · next moving _ => exact toHeld_grantFollows _ (ungranted_of_follows h (by simp [moving]))
  · next yielding => exact handOn_grantFollows _ h (by simp [yielding])
  · exact grantCrank_grantFollows ..
  · exact safetyBoundary_grantFollows ending h
  · exact h

/-! ### Activation and the queue -/

/-- The entry with its target resolved from the pose as it stands (R54). -/
def resolved (e : Entry) (s : State) : Entry := { e with target := resolve e.motion s }

/-- The state in which the start checks of the oldest entry run: it is active, and the arbiter has been told (R54). -/
def becomeActive (e : Entry) (rest : List Entry) (s : State) : State :=
  reportActivation
    (s.setExe
      { s.exe with
        queue := resolved e s :: rest
        active :=
          some
            { execution := .running, mastClass := classAtStart (resolved e s) s, phases := Axes.all .idle
              yieldDue := false, crankDue := false } })

/-- What an activation can do: nothing, or the oldest entry becomes active and fails its checks, starts, or is suspended for want
of supply (R54, R55, R73). -/
theorem activate_cases (s : State) :
    activate s = s
      ∨ ∃ e rest, s.exe.active = none ∧ s.exe.closing = none ∧ s.exe.queue = e :: rest
          ∧ ((∃ why, startCheck (resolved e s) (becomeActive e rest s) = some why
                ∧ activate s = failActive why false (becomeActive e rest s))
            ∨ (startCheck (resolved e s) (becomeActive e rest s) = none ∧ s.exe.supply = .available
                ∧ activate s = startEntry (resolved e s) (becomeActive e rest s))
            ∨ (startCheck (resolved e s) (becomeActive e rest s) = none ∧ s.exe.supply ≠ .available
                ∧ activate s = suspendOrAbandon (becomeActive e rest s))) := by
  by_cases idle : (s.exe.active.isSome || s.exe.closing.isSome) = true
  · exact Or.inl (by rw [activate, if_pos idle])
  · obtain ⟨active, closing⟩ : s.exe.active = none ∧ s.exe.closing = none := by simpa using idle
    cases queue : s.exe.queue with
    | nil => exact Or.inl (by simp [activate, active, closing, queue])
    | cons e rest =>
      refine Or.inr ⟨e, rest, active, closing, rfl, ?_⟩
      have supply : (becomeActive e rest s).exe.supply = s.exe.supply := by simp [becomeActive]
      have began : activate s = match startCheck (resolved e s) (becomeActive e rest s) with
          | some why => failActive why false (becomeActive e rest s)
          | none =>
            if (becomeActive e rest s).exe.supply = .available then startEntry (resolved e s) (becomeActive e rest s)
            else suspendOrAbandon (becomeActive e rest s) := by
        unfold activate
        rw [if_neg idle]
        simp only [queue]
        rfl
      rw [supply] at began
      cases check : startCheck (resolved e s) (becomeActive e rest s) with
      | some why => exact Or.inl ⟨why, rfl, by rw [began, check]⟩
      | none =>
        rw [check] at began
        by_cases available : s.exe.supply = .available
        · exact Or.inr (Or.inl ⟨rfl, available, began.trans (if_pos available)⟩)
        · exact Or.inr (Or.inr ⟨rfl, available, began.trans (if_neg available)⟩)

/-- A round of the ending reports: nothing is due, or the report is made and the next entry becomes active or the boundary is
taken (R31, R57, R62). -/
theorem runQueue_cases (n : Nat) (s : State) :
    runQueue (n + 1) s = s
      ∨ ∃ c, s.exe.closing = some c ∧ s.pose.restedOrFaulted c.axes = true
          ∧ runQueue (n + 1) s =
            if goesOn c.ending (s.setExe { s.exe with closing := none }) = true then
              runQueue n (activate (s.setExe { s.exe with closing := none }))
            else takeBoundary c.ending (s.setExe { s.exe with closing := none }) := by
  cases closing : s.exe.closing with
  | none => exact Or.inl (by simp only [runQueue, closing])
  | some c =>
    by_cases rested : s.pose.restedOrFaulted c.axes = true
    · exact Or.inr ⟨c, rfl, rested, by simp only [runQueue, closing, if_pos rested]⟩
    · exact Or.inl (by simp only [runQueue, closing, if_neg rested])

theorem suspendOrAbandon_grantFollows (h : grantFollows s) : grantFollows (suspendOrAbandon s) := by
  have suspended : grantFollows (suspendActive s) := grantFollows_of_arb h (by simp)
  exact ite_keeps (abandonForCrank_grantFollows suspended) suspended

theorem reportActivation_grantFollows (h : grantFollows s) : grantFollows (reportActivation s) := by
  unfold reportActivation
  split
  · next held => 
    have ungranted : Ungranted s := ungranted_of_follows h (by simp [held])
    exact grantFollows_of_ungranted ungranted (by simp)
  · exact h

theorem activate_grantFollows (h : grantFollows s) : grantFollows (activate s) := by
  rcases activate_cases s with same | ⟨e, rest, -, -, -, begun⟩
  · rw [same]
    exact h
  have active : grantFollows (becomeActive e rest s) := reportActivation_grantFollows (s := s.setExe _) h
  rcases begun with ⟨why, -, failed⟩ | ⟨-, -, started⟩ | ⟨-, -, suspended⟩
  · rw [failed]
    exact grantFollows_of_arb active (by simp)
  · rw [started]
    exact grantFollows_of_arb active (by simp)
  · rw [suspended]
    exact suspendOrAbandon_grantFollows active

theorem runQueue_grantFollows (n : Nat) (h : grantFollows s) : grantFollows (runQueue n s) := by
  induction n generalizing s with
  | zero => exact h
  | succ n ih =>
    rcases runQueue_cases n s with same | ⟨c, -, -, reported⟩
    · rw [same]
      exact h
    · rw [reported]
      have made : grantFollows (s.setExe { s.exe with closing := none }) := h
      exact ite_keeps (ih (activate_grantFollows made)) (takeBoundary_grantFollows _ made)

theorem advance_grantFollows (h : grantFollows s) : grantFollows (advance s) := runQueue_grantFollows 24 h

theorem goAhead_grantFollows (h : grantFollows s) : grantFollows (goAhead s) :=
  advance_grantFollows (activate_grantFollows h)

theorem takeSafety_grantFollows (group : SafetyGroup) (ds : List Draft) (h : Ungranted s) :
    grantFollows (takeSafety group ds s) := by
  refine goAhead_grantFollows (grantFollows_of_ungranted ?_ ?_)
  · simpa [Ungranted] using h
  · simp only [append_frame, State.setSafe_arb, State.setArb_arb]
    split <;> simp

/-! ### The Safety Monitor and the crank -/

theorem parkRuleAct_grantFollows (position : Axes Int) (h : grantFollows s) (auth : s.arb.auth ≠ .manual) :
    grantFollows (parkRuleAct position s) := by
  unfold parkRuleAct
  split
  · exact addReason_grantFollows _ h
  split
  · exact takeSafety_grantFollows _ _ (ungranted_of_follows h auth)
  · exact addReason_grantFollows _ h

theorem parkRule_grantFollows (position : Axes Int) (h : grantFollows s) : grantFollows (parkRule position false s) := by
  have ruled : ∀ u, grantFollows u → grantFollows (parkRuleAlarms position
      ((s.arb.auth == .manual && !false) || holdsParkStow s) u) := fun u hu => grantFollows_of_arb hu (by simp)
  unfold parkRule
  dsimp only
  refine ruled _ ?_
  split
  · exact h
  · next acts =>
    have auth : s.arb.auth ≠ .manual := fun manual => acts (by simp [manual])
    exact ite_keeps (ite_keeps (addReason_grantFollows _ h) h) (parkRuleAct_grantFollows _ h auth)

theorem afterRemoval_grantFollows (h : grantFollows s) : grantFollows (afterRemoval s) := by
  unfold afterRemoval
  split
  · next lockout =>
    have freed : grantFollows (toFree s) := toFree_grantFollows (ungranted_of_follows h (by simp [lockout.1]))
    exact ite_keeps freed (parkRule_grantFollows _ freed)
  · exact h

/-- In MANUAL a reason joins the set and nothing else follows (R42). -/
theorem addReason_manual (k : LockReason) (manual : s.arb.auth = .manual) :
    addReason k s = if s.arb.reasons.has k then s else enlistReason k s := by
  simp [addReason, manual]

/-- The park rule at the end of a crank leaves MANUAL only with SAFETY's park stow (R85, R96). -/
theorem parkRule_atCrankEnd (position : Axes Int) (manual : s.arb.auth = .manual) :
    ((parkRule position true s).arb.auth = .manual ∧ (parkRule position true s).exe = s.exe)
      ∨ parkRule position true s = parkRuleAlarms position false (takeSafety .parkStow (parkStowDrafts position) s) := by
  have same : ∀ k, (addReason k s).arb.auth = .manual ∧ (addReason k s).exe = s.exe := by
    intro k
    rw [addReason_manual k manual]
    split <;> simp [enlistReason, manual]
  unfold parkRule
  dsimp only
  by_cases holds : holdsParkStow s = true
  · exact Or.inl (by simp [holds, manual])
  simp only [manual, holds, parkRuleAct, Bool.not_true, Bool.and_false, Bool.or_self, Bool.false_eq_true, reduceCtorEq, if_false]
  split
  · exact Or.inl (by simp [same])
  split
  · exact Or.inr rfl
  · exact Or.inl (by simp [same])

theorem leaveManual_grantFollows (position : Axes Int) (h : Ungranted s) (manual : s.arb.auth = .manual) :
    grantFollows (leaveManual position s) := by
  unfold leaveManual
  split
  · exact enterLockout_grantFollows s
  split
  · dsimp only
    rcases parkRule_atCrankEnd position manual with ⟨stays, -⟩ | stows
    · rw [if_pos stays]
      exact enterLockout_grantFollows _
    · rw [stows]
      exact ite_keeps (enterLockout_grantFollows _)
        (grantFollows_of_arb (takeSafety_grantFollows .parkStow (parkStowDrafts position) h) (by simp))
  · exact passOn_grantFollows _ h

theorem finishCrank_grantFollows (position : Axes Int) (h : grantFollows s) (ending : s.arb.crankEnd.isSome = true) :
    grantFollows (finishCrank position s) := by
  obtain ⟨grant, isManual, -⟩ := h
  have manual := isManual ending
  have negated : s.arb.grant = false := by
    rw [grant, Bool.and_eq_false_iff]
    exact Or.inr (by simpa using ending)
  unfold finishCrank
  dsimp only
  have left := leaveManual_grantFollows position
    (s := unblockStow position (s.setArb { s.arb with crankEnd := none })) ?_ ?_
  · exact grantFollows_of_arb left (by simp only [placeAll_frame])
  all_goals
    unfold unblockStow dropReason
    repeat' split
    all_goals simp [Ungranted, negated, manual]

theorem crankCheck_grantFollows (h : grantFollows s) : grantFollows (crankCheck s) := by
  unfold crankCheck
  split
  · next ending => exact ite_keeps (finishCrank_grantFollows _ h (by simp [ending])) h
  · exact h

theorem settleAll_grantFollows (h : grantFollows s) : grantFollows (settleAll s) :=
  crankCheck_grantFollows (handoverCheck_grantFollows (advance_grantFollows h))

theorem manualDue_grantFollows (h : grantFollows s) (auth : s.arb.auth ≠ .manual) : grantFollows (manualDue s) := by
  refine grantFollows_of_ungranted ?_ ?_
  · simpa [Ungranted, manualDue] using ungranted_of_follows h auth
  · simp [manualDue]

theorem takeManualRequest_grantFollows (h : grantFollows s) : grantFollows (takeManualRequest s) := by
  unfold takeManualRequest
  split
  · exact grantCrank_grantFollows ..
  · exact grantCrank_grantFollows ..
  · exact grantCrank_grantFollows ..
  · next manual =>
    obtain ⟨-, -, deferred⟩ := h
    simp [grantFollows, manual, deferred manual]
  · exact h
  · next notManual _ =>
    exact ite_keeps (grantCrank_grantFollows ..)
      (ite_keeps (advance_grantFollows (abandonForCrank_grantFollows h)) (manualDue_grantFollows h notManual))

theorem withdrawManual_grantFollows (h : grantFollows s) (pending : s.arb.auth = .manualPending) :
    grantFollows (withdrawManual s) := by
  refine grantFollows_of_ungranted ?_ ?_
  · simpa [Ungranted, withdrawManual] using ungranted_of_follows h (by simp [pending])
  · simp only [withdrawManual, placeAll_frame, updateActive_frame, State.setArb_arb, returnState]
    repeat' split
    all_goals simp

end Sys2Proof.Machine
end

section
/-! Every command answers a next state, and keeps the grant with the authority state (R79, R85). -/

namespace Sys2Proof.Machine

variable {s : State}

theorem whenPowered_pending {f : State → State} (h : (f s).pending = s.pending) : (whenPowered f s).pending = s.pending :=
  whenPowered_keeps (P := fun t => t.pending = s.pending) rfl h

theorem onRequest_pending {p : Port} {r : Request} {f : State → State} (h : (f s).pending = s.pending) :
    (onRequest p r f s).pending = s.pending :=
  onRequest_keeps (P := fun t => t.pending = s.pending) rfl h

theorem asHolder_pending {p : Port} {r : Request} {submits : Bool} {f : State → State} (h : (f s).pending = s.pending) :
    (asHolder p r submits f s).pending = s.pending :=
  asHolder_keeps (P := fun t => t.pending = s.pending) (fun _ => by simp) h

theorem ite_pending {c : Prop} [Decidable c] {t u : State} (ht : t.pending = s.pending) (hu : u.pending = s.pending) :
    (if c then t else u).pending = s.pending :=
  ite_keeps (P := fun t => t.pending = s.pending) ht hu

theorem warmStart_pending (cause : StartCause) (i : StartInputs) (s : State) : (warmStart cause i s).pending = s.pending := by
  simp [warmStart, warmState, finishWrites]

/-- Settles O2: each arm of the dispatch answers the state of its function, which keeps the queue of commands. -/
theorem everyCommandAnswersNext : Obligations.EveryCommandAnswersNext := by
  intro c s
  cases c <;> refine ⟨_, rfl, ?_⟩
  case powerApplied => simp [coldStart, coldState]
  case reset => exact whenPowered_pending (ite_pending rfl (warmStart_pending _ _ s))
  case restart => exact onRequest_pending (ite_pending (warmStart_pending _ _ s) (by simp))
  case restWatchExpiry =>
    refine whenPowered_pending ?_
    split <;> simp
  case estopAsserted | parkAsserted | supplyOkAsserted | manualReqAsserted => exact whenPowered_pending (ite_pending rfl (by simp))
  case parkNegated | supplyOkNegated | manualReqNegated => exact whenPowered_pending (ite_pending (by simp) rfl)
  case aim | queueMoves | stow | peak | halt | clearAxis => exact onRequest_pending (asHolder_pending (by simp))
  case frameReceived | frameByteTimeout | takeFrame | readyChange | transmitBegin | frameSent | byteReceived | slotWriteEnd
    | eraseEnd | inclinometerSample | dwellEnd | settleTimerExpiry | poseReading | idleTimerExpiry | settingsWriteEnd
    | estopNegated | suspensionLimitExpiry | faultLineAsserted | faultLineNegated | obstructionEdge | stallWindowExpiry
    | settlingTimeout | anemometerPulse | windSample | levelWaitExpiry | resetNegated => exact whenPowered_pending (by simp)
  case powerLoss => exact whenPowered_pending (by simp [losePower])
  case claim | withdraw | release | setHeading | readSite | stageSite | commitSite | retireSite | eraseTable | invalidateSite
    | flushCache | readCache | levelReport | status | identify | scanResult | clearLatches | clearLockout | setNotices
    | configure | revert => exact onRequest_pending (by simp)

/-! ### The grant at each command -/

theorem respond_grantFollows {p : Port} {r : Request} {status : Status} {fields : List Byte} (h : grantFollows s) :
    grantFollows (respond p r status fields s) :=
  grantFollows_of_same h (by simp) (by simp) (by simp) (by simp)

theorem claimAuthority_grantFollows (p : Port) (h : grantFollows s) : grantFollows (claimAuthority p s) := by
  have joined : grantFollows (joinClaim p s) := h
  have against : ∀ g, s.arb.auth ≠ .manual → grantFollows (claimAgainst p g s) := by
    intro g auth
    unfold claimAgainst
    split
    · exact respond_grantFollows h
    split
    · split
      · unfold preempt
        split
        · exact respond_grantFollows joined
        split
        · exact respond_grantFollows (toHeld_grantFollows p (ungranted_of_arb (ungranted_of_follows h auth) (by simp)))
        · exact respond_grantFollows (defer_grantFollows _ joined auth)
      · refine respond_grantFollows (grantFollows_of_arb (s := (joinClaim p s).setArb _) ?_ (placeAuthority_frame ..).2.2.1)
        refine grantFollows_of_ungranted ?_ (by simp)
        simpa [Ungranted] using ungranted_of_follows joined auth
      · exact respond_grantFollows joined
    · exact respond_grantFollows joined
  unfold claimAuthority
  split
  · exact respond_grantFollows h
  · exact respond_grantFollows h
  · next _ notManual => exact against _ notManual
  · next _ notManual => exact respond_grantFollows (toHeld_grantFollows p (ungranted_of_follows h notManual))

theorem releaseAuthority_grantFollows (p : Port) (h : grantFollows s) : grantFollows (releaseAuthority p s) := by
  have marked : grantFollows (markRelease s) := h
  unfold releaseAuthority
  split
  · unfold releaseFrom
    split
    · next held =>
      have auth : s.arb.auth ≠ .manual := by simp [held]
      split
      · exact respond_grantFollows (defer_grantFollows _ marked auth)
      · exact respond_grantFollows (passOn_grantFollows _ (ungranted_of_follows h auth))
    · next moving =>
      refine respond_grantFollows (grantFollows_of_ungranted ?_ ?_)
      · simpa [Ungranted] using ungranted_of_follows h (by simp [moving])
      · simp
    · exact respond_grantFollows marked
    · exact respond_grantFollows marked
  · exact respond_grantFollows h

theorem expireIdle_grantFollows (h : grantFollows s) : grantFollows (expireIdle s) := by
  unfold expireIdle
  split
  · next held _ => exact ite_keeps h (handOn_grantFollows _ h (by simp [held]))
  · exact h

theorem clearLockout_grantFollows (p : Port) (h : grantFollows s) : grantFollows (clearLockout p s) := by
  have cleared : grantFollows (clearStowFailed (clearEstop s)) := by
    unfold clearStowFailed clearEstop
    have dropped : grantFollows (if s.safe.estop then s else dropReason .estop s) := ite_keeps h (dropReason_grantFollows _ h)
    exact ite_keeps dropped (dropReason_grantFollows _ dropped)
  have answered : ∀ status fields, grantFollows (respond p .clearLockout status fields (clearStowFailed (clearEstop s))) :=
    fun _ _ => respond_grantFollows cleared
  unfold clearLockout
  split
  · exact respond_grantFollows h
  dsimp only
  split
  · exact answered _ _
  split
  · exact answered _ _
  · exact afterRemoval_grantFollows (answered _ _)

theorem submit_grantFollows {p : Port} {ds : List Draft} {r : Request} {status : Status} {fields : List Byte}
    (h : grantFollows s) : grantFollows (submit p ds (respond p r status fields) s) :=
  goAhead_grantFollows (respond_grantFollows (grantFollows_of_arb h (by simp)))

/-- A request that submits entries is answered and changes nothing else, or its entries fit in the room left and are submitted
with the answer (R51). -/
def Submission (p : Port) (r : Request) (s t : State) : Prop :=
  (∃ status fields, t = respond p r status fields s)
    ∨ ∃ ds status fields, fits ds.length s = true ∧ t = submit p ds (respond p r status fields) s

theorem Submission.answered (p : Port) (r : Request) (status : Status) (fields : List Byte) (s : State) :
    Submission p r s (respond p r status fields s) := Or.inl ⟨status, fields, rfl⟩

theorem Submission.fitted {p : Port} {r : Request} {status : Status} {fields : List Byte} {ds : List Draft} {s : State}
    (h : fits ds.length s = true) : Submission p r s (submit p ds (respond p r status fields) s) :=
  Or.inr ⟨ds, status, fields, h, rfl⟩

theorem queueMoves_submission (p : Port) (lock : Byte) (moves : List RawMove) (s : State) :
    Submission p (.queueMoves lock moves) s (queueMoves p lock moves s) := by
  unfold queueMoves
  dsimp only
  split
  · exact .answered ..
  split
  · exact .answered ..
  split
  · exact .answered ..
  split
  · next room => exact .fitted room
  · exact .answered ..

theorem stow_submission (p : Port) (s : State) : Submission p .stow s (stow p s) := by
  unfold stow
  dsimp only
  split
  · exact .answered ..
  split
  · exact .answered ..
  split
  · exact .answered ..
  split
  · next room => exact .fitted room
  · exact .answered ..

theorem placeScan_submission (p : Port) (r : Request) (slot : Option Nat) (q : ScanParams) (s : State) :
    Submission p r s (placeScan p r slot q s) := by
  unfold placeScan
  split
  · next room => exact .fitted (ds := [scanDraft slot q]) room
  · exact .answered ..

theorem peak_submission (p : Port) (q : PeakParams) (s : State) : Submission p (.peak q) s (peak p q s) := by
  unfold peak
  split
  · exact .answered ..
  · exact .answered ..
  · exact .answered ..
  unfold buildPeak
  split
  · exact placeScan_submission ..
  split
  · exact .answered ..
  split
  · exact placeScan_submission ..
  · exact .answered ..

theorem aimAt_submission (p : Port) (r : Request) (slot : Nat) (flag : Byte) (site : SiteFields) (heading : Int) (s : State) :
    Submission p r (s.setCache (s.cache.lookedUp slot)) (aimAt p r slot flag site heading s) := by
  unfold aimAt
  extract_lets found s1 fields ds
  by_cases room : fits ds.length s1 = true
  · rw [if_pos room]
    exact .fitted room
  · rw [if_neg room]
    exact .answered ..

theorem resolveAim_submission (p : Port) (r : Request) (slot : Nat) (flag : Byte) (s : State) :
    ∃ c, Submission p r (s.setCache c) (resolveAim p r slot flag s) := by
  unfold resolveAim
  split
  · exact ⟨s.cache, .answered ..⟩
  split
  · exact ⟨_, aimAt_submission ..⟩
  · exact ⟨s.cache, .answered ..⟩
  · exact ⟨s.cache, .answered ..⟩

/-- AIM may set the heading and look the cache up before it submits (R129, R137). -/
theorem aim_submission (p : Port) (slot : Nat) (heading : Option Int) (flag : Byte) (s : State) :
    ∃ h c, Submission p (.aim slot heading flag) ((s.setHeading h).setCache c) (aim p slot heading flag s) := by
  unfold aim
  dsimp only
  split
  · exact ⟨s.heading, s.cache, .answered ..⟩
  split
  · exact ⟨s.heading, s.cache, .answered ..⟩
  split
  · obtain ⟨c, resolved⟩ := resolveAim_submission p (.aim slot none flag) slot flag s
    exact ⟨s.heading, c, resolved⟩
  · next v =>
    split
    · obtain ⟨c, resolved⟩ := resolveAim_submission p (.aim slot (some v) flag) slot flag (s.setHeading (some v))
      exact ⟨some v, c, resolved⟩
    · exact ⟨s.heading, s.cache, .answered ..⟩

theorem submission_grantFollows {p : Port} {r : Request} {t : State} (sub : Submission p r s t) (h : grantFollows s) :
    grantFollows t := by
  rcases sub with ⟨status, fields, rfl⟩ | ⟨ds, status, fields, -, rfl⟩
  · exact respond_grantFollows h
  · exact submit_grantFollows h

theorem aim_grantFollows (p : Port) (slot : Nat) (heading : Option Int) (flag : Byte) (h : grantFollows s) :
    grantFollows (aim p slot heading flag s) := by
  obtain ⟨v, c, sub⟩ := aim_submission p slot heading flag s
  exact submission_grantFollows (s := (s.setHeading v).setCache c) sub h

/-! ### Readings, watches, lines -/

theorem takeEstop_grantFollows (h : grantFollows s) : grantFollows (takeEstop s) :=
  addReason_grantFollows _ (grantFollows_of_arb h (by simp))

theorem takeParkNegation_grantFollows (h : grantFollows s) : grantFollows (takeParkNegation s) :=
  parkRule_grantFollows _ (grantFollows_of_arb h (by simp))

theorem takeParkAssertion_grantFollows (h : grantFollows s) : grantFollows (takeParkAssertion s) := by
  have dropped : grantFollows (dropParkReasons (setPark true s)) := by
    unfold dropParkReasons
    exact ite_keeps h (grantFollows_of_same h (by simp) (by simp) (by simp) (by simp))
  unfold takeParkAssertion
  exact grantFollows_of_arb (afterRemoval_grantFollows dropped) (by simp)

theorem offerLowering_grantFollows (h : grantFollows s) : grantFollows (offerLowering s) := by
  have raised : grantFollows (raiseWindAlarm s) := grantFollows_of_arb h (by simp)
  unfold offerLowering
  split
  · exact raised
  · exact raised
  · exact h
  · next notManual _ _ =>
    exact ite_keeps raised (takeSafety_grantFollows _ _ (ungranted_of_follows h (fun manual => notManual manual)))

theorem sampleWind_grantFollows (h : grantFollows s) : grantFollows (sampleWind s) := by
  unfold sampleWind
  dsimp only
  split
  · exact h
  unfold windChanged
  dsimp only
  have told : ∀ body u, u.arb = s.arb → grantFollows (placeAll body u) := fun body u arb => grantFollows_of_arb h (by simp [arb])
  split
  · exact ite_keeps (offerLowering_grantFollows (told _ _ rfl)) (told _ _ rfl)
  · exact ite_keeps (grantFollows_of_arb h (by simp)) (told _ _ rfl)

theorem takeSupplyLoss_grantFollows (h : grantFollows s) : grantFollows (takeSupplyLoss s) := by
  have lost : grantFollows (setSupply false .absent false s) := h
  exact ite_keeps (advance_grantFollows (suspendOrAbandon_grantFollows lost)) lost

theorem restartActive_arb (seconds : Nat) (s : State) : (restartActive seconds s).arb = s.arb := by
  unfold restartActive
  split
  · rfl
  · dsimp only
    split <;> simp

theorem expireSettle_grantFollows (suspended : Nat) (h : grantFollows s) : grantFollows (expireSettle suspended s) := by
  have settled : grantFollows (s.setExe { s.exe with supply := .available, settle := false }) := h
  exact ite_keeps (ite_keeps (advance_grantFollows (grantFollows_of_arb settled (restartActive_arb ..))) settled) h

/-- What ends with the ending reports, and left the arbiter alone before them. -/
theorem advanced_grantFollows {t : State} (h : grantFollows s) (arb : t.arb = s.arb) : grantFollows (advance t) :=
  advance_grantFollows (grantFollows_of_arb h arb)

theorem endCrank_grantFollows (reading : Reading) (h : grantFollows s) (manual : s.arb.auth = .manual) :
    grantFollows (endCrank reading s) := by
  obtain ⟨-, -, deferred⟩ := h
  exact settleAll_grantFollows (by simp [grantFollows, manual, deferred manual])

theorem takeManualEnd_grantFollows (reading : Reading) (h : grantFollows s) : grantFollows (takeManualEnd reading s) := by
  unfold takeManualEnd
  split
  · next manual => exact endCrank_grantFollows reading h manual
  · next pending => exact withdrawManual_grantFollows h pending
  · exact h

/-! ### Starts and every command -/

theorem endOfStart_grantFollows (cause : StartCause) (negatedDuring : Bool) (i : StartInputs) (ungranted : Ungranted s)
    (auth : s.arb.auth = .free) : grantFollows (endOfStart cause negatedDuring i s) := by
  unfold endOfStart
  dsimp only
  have announced : ∀ t, t.arb = s.arb → grantFollows (keptLockout t) := by
    intro t arb
    refine grantFollows_of_ungranted ?_ ?_
    · unfold keptLockout
      split <;> simpa [Ungranted, arb] using ungranted
    · unfold keptLockout
      split <;> simp [arb, auth]
  have found : ∀ t, grantFollows t → grantFollows (foundWind (foundPark i.park negatedDuring (foundEstop i.estop t))) := by
    intro t ht
    have estop : grantFollows (foundEstop i.estop t) := ite_keeps (takeEstop_grantFollows ht) ht
    refine grantFollows_of_arb (s := foundPark i.park negatedDuring (foundEstop i.estop t)) ?_ (by simp)
    unfold foundPark
    exact ite_keeps (ite_keeps (grantFollows_of_arb estop (by simp)) estop) (takeParkNegation_grantFollows estop)
  have manual : ∀ t, grantFollows t → grantFollows (foundManual i.manualReq t) := fun t ht =>
    ite_keeps (takeManualRequest_grantFollows (s := setManualReq true t) ht) ht
  exact manual _ (found _ (announced _ (by simp)))

theorem coldStart_grantFollows (i : StartInputs) (s : State) : grantFollows (coldStart i s) :=
  endOfStart_grantFollows _ _ _ ⟨rfl, rfl⟩ rfl

theorem warmStart_grantFollows (cause : StartCause) (i : StartInputs) (s : State) : grantFollows (warmStart cause i s) :=
  endOfStart_grantFollows _ _ _ ⟨rfl, rfl⟩ rfl

theorem exec_grantFollows (c : Instr) {t : State} (h : grantFollows s) (step : exec c s = .next t) : grantFollows t := by
  have answered : ∀ p r status fields, grantFollows (respond p r status fields s) := fun _ _ _ _ => respond_grantFollows h
  have same : ∀ {u : State}, u.arb.auth = s.arb.auth → u.arb.grant = s.arb.grant → u.arb.crankEnd = s.arb.crankEnd →
      u.arb.deferred = s.arb.deferred → grantFollows u := grantFollows_of_same h
  cases c <;> cases step
  case powerApplied i => exact coldStart_grantFollows i s
  case reset i => exact whenPowered_keeps h (ite_keeps h (warmStart_grantFollows _ i s))
  case restart p i => exact onRequest_keeps h (ite_keeps (warmStart_grantFollows _ i s) (answered _ _ _ _))
  case powerLoss l => exact whenPowered_keeps h (grantFollows_of_ungranted ⟨rfl, rfl⟩ nofun)
  case claim => exact onRequest_keeps h (claimAuthority_grantFollows _ h)
  case release => exact onRequest_keeps h (releaseAuthority_grantFollows _ h)
  case idleTimerExpiry => exact whenPowered_keeps h (expireIdle_grantFollows h)
  case clearLockout => exact onRequest_keeps h (clearLockout_grantFollows _ h)
  case aim => exact onRequest_keeps h (asHolder_keeps (fun _ => answered _ _ _ _) (aim_grantFollows _ _ _ _ h))
  case queueMoves =>
    exact onRequest_keeps h
      (asHolder_keeps (fun _ => answered _ _ _ _) (submission_grantFollows (queueMoves_submission _ _ _ s) h))
  case stow =>
    exact onRequest_keeps h (asHolder_keeps (fun _ => answered _ _ _ _) (submission_grantFollows (stow_submission _ s) h))
  case peak =>
    exact onRequest_keeps h (asHolder_keeps (fun _ => answered _ _ _ _) (submission_grantFollows (peak_submission _ _ s) h))
  case halt =>
    refine onRequest_keeps h (asHolder_keeps (fun _ => answered _ _ _ _) (advance_grantFollows (respond_grantFollows ?_)))
    exact grantFollows_of_arb h (by simp)
  case clearAxis =>
    exact onRequest_keeps h (asHolder_keeps (fun _ => answered _ _ _ _) (same (by simp) (by simp) (by simp) (by simp)))
  case levelReport p level =>
    refine onRequest_keeps h (ite_keeps (answered _ _ _ _) (ite_keeps (answered _ _ _ _) ?_))
    have kept : grantFollows (respond p (.levelReport level) .done [] (keepReport level s)) :=
      respond_grantFollows (s := keepReport level s) h
    unfold sampleReport
    split
    · exact advanced_grantFollows kept (by simp)
    · exact kept
  case poseReading r =>
    exact whenPowered_keeps h (settleAll_grantFollows (grantFollows_of_arb h (by simp)))
  case stallWindowExpiry a =>
    refine whenPowered_keeps h ?_
    unfold stallWindow
    split
    · exact ite_keeps (advanced_grantFollows h (by simp)) (grantFollows_of_arb h (by simp))
    · exact h
  case settlingTimeout a =>
    refine whenPowered_keeps h ?_
    unfold settlingTimeout
    split
    · exact ite_keeps h (advanced_grantFollows h (by simp))
    · exact h
  case restWatchExpiry =>
    refine whenPowered_keeps h ?_
    split
    · exact settleAll_grantFollows (grantFollows_of_arb h (by simp))
    · exact h
  case faultLineAsserted a =>
    exact whenPowered_keeps h (ite_keeps h (settleAll_grantFollows (grantFollows_of_arb h (by simp))))
  case obstructionEdge =>
    have latched : grantFollows (setLatch s) := grantFollows_of_arb h (by simp)
    exact whenPowered_keeps h (ite_keeps (advanced_grantFollows latched (by simp)) latched)
  case dwellEnd v =>
    refine whenPowered_keeps h ?_
    unfold endDwell
    split
    · exact advanced_grantFollows h (by simp)
    · exact ite_keeps (advanced_grantFollows h (by simp)) h
    · exact h
    · exact h
  case levelWaitExpiry =>
    refine whenPowered_keeps h ?_
    unfold expireLevelWait
    split
    · exact advanced_grantFollows h (by simp)
    · exact h
  case estopAsserted => exact whenPowered_keeps h (ite_keeps h (takeEstop_grantFollows h))
  case parkNegated => exact whenPowered_keeps h (ite_keeps (takeParkNegation_grantFollows h) h)
  case parkAsserted => exact whenPowered_keeps h (ite_keeps h (takeParkAssertion_grantFollows h))
  case windSample => exact whenPowered_keeps h (sampleWind_grantFollows h)
  case supplyOkNegated => exact whenPowered_keeps h (ite_keeps (takeSupplyLoss_grantFollows h) h)
  case supplyOkAsserted => exact whenPowered_keeps h (ite_keeps h (grantFollows_of_arb h (by simp)))
  case settleTimerExpiry => exact whenPowered_keeps h (expireSettle_grantFollows _ h)
  case suspensionLimitExpiry => exact whenPowered_keeps h (ite_keeps (advanced_grantFollows h (by simp)) h)
  case manualReqAsserted =>
    exact whenPowered_keeps h (ite_keeps h (takeManualRequest_grantFollows (s := setManualReq true s) h))
  case manualReqNegated =>
    exact whenPowered_keeps h (ite_keeps (takeManualEnd_grantFollows (s := setManualReq false s) _ h) h)
  case frameReceived | frameByteTimeout | takeFrame | readyChange | transmitBegin | frameSent | byteReceived
    | slotWriteEnd | eraseEnd | settingsWriteEnd | inclinometerSample | estopNegated | faultLineNegated | anemometerPulse
    | resetNegated => exact whenPowered_keeps h (same (by simp) (by simp) (by simp) (by simp))
  case withdraw | setHeading | readSite | stageSite | commitSite | retireSite | eraseTable | invalidateSite | flushCache
    | readCache | status | identify | scanResult | clearLatches | setNotices | configure | revert =>
    exact onRequest_keeps h (same (by simp) (by simp) (by simp) (by simp))

end Sys2Proof.Machine
end

section
/-! The work of the blocks: what every operation behind the commands keeps of the alarm output, of the drives under ESTOP, of the
queue's room, of the scan's counts and of the ports' lists (R46, R100, R101, R150, R161). -/

namespace Sys2Proof.Machine

/-- Notices may have been placed on a port: its responses, its frames received and the request in its hands stand (R161). -/
structure PortWorked (q u : PortState) : Prop where
  responses : responses u.output = responses q.output
  kinds : (noticeKinds q.output).Nodup → (noticeKinds u.output).Nodup
  receive : u.receive = q.receive
  inHand : u.inHand = q.inHand

theorem PortWorked.refl (q : PortState) : PortWorked q q := ⟨rfl, id, rfl, rfl⟩

theorem PortWorked.trans {q u v : PortState} (h : PortWorked q u) (g : PortWorked u v) : PortWorked q v :=
  ⟨g.responses.trans h.responses, g.kinds ∘ h.kinds, g.receive.trans h.receive, g.inHand.trans h.inHand⟩

theorem noticeKinds_placeItem_nodup (body : NoticeBody) {l : List OutItem} (h : (noticeKinds l).Nodup) :
    (noticeKinds (placeItem body l)).Nodup := by
  rw [noticeKinds_placeItem]
  split
  · exact h
  · next absent => exact List.nodup_append.mpr ⟨h, by simp, by simpa using fun a ha e => absent (by rw [← e]; exact ha)⟩

theorem PortWorked.placed (body : NoticeBody) (q : PortState) :
    PortWorked q { q with output := placeItem body q.output } :=
  ⟨responses_placeItem body q.output, noticeKinds_placeItem_nodup body, rfl, rfl⟩

/-- The positions and the lamp follow the counts last read (R4, R19). -/
def readingFollows (s : State) : Prop := poseFollows s ∧ lampFollows s

/-- The blocks have worked: the pose and the alarm output still follow, no drive was enabled under ESTOP, the queue fits, the
scan's counts fit, and the ports got notices alone. -/
structure Worked (s t : State) : Prop where
  reading : readingFollows s → readingFollows t
  estop : t.safe.estop = s.safe.estop
  alarm : alarmFollows s → alarmFollows t
  drives : ∀ a, (t.exe.drives.get a).enable = true → (s.exe.drives.get a).enable = true ∨ s.safe.estop = false
  queue : queueFits s → queueFits t
  scan : scanFits s → scanFits t
  ports : ∀ p, PortWorked (s.ports.get p) (t.ports.get p)

variable {s t u : State}

theorem Worked.refl (s : State) : Worked s s := ⟨id, rfl, id, fun _ => Or.inl, id, id, fun _ => .refl _⟩

theorem Worked.trans (h : Worked s t) (g : Worked t u) : Worked s u where
  reading := g.reading ∘ h.reading
  estop := g.estop.trans h.estop
  alarm := g.alarm ∘ h.alarm
  drives a enabled := (g.drives a enabled).elim (h.drives a) (fun negated => Or.inr (h.estop ▸ negated))
  queue := g.queue ∘ h.queue
  scan := g.scan ∘ h.scan
  ports p := (h.ports p).trans (g.ports p)

/-- Nothing of what is kept changes. -/
theorem Worked.of_same (ports : t.ports = s.ports) (exe : t.exe = s.exe) (safe : t.safe = s.safe) (scan : t.scan = s.scan)
    (pose : t.pose = s.pose) : Worked s t where
  reading := by simpa only [readingFollows, poseFollows, lampFollows, pose] using id
  estop := by rw [safe]
  alarm := by simpa only [alarmFollows, safe] using id
  drives a enabled := Or.inl (exe ▸ enabled)
  queue := by simpa only [queueFits, exe] using id
  scan := by simpa only [scanFits, scan] using id
  ports p := by rw [ports]; exact .refl _

theorem worked_ite {c : Prop} [Decidable c] (ht : Worked s t) (hu : Worked s u) : Worked s (if c then t else u) :=
  ite_keeps ht hu

theorem setArb_worked (x : Arbiter) (s : State) : Worked s (s.setArb x) := .of_same rfl rfl rfl rfl rfl

theorem setCache_worked (x : Cache) (s : State) : Worked s (s.setCache x) := .of_same rfl rfl rfl rfl rfl

/-- A change of the Pose Monitor that keeps the reading, or brings one whose positions and lamp follow. -/
theorem setPose_worked (x : PoseMonitor) (s : State) (reading : readingFollows s → readingFollows (s.setPose x)) :
    Worked s (s.setPose x) := ⟨reading, rfl, id, fun _ => Or.inl, id, id, fun _ => .refl _⟩

/-- A change of the executor that leaves the drives and shortens the queue, if it changes it. -/
theorem setExe_worked (x : Executor) (s : State) (drives : x.drives = s.exe.drives)
    (queue : x.queue.length ≤ s.exe.queue.length) : Worked s (s.setExe x) where
  reading := id
  estop := rfl
  alarm := id
  drives a enabled := by simpa [drives] using Or.inl enabled
  queue fit := Nat.le_trans queue fit
  scan := id
  ports _ := .refl _

/-- A change of the Safety Monitor that leaves the ESTOP line and the alarm. -/
theorem setSafe_worked (x : SafetyMonitor) (s : State) (estop : x.estop = s.safe.estop) (alarm : x.alarm = s.safe.alarm)
    (park : x.alarmPark = s.safe.alarmPark) (wind : x.alarmWind = s.safe.alarmWind) : Worked s (s.setSafe x) where
  reading := id
  estop := estop
  alarm := by simp only [alarmFollows, State.setSafe_safe, alarm, park, wind]; exact id
  drives _ := Or.inl
  queue := id
  scan := id
  ports _ := .refl _

/-- A change of the Scan Engine that keeps its counts in bounds. -/
theorem setScan_worked (x : ScanEngine) (s : State) (fits : scanFits s → scanFits (s.setScan x)) : Worked s (s.setScan x) where
  reading := id
  estop := rfl
  alarm := id
  drives _ := Or.inl
  queue := id
  scan := fits
  ports _ := .refl _

/-! ### Notices, the alarm, the drives -/

theorem placeAlways_worked (p : Port) (body : NoticeBody) (s : State) : Worked s (placeAlways p body s) where
  reading := id
  estop := rfl
  alarm := id
  drives _ := Or.inl
  queue := id
  scan := id
  ports q := by
    simp only [placeAlways, updatePort, State.setPorts_ports, Ports.get_set]
    split
    · next same =>
      rw [same]
      exact .placed body _
    · exact .refl _

theorem placeOn_worked (p : Port) (body : NoticeBody) (s : State) : Worked s (placeOn p body s) :=
  worked_ite (placeAlways_worked p body s) (.refl s)

theorem placeAll_worked (body : NoticeBody) (s : State) : Worked s (placeAll body s) :=
  ((placeOn_worked .cab body s).trans (placeOn_worked .rack body _)).trans (placeOn_worked .link body _)

theorem placeOrigin_worked (origin : Party) (body : NoticeBody) (s : State) : Worked s (placeOrigin origin body s) := by
  cases origin
  · exact placeOn_worked _ body s
  · exact .refl s

theorem placeCondition_worked (event : ConditionEvent) (s : State) : Worked s (placeCondition event s) := placeAll_worked _ s

theorem placeAuthority_worked (h : Option Party) (event : AuthEvent) (reason : Option AuthReason) (halted discarded : Nat)
    (s : State) : Worked s (placeAuthority h event reason halted discarded s) := by
  unfold placeAuthority
  split
  · exact placeAlways_worked _ _ s
  · exact .refl s

theorem refuseClaims_worked (claims : List Port) (s : State) : Worked s (refuseClaims claims s) := by
  induction claims generalizing s with
  | nil => exact .refl s
  | cons p ps ih => exact (placeAlways_worked p _ s).trans (ih _)

theorem setAlarmCauses_worked (park wind : Bool) (s : State) : Worked s (setAlarmCauses park wind s) := by
  have set : Worked s (s.setSafe { s.safe with alarmPark := park, alarmWind := wind, alarm := park || wind }) :=
    ⟨id, rfl, fun _ => rfl, fun _ => Or.inl, id, id, fun _ => .refl _⟩
  exact worked_ite set (set.trans (placeCondition_worked _ _))

theorem raiseParkAlarm_worked (s : State) : Worked s (raiseParkAlarm s) := worked_ite (.refl s) (setAlarmCauses_worked _ _ s)

theorem clearParkAlarm_worked (s : State) : Worked s (clearParkAlarm s) := setAlarmCauses_worked _ _ s

theorem raiseWindAlarm_worked (s : State) : Worked s (raiseWindAlarm s) := setAlarmCauses_worked _ _ s

theorem clearWindAlarm_worked (s : State) : Worked s (clearWindAlarm s) := setAlarmCauses_worked _ _ s

theorem takeReading_worked (r : Reading) (s : State) : Worked s (takeReading r s) :=
  Worked.trans (t := recordReading r s) (setPose_worked _ s (fun _ => ⟨rfl, rfl⟩)) (setAlarmCauses_worked _ _ _)

/-- A drive is set: enabled only where it was, or while ESTOP is negated. -/
theorem setDrive_worked (a : Axis) (d : Drive) (s : State)
    (enable : d.enable = true → (s.exe.drives.get a).enable = true ∨ s.safe.estop = false) : Worked s (setDrive a d s) where
  reading := id
  estop := rfl
  alarm := id
  drives b enabled := by
    simp only [setDrive, State.setExe_exe, Axes.get_set] at enabled
    split at enabled
    · next same => exact same ▸ enable enabled
    · exact Or.inl enabled
  queue := id
  scan := id
  ports _ := .refl _

theorem stopDrive_worked (a : Axis) (s : State) : Worked s (stopDrive a s) := setDrive_worked _ _ s nofun

theorem setDirection_worked (a : Axis) (target : Int) (s : State) : Worked s (setDirection a target s) :=
  setDrive_worked _ _ s Or.inl

theorem startDrive_worked (a : Axis) (target : Int) (rate : Rate) (s : State) : Worked s (startDrive a target rate s) :=
  setDrive_worked _ _ s (fun enable => Or.inr (by simpa using enable))

theorem settleDrive_worked (a : Axis) (s : State) : Worked s (settleDrive a s) :=
  setDrive_worked _ _ s (fun enable => Or.inr (by simpa using enable))

/-- A drive of a stop: stopped if its axis is named, else as it stood (R3). -/
theorem stopAxes_drive (axes : Axes Bool) (a : Axis) (s : State) :
    (stopAxes axes s).exe.drives.get a =
      if axes.get a = true then (s.exe.drives.get a).stop else s.exe.drives.get a := by
  cases a <;> rfl

theorem stopAxes_worked (axes : Axes Bool) (s : State) : Worked s (stopAxes axes s) where
  reading := id
  estop := rfl
  alarm := id
  drives a enabled := by
    rw [stopAxes_drive] at enabled
    split at enabled
    · cases enabled
    · exact Or.inl enabled
  queue := id
  scan := id
  ports _ := .refl _

/-! ### The cache's removals -/

theorem flushCache_worked (cause : FlushCause) (requester : Option Port) (s : State) : Worked s (flushCache cause requester s) :=
  (setCache_worked _ s).trans (placeAll_worked _ _)

theorem removeEntry_worked (slot : Nat) (cause : FlushCause) (requester : Option Port) (s : State) :
    Worked s (removeEntry slot cause requester s) := by
  unfold removeEntry
  split
  · exact (setCache_worked _ s).trans (placeAll_worked _ _)
  · exact .refl s

theorem compareLevel_worked (s : State) : Worked s (compareLevel s) := by
  unfold compareLevel
  split
  · exact .refl s
  · exact worked_ite (flushCache_worked _ _ s) (.refl s)

/-! ### The active entry -/

theorem updateActive_worked (f : Active → Active) (s : State) : Worked s (updateActive f s) := setExe_worked _ s rfl (Nat.le_refl _)

theorem setPhase_worked (a : Axis) (ph : AxisPhase) (s : State) : Worked s (setPhase a ph s) := updateActive_worked _ s

theorem driveAxis_worked (a : Axis) (target : Int) (rate : Rate) (s : State) : Worked s (driveAxis a target rate s) :=
  (startDrive_worked a target rate s).trans (setPhase_worked _ _ _)

theorem settleAxis_worked (a : Axis) (s : State) : Worked s (settleAxis a s) :=
  (settleDrive_worked a s).trans (setPhase_worked _ _ _)

theorem followAxis_worked (a : Axis) (target : Int) (rate : Rate) (s : State) : Worked s (followAxis a target rate s) := by
  unfold followAxis
  split
  · exact .refl s
  split
  · exact .refl s
  · exact worked_ite (settleAxis_worked a s) (.refl s)
  · exact worked_ite (.refl s) (driveAxis_worked a target rate s)

theorem finishScan_worked (why : EndReason) (learned : Bool) (s : State) : Worked s (finishScan why learned s) := by
  unfold finishScan
  split
  · next r _ _ result _ =>
    refine (setScan_worked _ s ?_).trans (placeOrigin_worked _ _ _)
    rintro ⟨counted, -⟩
    refine ⟨?_, nofun⟩
    rintro _ ⟨⟩
    exact counted r result
  · exact .refl s

theorem dropActive_worked (e : Entry) (s : State) : Worked s (dropActive e s) :=
  (stopAxes_worked _ s).trans (setExe_worked _ _ rfl (by simp))

theorem completeActive_worked (s : State) : Worked s (completeActive s) := by
  unfold completeActive
  split
  · exact .refl s
  · refine Worked.trans ?_ (placeOrigin_worked _ _ _)
    exact (dropActive_worked _ s).trans (setExe_worked _ _ rfl (Nat.le_refl _))

theorem setGroup_worked (group : Option SafetyGroup) (s : State) : Worked s (s.setSafe { s.safe with group := group }) :=
  setSafe_worked _ s rfl rfl rfl rfl

theorem tellSafety_worked (origin : Party) (s : State) : Worked s (tellSafety origin s) := by
  unfold tellSafety
  split
  · exact (setGroup_worked none s).trans (raiseWindAlarm_worked _)
  · exact setGroup_worked none s
  · exact .refl s

theorem failActive_worked (why : EndReason) (driven : Bool) (s : State) : Worked s (failActive why driven s) := by
  unfold failActive
  split
  · exact .refl s
  · refine Worked.trans (Worked.trans (Worked.trans ?_ (placeOrigin_worked _ _ _)) (tellSafety_worked _ _))
      (setExe_worked _ _ rfl (Nat.zero_le _))
    exact (finishScan_worked why false s).trans (dropActive_worked _ _)

theorem haltAll_worked (why : EndReason) (s : State) : Worked s (haltAll why s) := by
  unfold haltAll
  have ended := finishScan_worked why false s
  dsimp only
  split
  · exact (ended.trans (stopAxes_worked _ _)).trans (setExe_worked _ _ rfl (Nat.zero_le _))
  · exact ended.trans (setExe_worked _ _ rfl (Nat.zero_le _))

theorem haltByHolder_worked (s : State) : Worked s (haltByHolder s) := by
  unfold haltByHolder
  split
  · exact haltAll_worked _ s
  · exact (haltAll_worked _ s).trans (setExe_worked _ _ rfl (Nat.le_refl _))

theorem haltByOrder_worked (why : EndReason) (s : State) : Worked s (haltByOrder why s) :=
  (haltAll_worked why s).trans (setExe_worked _ _ rfl (Nat.le_refl _))

theorem membersBehind_length (e : Entry) (waiting : List Entry) : (membersBehind e waiting).length ≤ waiting.length :=
  (List.takeWhile_sublist _).length_le

theorem keptByDiscard_length (s : State) : (keptByDiscard s).length ≤ s.exe.queue.length := by
  unfold keptByDiscard activeEntry
  split
  · exact Nat.zero_le _
  · next e active =>
    cases queue : s.exe.queue with
    | nil =>
      rw [queue] at active
      split at active <;> cases active
    | cons x rest => exact Nat.succ_le_succ (membersBehind_length e rest)

theorem discardWaiting_worked (crank : Bool) (s : State) : Worked s (discardWaiting crank s) :=
  setExe_worked _ s rfl (keptByDiscard_length s)

theorem suspendActive_worked (s : State) : Worked s (suspendActive s) := by
  unfold suspendActive
  split
  · exact .refl s
  · refine Worked.trans ?_ (placeAll_worked _ _)
    exact (stopAxes_worked _ s).trans (setExe_worked _ _ rfl (Nat.le_refl _))

/-! ### The scan -/

/-- A change of the running scan that keeps its index. -/
theorem updateScan_worked (f : Scan → Scan) (s : State) (index : ∀ x, (f x).index = x.index) : Worked s (updateScan f s) := by
  refine setScan_worked _ s ?_
  rintro ⟨counted, indexed⟩
  refine ⟨counted, fun x running => ?_⟩
  obtain ⟨y, scan, rfl⟩ := Option.map_eq_some_iff.mp running
  rw [index]
  exact indexed y scan

theorem beginDwell_worked (s : State) : Worked s (beginDwell s) := by
  refine setScan_worked _ s ?_
  rintro ⟨counted, indexed⟩
  refine ⟨counted, fun x running => ?_⟩
  obtain ⟨y, scan, rfl⟩ := Option.map_eq_some_iff.mp running
  exact indexed y scan

theorem completeScan_worked (s : State) : Worked s (completeScan s) := by
  unfold completeScan
  split
  · exact .refl s
  split
  · exact ((setCache_worked _ s).trans (finishScan_worked _ _ _)).trans (completeActive_worked _)
  · exact (finishScan_worked _ _ s).trans (completeActive_worked _)

theorem arriveScan_worked (s : State) : Worked s (arriveScan s) := by
  unfold arriveScan
  split
  · exact .refl s
  dsimp only
  have stopped := (stopAxes_worked panAndTilt s).trans (updateActive_worked (fun y => { y with phases := Axes.all .idle }) _)
  split
  · exact stopped.trans (beginDwell_worked _)
  · exact stopped.trans (completeScan_worked _)
  · exact .refl s
  · exact .refl s

theorem driveScanAxis_worked (a : Axis) (target : Int) (s : State) : Worked s (driveScanAxis a target s) :=
  worked_ite ((stopDrive_worked a s).trans (setPhase_worked _ _ _)) (driveAxis_worked _ _ _ s)

theorem driveScan_worked (target : PanTilt) (s : State) : Worked s (driveScan target s) := by
  have driven := (driveScanAxis_worked .pan target.pan s).trans (driveScanAxis_worked .tilt target.tilt _)
  unfold driveScan
  dsimp only
  split
  · exact driven.trans (arriveScan_worked _)
  · exact driven

theorem scanMove_worked (phase : ScanPhase) (target : PanTilt) (s : State) : Worked s (scanMove phase target s) := by
  unfold scanMove
  split
  · exact failActive_worked _ _ s
  · refine Worked.trans ?_ (driveScan_worked target _)
    exact updateScan_worked _ s (fun _ => rfl)

/-- The running step has been sampled: its index does not exceed the steps done (R150). -/
def StepSampled (s : State) : Prop :=
  ∀ x r, s.scan.scan = some x → s.scan.result = some r → x.index ≤ r.done

theorem scanStep_worked (q : ScanParams) {r : ScanResult} (sampled : StepSampled s) (result : s.scan.result = some r)
    (left : r.done < r.requested) : Worked s (scanStep q s) := by
  unfold scanStep
  split
  · exact .refl s
  · next x scan =>
    dsimp only
    refine Worked.trans (t := updateScan (fun y => { y with
      index := y.index + 1, phase := .stepMove, target := scanTarget x.start q (x.index + 1) }) s)
      (setScan_worked _ s ?_) (worked_ite (failActive_worked _ _ _) (scanMove_worked _ _ _))
    rintro ⟨counted, -⟩
    refine ⟨counted, fun y running => ⟨r, result, ?_⟩⟩
    obtain ⟨z, scan, rfl⟩ := Option.map_eq_some_iff.mp running
    have within := sampled z r scan result
    show z.index + 1 ≤ r.requested
    omega

theorem scanBoundary_worked (q : ScanParams) (sampled : StepSampled s) : Worked s (scanBoundary q s) := by
  have completed : ∀ why, Worked s (completeActive (finishScan why false s)) := fun why =>
    (finishScan_worked why false s).trans (completeActive_worked _)
  unfold scanBoundary
  split
  · next result =>
    split
    · exact completed _
    split
    · exact completed _
    split
    · next left => exact scanStep_worked q sampled result left
    split
    · exact scanMove_worked _ _ s
    · exact .refl s
  · exact .refl s

theorem reportProgress_worked (origin : Party) (q : ScanParams) (s : State) : Worked s (reportProgress origin q s) := by
  unfold reportProgress
  split
  · split
    · exact worked_ite (placeOrigin_worked _ _ s) (.refl s)
    · exact .refl s
  · exact .refl s

theorem sampled_requested (r : ScanResult) (index : Nat) (target : PanTilt) (level : Int) :
    (r.sampled index target level).requested = r.requested := by
  unfold ScanResult.sampled
  repeat' split
  all_goals rfl

/-- The steps done after a sample: those before sample 0, and else the step sampled (R150). -/
theorem sampled_done (r : ScanResult) (index : Nat) (target : PanTilt) (level : Int) :
    (r.sampled index target level).done = if index = 0 then r.done else index := by
  unfold ScanResult.sampled
  repeat' split
  all_goals rfl

theorem takeSample_worked (level : Int) (s : State) : Worked s (takeSample level s) := by
  unfold takeSample
  split
  · next e x active scan =>
    split
    · next q motion =>
      have counts : Worked s (s.setScan { s.scan with
          result := s.scan.result.map (fun r => r.sampled x.index x.target level) }) := by
        refine setScan_worked _ s ?_
        rintro ⟨counted, indexed⟩
        have index := indexed x scan
        refine ⟨fun r result => ?_, fun y running => ?_⟩
        · obtain ⟨r, before, rfl⟩ := Option.map_eq_some_iff.mp result
          obtain ⟨r', same, within⟩ := index
          rw [before] at same
          obtain rfl := Option.some.inj same
          rw [sampled_done, sampled_requested]
          split
          · exact counted r before
          · exact within
        · obtain ⟨r, result, within⟩ := indexed y running
          exact ⟨_, Option.map_eq_some_iff.mpr ⟨r, result, rfl⟩, by rw [sampled_requested]; exact within⟩
      refine Worked.trans (counts.trans (reportProgress_worked e.origin q _)) (scanBoundary_worked q ?_)
      intro y r running result
      have framed := reportProgress_frame e.origin q (s.setScan { s.scan with
        result := s.scan.result.map (fun r => r.sampled x.index x.target level) })
      simp only [framed, State.setScan_scan] at running result
      rw [scan] at running
      obtain rfl := Option.some.inj running
      obtain ⟨r, -, rfl⟩ := Option.map_eq_some_iff.mp result
      rw [sampled_done]
      split <;> omega
    · exact .refl s
  · exact .refl s

theorem beginScan_worked (e : Entry) (q : ScanParams) (s : State) : Worked s (beginScan e q s) := by
  refine Worked.trans (setScan_worked _ s ?_) (beginDwell_worked _)
  intro _
  refine ⟨?_, ?_⟩
  · rintro _ ⟨⟩
    exact Nat.zero_le _
  · rintro _ ⟨⟩
    exact ⟨_, rfl, Nat.zero_le _⟩

theorem resumeScan_worked (s : State) : Worked s (resumeScan s) := by
  unfold resumeScan
  split
  · exact .refl s
  split
  · exact driveScan_worked _ s
  · exact driveScan_worked _ s
  · exact beginDwell_worked s
  · exact beginDwell_worked s

end Sys2Proof.Machine
end

section
/-! The work of the arbiter, of the queue and of the Safety Monitor (R20 to R45, R54 to R62, R71 to R98). -/

namespace Sys2Proof.Machine

variable {s t u : State}

/-! ### The arbiter -/

theorem startIdle_worked (s : State) : Worked s (startIdle s) := setArb_worked _ s

theorem toFree_worked (s : State) : Worked s (toFree s) := setArb_worked _ s

theorem toHeld_worked (p : Port) (s : State) : Worked s (toHeld p s) := (setArb_worked _ s).trans (startIdle_worked _)

theorem giveTo_worked (p : Port) (reason : AuthReason) (s : State) : Worked s (giveTo p reason s) :=
  (toHeld_worked p s).trans (placeAuthority_worked _ _ _ _ _ _)

theorem passOn_worked (reason : AuthReason) (s : State) : Worked s (passOn reason s) := by
  unfold passOn
  split
  · exact giveTo_worked _ _ s
  · exact toFree_worked s

theorem endDeferral_worked (s : State) : Worked s (endDeferral s) := (setArb_worked _ s).trans (startIdle_worked _)

theorem retain_worked (s : State) : Worked s (retain s) := by
  refine Worked.trans ?_ (placeAuthority_worked _ _ _ _ _ _)
  exact (setArb_worked _ s).trans (startIdle_worked _)

theorem enterLockout_worked (s : State) : Worked s (enterLockout s) := by
  refine Worked.trans (t := refuseClaims s.arb.claims s) (refuseClaims_worked _ s) ?_
  exact (setArb_worked _ _).trans (setExe_worked _ _ rfl (Nat.le_refl _))

theorem groupCut_worked (s : State) : Worked s (groupCut s) := by
  have none := setGroup_worked none s
  unfold groupCut
  dsimp only
  split
  · exact none.trans (raiseWindAlarm_worked _)
  · exact none

theorem grantCrank_worked (lh ld bh bd : Nat) (s : State) : Worked s (grantCrank lh ld bh bd s) := by
  have told : Worked s (if s.arb.releaseMark then s else placeAuthority s.arb.holder .lost (some .manual) lh ld s) :=
    worked_ite (.refl s) (placeAuthority_worked _ _ _ _ _ s)
  unfold grantCrank
  refine Worked.trans ?_ (placeAll_worked _ _)
  exact told.trans (setArb_worked _ _)

theorem abandonForCrank_worked (s : State) : Worked s (abandonForCrank s) := by
  unfold abandonForCrank
  split
  · exact .refl s
  · next e _ =>
    refine Worked.trans (Worked.trans (Worked.trans (t := dropActive e (finishScan .endedManual false s)) ?_ ?_)
      (groupCut_worked _)) (grantCrank_worked _ _ _ _ _)
    · exact (finishScan_worked _ _ s).trans (dropActive_worked _ _)
    · exact setExe_worked _ _ rfl (Nat.zero_le _)

theorem enlistReason_worked (k : LockReason) (s : State) : Worked s (enlistReason k s) :=
  (setArb_worked _ s).trans (placeCondition_worked _ _)

theorem dropReason_worked (k : LockReason) (s : State) : Worked s (dropReason k s) :=
  worked_ite ((setArb_worked _ s).trans (placeCondition_worked _ _)) (.refl s)

theorem takeOutstanding_worked (s : State) : Worked s (takeOutstanding s) := worked_ite (enlistReason_worked _ s) (.refl s)

theorem lockOut_worked (k : LockReason) (s : State) : Worked s (lockOut k s) := by
  have halted : Worked s (haltByOrder (haltReason k) (takeOutstanding s)) :=
    (takeOutstanding_worked s).trans (haltByOrder_worked _ _)
  have told := halted.trans (placeAuthority_worked s.arb.holder .lost (some (lostReason k)) (activeTag s) (waitingCount s) _)
  have locked := (told.trans (groupCut_worked _)).trans (enterLockout_worked _)
  unfold lockOut
  dsimp only
  split
  · exact locked.trans (grantCrank_worked _ _ _ _ _)
  · exact locked

theorem addReason_worked (k : LockReason) (s : State) : Worked s (addReason k s) := by
  have enlisted := enlistReason_worked k s
  unfold addReason
  split
  · exact .refl s
  dsimp only
  split
  · exact enlisted.trans (enterLockout_worked _)
  · exact enlisted
  · exact enlisted
  · exact enlisted.trans (lockOut_worked _ _)
  · exact enlisted
  · exact enlisted.trans (lockOut_worked _ _)

theorem safetyGivesBack_worked (s : State) : Worked s (safetyGivesBack s) :=
  worked_ite (passOn_worked _ s) (enterLockout_worked s)

theorem yieldOutcome_worked (s : State) : Worked s (yieldOutcome s) := by
  unfold yieldOutcome
  dsimp only
  split
  · exact (placeAuthority_worked _ _ _ _ _ s).trans (giveTo_worked _ _ _)
  split
  · exact (placeAuthority_worked _ _ _ _ _ s).trans (toFree_worked _)
  · exact retain_worked s

theorem makeHandover_worked (d : Deferral) (s : State) : Worked s (makeHandover d s) := by
  unfold makeHandover
  split
  · split
    · exact worked_ite ((placeAuthority_worked _ _ _ _ _ s).trans (giveTo_worked _ _ _)) (endDeferral_worked s)
    · exact endDeferral_worked s
  · exact (placeAuthority_worked _ _ _ _ _ s).trans (passOn_worked _ _)
  · exact yieldOutcome_worked s
  · exact (placeAuthority_worked _ _ _ _ _ s).trans (passOn_worked _ _)
  · exact safetyGivesBack_worked s

theorem handOn_worked (d : Deferral) (s : State) : Worked s (handOn d s) :=
  worked_ite (setArb_worked _ s) (makeHandover_worked d s)

theorem handoverCheck_worked (s : State) : Worked s (handoverCheck s) := by
  unfold handoverCheck
  split
  · exact worked_ite (makeHandover_worked _ s) (.refl s)
  · exact .refl s

theorem groupEnded_worked (ending : Ending) (s : State) : Worked s (groupEnded ending s) := by
  have none := setGroup_worked none s
  unfold groupEnded
  dsimp only
  split
  · exact worked_ite none (none.trans (addReason_worked _ _))
  · exact none.trans (clearWindAlarm_worked _)
  · exact worked_ite (addReason_worked _ s) (.refl s)

theorem safetyBoundary_worked (ending : Ending) (s : State) : Worked s (safetyBoundary ending s) := by
  have ended := groupEnded_worked ending s
  unfold safetyBoundary
  dsimp only
  split
  · exact worked_ite (ended.trans (grantCrank_worked _ _ _ _ _))
      ((ended.trans (enterLockout_worked _)).trans (grantCrank_worked _ _ _ _ _))
  · exact worked_ite (ended.trans (handOn_worked _ _)) (ended.trans (enterLockout_worked _))
  · exact ended

theorem takeBoundary_worked (ending : Ending) (s : State) : Worked s (takeBoundary ending s) := by
  unfold takeBoundary
  split
  · exact toHeld_worked _ s
  · exact handOn_worked _ s
  · exact grantCrank_worked _ _ _ _ s
  · exact safetyBoundary_worked ending s
  · exact .refl s

/-! ### The queue -/

theorem startMove_worked (a : Axis) (target : Int) (rate : Rate) (s : State) : Worked s (startMove a target rate s) := by
  have directed := setDirection_worked a target s
  exact worked_ite (worked_ite (directed.trans (completeActive_worked _)) (directed.trans (settleAxis_worked _ _)))
    (driveAxis_worked _ _ _ s)

theorem startEntry_worked (e : Entry) (s : State) : Worked s (startEntry e s) := by
  unfold startEntry
  split
  · exact startMove_worked _ _ _ s
  · exact startMove_worked _ _ _ s
  · exact beginScan_worked _ _ s

theorem suspendOrAbandon_worked (s : State) : Worked s (suspendOrAbandon s) :=
  worked_ite ((suspendActive_worked s).trans (abandonForCrank_worked _)) (suspendActive_worked s)

theorem reportActivation_worked (s : State) : Worked s (reportActivation s) := worked_ite (setArb_worked _ s) (.refl s)

theorem activate_worked (s : State) : Worked s (activate s) := by
  rcases activate_cases s with same | ⟨e, rest, -, -, queue, begun⟩
  · rw [same]
    exact .refl s
  have active : Worked s (becomeActive e rest s) := by
    refine Worked.trans ?_ (reportActivation_worked _)
    exact setExe_worked _ s rfl (by simp [queue])
  rcases begun with ⟨why, -, failed⟩ | ⟨-, -, started⟩ | ⟨-, -, suspended⟩
  · rw [failed]
    exact active.trans (failActive_worked _ _ _)
  · rw [started]
    exact active.trans (startEntry_worked _ _)
  · rw [suspended]
    exact active.trans (suspendOrAbandon_worked _)

theorem restartActive_worked (seconds : Nat) (s : State) : Worked s (restartActive seconds s) := by
  unfold restartActive
  split
  · exact .refl s
  · next e _ =>
    dsimp only
    refine Worked.trans (Worked.trans ?_ (placeAll_worked _ _))
      (worked_ite (resumeScan_worked _) (startEntry_worked e _))
    exact setExe_worked _ s rfl (Nat.le_refl _)

theorem runQueue_worked (n : Nat) (s : State) : Worked s (runQueue n s) := by
  induction n generalizing s with
  | zero => exact .refl s
  | succ n ih =>
    rcases runQueue_cases n s with same | ⟨c, -, -, reported⟩
    · rw [same]
      exact .refl s
    · rw [reported]
      have made : Worked s (s.setExe { s.exe with closing := none }) := setExe_worked _ s rfl (Nat.le_refl _)
      exact worked_ite ((made.trans (activate_worked _)).trans (ih _)) (made.trans (takeBoundary_worked _ _))

theorem advance_worked (s : State) : Worked s (advance s) := runQueue_worked 24 s

theorem goAhead_worked (s : State) : Worked s (goAhead s) := (activate_worked s).trans (advance_worked _)

theorem entriesOf_length (group : Nat) (origin : Party) (tag : Nat) (ds : List Draft) :
    (entriesOf group origin tag ds).length = ds.length := by
  induction ds generalizing tag with
  | nil => rfl
  | cons d ds ih => simp [entriesOf, ih]

/-- A submission that fits in the room left (R51). -/
theorem append_worked (origin : Party) (ds : List Draft) (s : State) (room : fits ds.length s = true) :
    Worked s (append origin ds s) where
  reading := id
  estop := rfl
  alarm := id
  drives _ := Or.inl
  queue _ := by simpa [queueFits, append, entriesOf_length, fits] using room
  scan := id
  ports _ := .refl _

theorem haltByOrder_queue (why : EndReason) (s : State) : (haltByOrder why s).exe.queue = [] := rfl

/-- SAFETY takes authority with a group of at most 16 entries. -/
theorem takeSafety_worked (group : SafetyGroup) (ds : List Draft) (s : State) (few : ds.length ≤ 16) :
    Worked s (takeSafety group ds s) := by
  have halted := haltByOrder_worked .safety s
  have told := halted.trans (placeAuthority_worked s.arb.holder .lost (some .safety) (activeTag s) (waitingCount s) _)
  have cut := told.trans (groupCut_worked _)
  unfold takeSafety
  refine Worked.trans (Worked.trans ?_ (append_worked .safety ds _ ?_)) (goAhead_worked _)
  · exact (cut.trans (setArb_worked _ _)).trans (setGroup_worked _ _)
  · simpa [fits, haltByOrder_queue, Config.queueCapacity] using few

/-! ### The Safety Monitor -/

theorem stowAxes_length (position : Axes Int) : (stowAxes position).length ≤ 4 := (List.filter_sublist).length_le

theorem parkStowDrafts_length (position : Axes Int) : (parkStowDrafts position).length ≤ 16 := by
  rw [parkStowDrafts, List.length_map]
  exact Nat.le_trans (stowAxes_length position) (by decide)

theorem parkRuleAct_worked (position : Axes Int) (s : State) : Worked s (parkRuleAct position s) :=
  worked_ite (addReason_worked _ s)
    (worked_ite (takeSafety_worked _ _ s (parkStowDrafts_length position)) (addReason_worked _ s))

theorem parkRule_worked (position : Axes Int) (atCrankEnd : Bool) (s : State) : Worked s (parkRule position atCrankEnd s) := by
  refine Worked.trans (worked_ite (.refl s) (worked_ite (worked_ite (addReason_worked _ s) (.refl s))
    (parkRuleAct_worked position s))) (worked_ite (.refl _) (raiseParkAlarm_worked _))

theorem afterRemoval_worked (s : State) : Worked s (afterRemoval s) := by
  have freed := toFree_worked s
  exact worked_ite (worked_ite freed (freed.trans (parkRule_worked _ _ _))) (.refl s)

theorem leaveManual_worked (position : Axes Int) (s : State) : Worked s (leaveManual position s) := by
  have ruled := parkRule_worked position true s
  exact worked_ite (enterLockout_worked s)
    (worked_ite (worked_ite (ruled.trans (enterLockout_worked _)) ruled) (passOn_worked _ s))

theorem finishCrank_worked (position : Axes Int) (s : State) : Worked s (finishCrank position s) := by
  have unblocked : Worked s (unblockStow position (s.setArb { s.arb with crankEnd := none })) :=
    (setArb_worked _ s).trans (worked_ite (dropReason_worked _ _) (.refl _))
  exact (unblocked.trans (leaveManual_worked _ _)).trans (placeAll_worked _ _)

theorem crankCheck_worked (s : State) : Worked s (crankCheck s) := by
  unfold crankCheck
  split
  · exact worked_ite (finishCrank_worked _ s) (.refl s)
  · exact .refl s

theorem settleAll_worked (s : State) : Worked s (settleAll s) :=
  ((advance_worked s).trans (handoverCheck_worked _)).trans (crankCheck_worked _)

theorem manualDue_worked (s : State) : Worked s (manualDue s) :=
  ((discardWaiting_worked true s).trans (setArb_worked _ _)).trans (placeAuthority_worked _ _ _ _ _ _)

theorem takeManualRequest_worked (s : State) : Worked s (takeManualRequest s) := by
  unfold takeManualRequest
  split
  · exact grantCrank_worked _ _ _ _ s
  · exact grantCrank_worked _ _ _ _ s
  · exact grantCrank_worked _ _ _ _ s
  · exact setArb_worked _ s
  · exact .refl s
  · exact worked_ite (grantCrank_worked _ _ _ _ s)
      (worked_ite ((abandonForCrank_worked s).trans (advance_worked _)) (manualDue_worked s))

theorem withdrawManual_worked (s : State) : Worked s (withdrawManual s) :=
  ((setArb_worked _ s).trans (updateActive_worked _ _)).trans (placeAll_worked _ _)

/-! ### The work behind the events -/

theorem followActive_worked (s : State) : Worked s (followActive s) := by
  unfold followActive
  split
  · split
    · exact .refl s
    split
    · exact Worked.trans (followAxis_worked _ _ _ s) (worked_ite (completeActive_worked _) (.refl _))
    · unfold followScan
      split
      · exact .refl s
      · exact .refl s
      · exact Worked.trans ((followAxis_worked _ _ _ s).trans (followAxis_worked _ _ _ _))
          (worked_ite (arriveScan_worked _) (.refl _))
    · exact .refl s
  · exact .refl s

/-- The active entry fails, and what follows is taken at once. -/
theorem failed_worked (why : EndReason) (s : State) : Worked s (advance (failActive why true s)) :=
  (failActive_worked why true s).trans (advance_worked _)

theorem sampled_worked (level : Int) (s : State) : Worked s (advance (takeSample level s)) :=
  (takeSample_worked level s).trans (advance_worked _)

theorem stallWindow_worked (a : Axis) (s : State) : Worked s (stallWindow a s) := by
  unfold stallWindow
  split
  · exact worked_ite (failed_worked _ s) (setPhase_worked _ _ s)
  · exact .refl s

theorem settlingTimeout_worked (a : Axis) (s : State) : Worked s (settlingTimeout a s) := by
  unfold settlingTimeout
  split
  · exact worked_ite (.refl s) (failed_worked _ s)
  · exact .refl s

theorem failOnAxis_worked (a : Axis) (s : State) : Worked s (failOnAxis a s) := by
  unfold failOnAxis
  split
  · exact worked_ite (failActive_worked _ _ s) (.refl s)
  · exact .refl s

theorem takeFault_worked (a : Axis) (s : State) : Worked s (takeFault a s) := by
  refine worked_ite (.refl s) (Worked.trans (Worked.trans ?_ (failOnAxis_worked a _)) (settleAll_worked _))
  exact (setPose_worked _ s id).trans (setPose_worked _ _ id)

theorem obstruction_worked (s : State) : Worked s (failRaising (setLatch s)) := by
  have latched : Worked s (setLatch s) :=
    worked_ite (.refl s) (Worked.trans (t := s.setPose { s.pose with latch := true }) (setPose_worked _ s id)
      (placeCondition_worked _ _))
  exact latched.trans (worked_ite (failed_worked _ _) (.refl _))

theorem endDwell_worked (millivolts : Int) (s : State) : Worked s (endDwell millivolts s) := by
  have waits : Worked s (updateScan (fun x => { x with phase := .levelWait }) s) := updateScan_worked _ s (fun _ => rfl)
  unfold endDwell
  split
  · exact sampled_worked _ s
  · exact worked_ite (sampled_worked _ s) waits
  · exact waits
  · exact .refl s

theorem expireLevelWait_worked (s : State) : Worked s (expireLevelWait s) := by
  unfold expireLevelWait
  split
  · exact failed_worked _ s
  · exact .refl s

theorem keepReport_worked (level : Int) (s : State) : Worked s (keepReport level s) := setScan_worked _ s id

theorem sampleReport_worked (level : Int) (s : State) : Worked s (sampleReport level s) := by
  unfold sampleReport
  split
  · exact sampled_worked _ s
  · exact .refl s

theorem expireIdle_worked (s : State) : Worked s (expireIdle s) := by
  unfold expireIdle
  split
  · exact worked_ite (.refl s) (handOn_worked _ s)
  · exact .refl s

theorem setPark_worked (asserted : Bool) (s : State) : Worked s (setPark asserted s) := setSafe_worked _ s rfl rfl rfl rfl

theorem takeParkNegation_worked (s : State) : Worked s (takeParkNegation s) := by
  have unknown : Worked s ((setPark false s).setHeading none) := (setPark_worked false s).trans (.of_same rfl rfl rfl rfl rfl)
  exact (unknown.trans (flushCache_worked _ _ _)).trans (parkRule_worked _ _ _)

theorem takeParkAssertion_worked (s : State) : Worked s (takeParkAssertion s) := by
  have dropped : Worked s (dropParkReasons (setPark true s)) :=
    (setPark_worked true s).trans (worked_ite (.refl _) ((setArb_worked _ _).trans (placeCondition_worked _ _)))
  exact (dropped.trans (afterRemoval_worked _)).trans (clearParkAlarm_worked _)

theorem offerLowering_worked (s : State) : Worked s (offerLowering s) := by
  unfold offerLowering
  split
  · exact raiseWindAlarm_worked s
  · exact raiseWindAlarm_worked s
  · exact .refl s
  · exact worked_ite (raiseWindAlarm_worked s) (takeSafety_worked _ _ s (by decide))

theorem windChanged_worked (previous : WindClass) (s : State) : Worked s (windChanged previous s) := by
  have told := placeAll_worked (.wind s.safe.windClass previous s.safe.speed (windCeiling s) s.pose.position.mast) s
  exact worked_ite (worked_ite (told.trans (offerLowering_worked _)) told)
    (worked_ite (told.trans (clearWindAlarm_worked _)) told)

theorem sampleWind_worked (s : State) : Worked s (sampleWind s) := by
  refine worked_ite ?_ (Worked.trans ?_ (windChanged_worked _ _))
  · exact setSafe_worked _ s rfl rfl rfl rfl
  · exact setSafe_worked _ s rfl rfl rfl rfl

theorem setSupply_worked (asserted : Bool) (supply : Supply) (settle : Bool) (s : State) :
    Worked s (setSupply asserted supply settle s) := by
  refine Worked.trans ?_ (setExe_worked _ _ rfl (Nat.le_refl _))
  exact setSafe_worked _ s rfl rfl rfl rfl

theorem takeSupplyLoss_worked (s : State) : Worked s (takeSupplyLoss s) := by
  have lost := setSupply_worked false .absent false s
  exact worked_ite ((lost.trans (suspendOrAbandon_worked _)).trans (advance_worked _)) lost

theorem takeSupplyReturn_worked (s : State) : Worked s (takeSupplyReturn s) :=
  worked_ite (setSupply_worked _ _ _ s) (setSupply_worked _ _ _ s)

theorem expireSettle_worked (suspended : Nat) (s : State) : Worked s (expireSettle suspended s) := by
  have settled : Worked s (s.setExe { s.exe with supply := .available, settle := false }) := setExe_worked _ s rfl (Nat.le_refl _)
  exact worked_ite (worked_ite ((settled.trans (restartActive_worked _ _)).trans (advance_worked _)) settled) (.refl s)

theorem expireSuspension_worked (s : State) : Worked s (expireSuspension s) := worked_ite (failed_worked _ s) (.refl s)

theorem setManualReq_worked (asserted : Bool) (s : State) : Worked s (setManualReq asserted s) :=
  setSafe_worked _ s rfl rfl rfl rfl

theorem endCrank_worked (reading : Reading) (s : State) : Worked s (endCrank reading s) := by
  refine Worked.trans (Worked.trans (Worked.trans ?_ (takeReading_worked reading _)) (setArb_worked _ _)) (settleAll_worked _)
  exact setArb_worked _ s

theorem takeManualEnd_worked (reading : Reading) (s : State) : Worked s (takeManualEnd reading s) := by
  unfold takeManualEnd
  split
  · exact endCrank_worked reading s
  · exact withdrawManual_worked s
  · exact .refl s

end Sys2Proof.Machine
end

section
/-! Every command keeps the outputs following the state (R4, R19, R79, R100, R101), and the capacities (R46, R154, R159, R161). -/

namespace Sys2Proof.Machine

variable {s t u : State}

/-! ### Events and requests -/

/-- The blocks have worked on an event: the settings stand. -/
structure Served (s t : State) : Prop where
  worked : Worked s t
  settings : t.settings = s.settings

theorem Served.refl (s : State) : Served s s := ⟨.refl s, rfl⟩

/-- A request has been answered in the course of the blocks' work. -/
def Answers (p : Port) (r : Request) (s t : State) : Prop :=
  ∃ u status parts, Served s u ∧ Served (respondParts p r status parts u) t

theorem Answers.answered {p : Port} {r : Request} {status : Status} {fields : List Byte} (h : Served s u) :
    Answers p r s (respond p r status fields u) := ⟨u, status, [fields], h, .refl _⟩

theorem Answers.then_works {p : Port} {r : Request} {status : Status} {fields : List Byte} (h : Served s u)
    (g : Served (respond p r status fields u) t) : Answers p r s t := ⟨u, status, [fields], h, g⟩

theorem answers_ite {p : Port} {r : Request} {c : Prop} [Decidable c] (ht : Answers p r s t) (hu : Answers p r s u) :
    Answers p r s (if c then t else u) :=
  ite_keeps ht hu

/-- A command whose blocks change no more than they do in their work: no start, no bytes of a port, no settings and no ESTOP. -/
def isRoutine : Instr → Bool
  | .powerApplied _ | .reset _ | .restart _ _ | .powerLoss _ => false
  | .byteReceived _ _ | .frameReceived _ _ | .frameByteTimeout _ | .takeFrame _ | .readyChange _ _ | .transmitBegin _
  | .frameSent _ => false
  | .configure _ _ _ | .revert _ | .settingsWriteEnd => false
  | .estopAsserted | .estopNegated => false
  | _ => true

/-- What a routine command does: its event is served, or its request is taken and answered. -/
def Routine (s t : State) : Prop := Served s t ∨ ∃ p r, takes p r s ∧ Answers p r s t

theorem Routine.event {f : State → State} (h : Served s (f s)) : Routine s (whenPowered f s) :=
  Or.inl (whenPowered_keeps (.refl s) h)

theorem Routine.request {p : Port} {r : Request} {f : State → State} (h : Answers p r s (f s)) :
    Routine s (onRequest p r f s) := by
  by_cases taken : takes p r s
  · rw [onRequest_takes f taken]
    exact Or.inr ⟨p, r, taken, h⟩
  · rw [onRequest_idle f taken]
    exact Or.inl (.refl s)

theorem asHolder_answers {p : Port} {r : Request} {submits : Bool} {f : State → State} (h : Answers p r s (f s)) :
    Answers p r s (asHolder p r submits f s) :=
  asHolder_keeps (fun _ => .answered (.refl s)) h

/-! ### The requests -/

theorem served_arb (x : Arbiter) (s : State) : Served s (s.setArb x) := ⟨setArb_worked x s, rfl⟩

theorem claimAuthority_answers (p : Port) (s : State) : Answers p .claim s (claimAuthority p s) := by
  have joined : Served s (joinClaim p s) := served_arb _ s
  have against : ∀ g, Answers p .claim s (claimAgainst p g s) := by
    intro g
    unfold claimAgainst
    refine answers_ite (.answered (.refl s)) (ite_keeps (P := Answers p .claim s) ?_ (.answered joined))
    split
    · unfold preempt
      refine answers_ite (.answered joined) (answers_ite (.answered ⟨?_, by simp⟩) (.answered ⟨?_, rfl⟩))
      · exact (placeAuthority_worked _ _ _ _ _ s).trans (toHeld_worked p _)
      · exact joined.worked.trans (setArb_worked _ _)
    · refine .answered ⟨Worked.trans ?_ (placeAuthority_worked _ _ _ _ _ _), by simp⟩
      exact (joined.worked.trans (discardWaiting_worked _ _)).trans (setArb_worked _ _)
    · exact .answered joined
  unfold claimAuthority
  split
  · exact .answered (.refl s)
  · exact .answered (.refl s)
  · exact against _
  · exact .answered ⟨toHeld_worked p s, by simp⟩

theorem releaseAuthority_answers (p : Port) (s : State) : Answers p .release s (releaseAuthority p s) := by
  have marked : Served s (markRelease s) := served_arb _ s
  refine answers_ite ?_ (.answered (.refl s))
  unfold releaseFrom
  split
  · exact answers_ite (.answered ⟨marked.worked.trans (setArb_worked _ _), rfl⟩) (.answered ⟨passOn_worked _ s, by simp⟩)
  · exact .answered ⟨(discardWaiting_worked _ s).trans (setArb_worked _ _), by simp⟩
  · exact .answered marked
  · exact .answered marked

theorem clearLockout_answers (p : Port) (s : State) : Answers p .clearLockout s (clearLockout p s) := by
  have estop : Worked s (clearEstop s) := worked_ite (.refl s) (dropReason_worked _ s)
  have cleared : Served s (clearStowFailed (clearEstop s)) :=
    ⟨estop.trans (worked_ite (.refl _) (dropReason_worked _ _)), by simp⟩
  unfold clearLockout
  refine answers_ite (.answered (.refl s)) (answers_ite (.answered cleared) (answers_ite (.answered cleared) ?_))
  exact .then_works cleared ⟨afterRemoval_worked _, by simp⟩

theorem submission_answers {p : Port} {r : Request} (h : Served s u) (sub : Submission p r u t) : Answers p r s t := by
  rcases sub with ⟨status, fields, rfl⟩ | ⟨ds, status, fields, room, rfl⟩
  · exact .answered h
  · refine .then_works (u := append (.port p) ds u) ⟨h.worked.trans (append_worked _ _ _ room), ?_⟩ ⟨goAhead_worked _, by simp [submit]⟩
    simp [h.settings]

theorem aim_answers (p : Port) (slot : Nat) (heading : Option Int) (flag : Byte) (s : State) :
    Answers p (.aim slot heading flag) s (aim p slot heading flag s) := by
  obtain ⟨v, c, sub⟩ := aim_submission p slot heading flag s
  exact submission_answers (u := (s.setHeading v).setCache c) ⟨.of_same rfl rfl rfl rfl rfl, rfl⟩ sub

theorem halt_answers (p : Port) (s : State) : Answers p .halt s (haltMotion p s) :=
  .then_works ⟨haltByHolder_worked s, by simp⟩ ⟨advance_worked _, by simp [haltMotion]⟩

theorem clearAxis_answers (p : Port) (axis : Byte) (s : State) : Answers p (.clearAxis axis) s (clearAxis p axis s) := by
  unfold clearAxis
  split
  · exact .answered (.refl s)
  · exact answers_ite (.answered (.refl s)) (.answered ⟨setPose_worked _ s id, rfl⟩)

theorem served_store (x : Store) (s : State) : Served s (s.setStore x) := ⟨.of_same rfl rfl rfl rfl rfl, rfl⟩

theorem answerBusy_answers (p : Port) (r : Request) (s : State) : Answers p r s (answerBusy p r s) := .answered (.refl s)

theorem readSite_answers (p : Port) (slot : Nat) (s : State) : Answers p (.readSite slot) s (readSite p slot s) :=
  answers_ite (.answered (.refl s)) (answers_ite (answerBusy_answers p _ s) (.answered (.refl s)))

theorem stageSite_answers (p : Port) (slot : Nat) (fields : SiteFields) (s : State) :
    Answers p (.stageSite slot fields) s (stageSite p slot fields s) := by
  unfold stageSite
  refine answers_ite (.answered (.refl s)) (answers_ite (answerBusy_answers p _ s) ?_)
  split
  · exact .answered (.refl s)
  · exact .answered (served_store _ s)

theorem commitSite_answers (p : Port) (slot : Nat) (check : Check) (s : State) :
    Answers p (.commitSite slot check) s (commitSite p slot check s) := by
  unfold commitSite
  refine answers_ite (.answered (.refl s)) (answers_ite (answerBusy_answers p _ s) ?_)
  split
  · exact .answered (.refl s)
  refine answers_ite (.answered (.refl s)) (answers_ite (.answered (.refl s)) ?_)
  exact answers_ite (answerBusy_answers p _ s) (answers_ite (.answered (.refl s)) (.answered (served_store _ s)))

theorem retireSite_answers (p : Port) (slot : Nat) (redirection : Option Nat) (s : State) :
    Answers p (.retireSite slot redirection) s (retireSite p slot redirection s) := by
  have begun : ∀ site, Served s (beginRetire p slot redirection site s) := fun site =>
    ⟨(removeEntry_worked slot .retire none s).trans (served_store _ _).worked, by simp [beginRetire]⟩
  unfold retireSite
  refine answers_ite (.answered (.refl s)) (answers_ite (answerBusy_answers p _ s) ?_)
  unfold retireSlot
  refine answers_ite (answerBusy_answers p _ s) ?_
  split
  · exact .answered (.refl s)
  split
  · exact .answered (.refl s)
  · exact .answered (begun _)

theorem eraseTable_answers (p : Port) (s : State) : Answers p .eraseTable s (eraseTable p s) := by
  refine answers_ite (.answered (.refl s)) (answers_ite (answerBusy_answers p _ s) (.answered ⟨?_, by simp⟩))
  exact (served_store _ s).worked.trans (flushCache_worked _ _ _)

theorem invalidateSite_answers (p : Port) (slot : Nat) (s : State) :
    Answers p (.invalidateSite slot) s (invalidateSite p slot s) :=
  answers_ite (.answered (.refl s)) (answers_ite (.answered (.refl s)) (.answered ⟨removeEntry_worked _ _ _ s, by simp⟩))

theorem levelReport_answers (p : Port) (level : Int) (s : State) : Answers p (.levelReport level) s (levelReport p level s) := by
  refine answers_ite (.answered (.refl s)) (answers_ite (.answered (.refl s)) ?_)
  exact .then_works ⟨keepReport_worked level s, rfl⟩ ⟨sampleReport_worked level _, by simp⟩

theorem noticeKinds_sublist {l m : List OutItem} (h : l.Sublist m) : (noticeKinds l).Sublist (noticeKinds m) := by
  induction h with
  | slnil => exact .slnil
  | cons i _ ih =>
    cases i with
    | response r => exact ih
    | notice body merged => exact ih.cons _
  | cons_cons i _ ih =>
    cases i with
    | response r => exact ih
    | notice body merged => exact ih.cons_cons _

theorem setNotices_answers (p : Port) (mask : BitVec 16) (s : State) : Answers p (.setNotices mask) s (setNotices p mask s) := by
  refine .answered ⟨⟨id, rfl, id, fun _ => Or.inl, id, id, fun q => ?_⟩, rfl⟩
  simp only [updatePort, State.setPorts_ports, Ports.get_set]
  split
  · next same =>
    rw [same]
    refine ⟨?_, ?_, rfl, rfl⟩
    · rw [responses, List.filter_filter]
      refine List.filter_congr (fun i _ => ?_)
      cases i <;> simp [keptUnder, OutItem.isResponse]
    · exact List.Nodup.sublist (noticeKinds_sublist (List.filter_sublist))
  · exact .refl _

/-! ### The routine commands -/

theorem placeWritten_worked (writer : Port) (body : NoticeBody) (s : State) : Worked s (placeWritten writer body s) := by
  have placed : ∀ p u, Worked u (if p = writer then placeAlways p body u else placeOn p body u) := fun p u =>
    worked_ite (placeAlways_worked p body u) (placeOn_worked p body u)
  exact ((placed .cab s).trans (placed .rack _)).trans (placed .link _)

theorem endSlotWrite_worked (back : ReadBack) (s : State) : Worked s (endSlotWrite back s) := by
  unfold endSlotWrite
  split
  · exact .refl s
  · exact (served_store _ s).worked.trans (placeWritten_worked _ _ _)

theorem endErase_worked (s : State) : Worked s (endErase s) := by
  unfold endErase
  split
  · exact (served_store _ s).worked.trans (placeAll_worked _ _)
  · exact .refl s

theorem poseReading_worked (r : Reading) (s : State) : Worked s (settleAll (followActive (takeReading r s))) :=
  ((takeReading_worked r s).trans (followActive_worked _)).trans (settleAll_worked _)

theorem faultRestless_worked (axes : Axes Bool) (s : State) : Worked s (faultRestless axes s) := setPose_worked _ s id

theorem recordLevel_worked (sample : Level) (s : State) : Worked s (recordLevel sample s) := setPose_worked _ s id

/-- A line already as the event finds it is no event (R88). -/
theorem Routine.line {c : Prop} [Decidable c] {f : State → State} (h : Served s (f s)) :
    Routine s (whenPowered (fun s => if c then s else f s) s) :=
  .event (ite_keeps (P := Served s) (.refl s) h)

theorem exec_routine (c : Instr) (routine : isRoutine c = true) (step : exec c s = .next t) : Routine s t := by
  cases c <;> cases step
  case powerApplied | reset | restart | powerLoss | byteReceived | frameReceived | frameByteTimeout | takeFrame | readyChange
    | transmitBegin | frameSent | configure | revert | settingsWriteEnd | estopAsserted | estopNegated => cases routine
  case claim => exact .request (claimAuthority_answers _ s)
  case withdraw => exact .request (answers_ite (.answered (served_arb _ s)) (.answered (.refl s)))
  case release => exact .request (releaseAuthority_answers _ s)
  case queueMoves => exact .request (asHolder_answers (submission_answers (.refl s) (queueMoves_submission _ _ _ s)))
  case aim => exact .request (asHolder_answers (aim_answers _ _ _ _ s))
  case stow => exact .request (asHolder_answers (submission_answers (.refl s) (stow_submission _ s)))
  case peak => exact .request (asHolder_answers (submission_answers (.refl s) (peak_submission _ _ s)))
  case halt => exact .request (asHolder_answers (halt_answers _ s))
  case clearAxis => exact .request (asHolder_answers (clearAxis_answers _ _ s))
  case setHeading =>
    exact .request (answers_ite (.answered ⟨.of_same rfl rfl rfl rfl rfl, rfl⟩) (.answered (.refl s)))
  case readSite => exact .request (readSite_answers _ _ s)
  case stageSite => exact .request (stageSite_answers _ _ _ s)
  case commitSite => exact .request (commitSite_answers _ _ _ s)
  case retireSite => exact .request (retireSite_answers _ _ _ s)
  case eraseTable => exact .request (eraseTable_answers _ s)
  case invalidateSite => exact .request (invalidateSite_answers _ _ s)
  case flushCache => exact .request (.answered ⟨flushCache_worked _ _ s, by simp⟩)
  case readCache => exact .request ⟨s, _, _, .refl s, .refl _⟩
  case levelReport => exact .request (levelReport_answers _ _ s)
  case status | identify | scanResult => exact .request (.answered (.refl s))
  case clearLatches => exact .request (answers_ite (.answered ⟨setPose_worked _ s id, rfl⟩) (.answered (.refl s)))
  case clearLockout => exact .request (clearLockout_answers _ s)
  case setNotices => exact .request (setNotices_answers _ _ s)
  case slotWriteEnd => exact .event ⟨endSlotWrite_worked _ s, by simp⟩
  case eraseEnd => exact .event ⟨endErase_worked s, by simp⟩
  case parkNegated => exact .event (ite_keeps (P := Served s) ⟨takeParkNegation_worked s, by simp⟩ (.refl s))
  case parkAsserted => exact .line ⟨takeParkAssertion_worked s, by simp⟩
  case supplyOkNegated => exact .event (ite_keeps (P := Served s) ⟨takeSupplyLoss_worked s, by simp⟩ (.refl s))
  case supplyOkAsserted => exact .line ⟨takeSupplyReturn_worked s, by simp⟩
  case settleTimerExpiry => exact .event ⟨expireSettle_worked _ s, by simp⟩
  case suspensionLimitExpiry => exact .event ⟨expireSuspension_worked s, by simp⟩
  case manualReqAsserted =>
    exact .line (f := fun s => takeManualRequest (setManualReq true s))
      ⟨(setManualReq_worked true s).trans (takeManualRequest_worked _), by simp⟩
  case manualReqNegated =>
    exact .event (ite_keeps (P := Served s)
      ⟨(setManualReq_worked false s).trans (takeManualEnd_worked _ _), by simp⟩ (.refl s))
  case faultLineAsserted => exact .event ⟨takeFault_worked _ s, by simp⟩
  case faultLineNegated => exact .event ⟨setPose_worked _ s id, rfl⟩
  case obstructionEdge => exact .event ⟨obstruction_worked s, by simp⟩
  case poseReading => exact .event ⟨poseReading_worked _ s, by simp⟩
  case stallWindowExpiry => exact .event ⟨stallWindow_worked _ s, by simp⟩
  case settlingTimeout => exact .event ⟨settlingTimeout_worked _ s, by simp⟩
  case restWatchExpiry =>
    refine .event ?_
    split
    · next c _ => exact ⟨Worked.trans (faultRestless_worked c.axes s) (settleAll_worked _), by simp⟩
    · exact .refl s
  case idleTimerExpiry => exact .event ⟨expireIdle_worked s, by simp⟩
  case inclinometerSample =>
    exact .event ⟨Worked.trans (recordLevel_worked _ s) (compareLevel_worked _), by simp⟩
  case anemometerPulse => exact .event ⟨setSafe_worked _ s rfl rfl rfl rfl, rfl⟩
  case windSample => exact .event ⟨sampleWind_worked s, by simp⟩
  case dwellEnd => exact .event ⟨endDwell_worked _ s, by simp⟩
  case levelWaitExpiry => exact .event ⟨expireLevelWait_worked s, by simp⟩
  case resetNegated => exact .event ⟨setSafe_worked _ s rfl rfl rfl rfl, rfl⟩

/-! ### The outputs -/

/-- The outputs that follow the pose, the causes and the ESTOP line (R4, R19, R100, R101). -/
def linesFollow (s : State) : Prop := readingFollows s ∧ alarmFollows s ∧ stopHolds s

theorem stopHolds_iff : stopHolds s ↔ (s.safe.estop = true → ∀ a, (s.exe.drives.get a).enable = false) := by
  constructor
  · rintro h asserted a
    obtain ⟨mast, pan, tilt, pol⟩ := h asserted
    cases a <;> assumption
  · intro h asserted
    exact ⟨h asserted .mast, h asserted .pan, h asserted .tilt, h asserted .pol⟩

theorem linesFollow_of_worked (h : linesFollow s) (worked : Worked s t) : linesFollow t := by
  obtain ⟨reading, alarm, stop⟩ := h
  refine ⟨worked.reading reading, worked.alarm alarm, stopHolds_iff.mpr fun asserted a => ?_⟩
  rw [worked.estop] at asserted
  refine Bool.eq_false_iff.mpr fun enabled => ?_
  rcases worked.drives a enabled with before | negated
  · rw [stopHolds_iff.mp stop asserted a] at before
    cases before
  · rw [asserted] at negated
    cases negated

theorem linesFollow_of_same (h : linesFollow s) (exe : t.exe = s.exe) (safe : t.safe = s.safe) (pose : t.pose = s.pose) :
    linesFollow t := by
  simpa only [linesFollow, readingFollows, poseFollows, lampFollows, alarmFollows, stopHolds, exe, safe, pose] using h

theorem linesFollow_of_answers {p : Port} {r : Request} (h : linesFollow s) (answers : Answers p r s t) : linesFollow t := by
  obtain ⟨u, status, parts, before, later⟩ := answers
  refine linesFollow_of_worked (linesFollow_of_same (linesFollow_of_worked h before.worked) ?_ ?_ ?_) later.worked
  all_goals simp

theorem linesFollow_of_routine (h : linesFollow s) (routine : Routine s t) : linesFollow t := by
  rcases routine with served | ⟨p, r, -, answers⟩
  · exact linesFollow_of_worked h served.worked
  · exact linesFollow_of_answers h answers

theorem takeEstop_linesFollow (h : linesFollow s) : linesFollow (takeEstop s) := by
  obtain ⟨reading, alarm, -⟩ := h
  have stopped : linesFollow (stopAxes (Axes.all true) (setEstop true s)) := by
    refine ⟨reading, alarm, stopHolds_iff.mpr fun _ a => ?_⟩
    rw [stopAxes_drive]
    cases a <;> rfl
  exact linesFollow_of_worked stopped (addReason_worked _ _)

theorem setEstop_linesFollow (h : linesFollow s) : linesFollow (setEstop false s) := by
  obtain ⟨reading, alarm, -⟩ := h
  exact ⟨reading, alarm, nofun⟩

theorem compareLevel_linesFollow (h : linesFollow s) : linesFollow (compareLevel s) :=
  linesFollow_of_worked h (compareLevel_worked s)

/-- The lines read at the end of a start (R168). -/
theorem endOfStart_linesFollow (cause : StartCause) (negatedDuring : Bool) (i : StartInputs) (h : linesFollow s) :
    linesFollow (endOfStart cause negatedDuring i s) := by
  have reset : Worked s (setResetLine i.resetLine s) := setSafe_worked _ s rfl rfl rfl rfl
  have faults : ∀ u, Worked u (foundFaults i.faultLine u) := fun u => setPose_worked _ u id
  have supplied : linesFollow (foundSupply i.supplyOk (foundFaults i.faultLine (setResetLine i.resetLine s))) :=
    linesFollow_of_worked h ((reset.trans (faults _)).trans (setSupply_worked _ _ _ _))
  have kept : ∀ u, linesFollow u → linesFollow (keptLockout (noteDefaulted (announce cause i.ready u))) := fun u hu =>
    linesFollow_of_same hu (by simp) (by simp) (by simp)
  have estop : ∀ u, linesFollow u → linesFollow (foundEstop i.estop u) := fun u hu =>
    ite_keeps (takeEstop_linesFollow hu) (setEstop_linesFollow hu)
  have park : ∀ u, linesFollow u → linesFollow (foundPark i.park negatedDuring u) := fun u hu => by
    refine linesFollow_of_worked hu (worked_ite ?_ (takeParkNegation_worked u))
    exact worked_ite ((setPark_worked true u).trans (flushCache_worked _ _ _)) (setPark_worked true u)
  have wind : ∀ u, linesFollow u → linesFollow (foundWind u) := fun u hu =>
    linesFollow_of_worked hu (worked_ite (raiseWindAlarm_worked u) (.refl u))
  have manual : ∀ u, linesFollow u → linesFollow (foundManual i.manualReq u) := fun u hu =>
    linesFollow_of_worked hu
      (worked_ite ((setManualReq_worked true u).trans (takeManualRequest_worked _)) (setManualReq_worked false u))
  exact manual _ (wind _ (park _ (estop _ (kept _ supplied))))

theorem coldStart_linesFollow (i : StartInputs) (s : State) : linesFollow (coldStart i s) :=
  endOfStart_linesFollow _ _ _ ⟨⟨rfl, rfl⟩, rfl, nofun⟩

theorem warmStart_linesFollow (cause : StartCause) (i : StartInputs) (s : State) : linesFollow (warmStart cause i s) := by
  refine endOfStart_linesFollow _ _ _ ⟨⟨rfl, rfl⟩, rfl, stopHolds_iff.mpr fun _ a => ?_⟩
  cases a <;> rfl

theorem exec_linesFollow (c : Instr) (h : linesFollow s) (step : exec c s = .next t) : linesFollow t := by
  have same : ∀ {u : State}, u.exe = s.exe → u.safe = s.safe → u.pose = s.pose → linesFollow u := linesFollow_of_same h
  have routinely : isRoutine c = true → linesFollow t := fun routine => linesFollow_of_routine h (exec_routine c routine step)
  cases c <;> cases step
  case powerApplied i => exact coldStart_linesFollow i s
  case reset i => exact whenPowered_keeps h (ite_keeps h (warmStart_linesFollow _ i s))
  case restart p i => exact onRequest_keeps h (ite_keeps (warmStart_linesFollow _ i s) (same (by simp) (by simp) (by simp)))
  case powerLoss l => exact whenPowered_keeps h ⟨⟨rfl, rfl⟩, rfl, nofun⟩
  case estopAsserted => exact whenPowered_keeps h (ite_keeps h (takeEstop_linesFollow h))
  case estopNegated => exact whenPowered_keeps h (setEstop_linesFollow h)
  case byteReceived | frameReceived | frameByteTimeout | takeFrame | readyChange | transmitBegin | frameSent
    | settingsWriteEnd => exact whenPowered_keeps h (same (by simp) (by simp) (by simp))
  case configure | revert => exact onRequest_keeps h (same (by simp) (by simp) (by simp))
  all_goals exact routinely rfl

/-- Settles O55: the lines through the blocks' work, the grant through the authority states. -/
theorem outputsFollowIsKept : Obligations.OutputsFollowIsKept := by
  rintro c s t ⟨pose, lamp, alarm, stop, grant⟩ step
  obtain ⟨⟨pose, lamp⟩, alarm, stop⟩ := exec_linesFollow c ⟨⟨pose, lamp⟩, alarm, stop⟩ step
  exact ⟨pose, lamp, alarm, stop, exec_grantFollows c grant step⟩

end Sys2Proof.Machine
end

section
/-! Every command keeps the capacities of the queue, of the scan and of the ports (R46, R154, R159, R161). -/

namespace Sys2Proof.Machine

variable {s t u : State}

/-- A port may be answered: no response is listed, and on RACK no settings write is in flight (R159, R170). -/
def Answerable (p : Port) (s : State) : Prop :=
  responses (s.ports.get p).output = [] ∧ (p = .rack → s.settings.writing = none)

theorem responses_of_mayTake {q : PortState} (h : q.mayTake = true) : responses q.output = [] ∧ q.inHand = .nothing := by
  simp only [PortState.mayTake, Bool.and_eq_true, beq_iff_eq, List.all_eq_true, Bool.not_eq_true'] at h
  obtain ⟨⟨idle, listed⟩, -⟩ := h
  refine ⟨List.filter_eq_nil_iff.mpr fun i member => ?_, idle⟩
  simp [listed i member]

theorem answerable_of_takes {p : Port} {r : Request} (fit : portsFit s) (taken : takes p r s) : Answerable p s := by
  obtain ⟨fits, working⟩ := fit
  obtain ⟨⟨-, awaits⟩, -⟩ := fits p
  obtain ⟨-, passed | ⟨free, -⟩⟩ := taken
  · refine ⟨awaits (by rw [passed]; nofun), ?_⟩
    rintro rfl
    refine Classical.byContradiction fun writing => ?_
    have busy := working (Option.isSome_iff_ne_none.mpr writing)
    change s.ports.rack.inHand = _ at passed
    rw [busy] at passed
    cases passed
  · obtain ⟨none, idle⟩ := responses_of_mayTake free
    refine ⟨none, ?_⟩
    rintro rfl
    refine Classical.byContradiction fun writing => ?_
    have busy := working (Option.isSome_iff_ne_none.mpr writing)
    change s.ports.rack.inHand = _ at idle
    rw [busy] at idle
    cases idle

/-- The capacities of the queue, the scan and the ports. -/
def capacitiesFit (s : State) : Prop := queueFits s ∧ scanFits s ∧ portsFit s

theorem portFits_of_worked {q v : PortState} (fit : portFits q) (worked : PortWorked q v) : portFits v := by
  obtain ⟨⟨one, awaits⟩, kinds, few⟩ := fit
  refine ⟨⟨?_, ?_⟩, worked.kinds kinds, ?_⟩
  · rw [worked.responses]
    exact one
  · rw [worked.responses, worked.inHand]
    exact awaits
  · rw [worked.receive]
    exact few

theorem capacitiesFit_of_served (h : capacitiesFit s) (served : Served s t) : capacitiesFit t := by
  obtain ⟨queue, scan, ports, working⟩ := h
  obtain ⟨worked, settings⟩ := served
  refine ⟨worked.queue queue, worked.scan scan, fun p => portFits_of_worked (ports p) (worked.ports p), ?_⟩
  rw [settings]
  intro writing
  exact (worked.ports .rack).inHand.trans (working writing)

theorem answerable_of_served {p : Port} (h : Answerable p s) (served : Served s t) : Answerable p t := by
  obtain ⟨none, idle⟩ := h
  obtain ⟨worked, settings⟩ := served
  exact ⟨(worked.ports p).responses.trans none, by rw [settings]; exact idle⟩

theorem responses_append (l m : List OutItem) : responses (l ++ m) = responses l ++ responses m := List.filter_append ..

theorem noticeKinds_append_response (l : List OutItem) (r : Response) : noticeKinds (l ++ [.response r]) = noticeKinds l := by
  induction l with
  | nil => rfl
  | cons i rest ih => cases i <;> simp [noticeKinds, ih]

/-- A port that lists no response takes one, and its request is answered (R160). -/
theorem portFits_answered {q : PortState} (fit : portFits q) (none : responses q.output = []) (r : Response) :
    portFits { q with inHand := .nothing, output := q.output ++ [.response r] } := by
  obtain ⟨-, kinds, few⟩ := fit
  refine ⟨⟨?_, fun busy => absurd rfl busy⟩, ?_, few⟩
  · rw [responses_append, none]
    exact Nat.le_refl _
  · rw [noticeKinds_append_response]
    exact kinds

theorem respondParts_ports (p : Port) (r : Request) (status : Status) (parts : List (List Byte)) (s : State) :
    (respondParts p r status parts s).ports =
      s.ports.set p
        { s.ports.get p with
          inHand := .nothing
          output := (s.ports.get p).output
            ++ [.response { code := requestCode r + 0x80, status := status, parts := parts }] } := by
  unfold respondParts restartIdle
  split <;> rfl

theorem respondParts_capacitiesFit {p : Port} {r : Request} {status : Status} {parts : List (List Byte)}
    (h : capacitiesFit s) (free : Answerable p s) : capacitiesFit (respondParts p r status parts s) := by
  obtain ⟨queue, scan, ports, working⟩ := h
  obtain ⟨none, idle⟩ := free
  refine ⟨by simpa [queueFits] using queue, by simpa [scanFits] using scan, fun q => ?_, ?_⟩
  · rw [respondParts_ports, Ports.get_set]
    split
    · exact portFits_answered (ports p) none _
    · exact ports q
  · simp only [respondParts_frame]
    intro writing
    rw [respondParts_ports]
    cases p with
    | rack => rw [idle rfl] at writing; cases writing
    | cab => exact working writing
    | link => exact working writing

theorem capacitiesFit_of_answers {p : Port} {r : Request} (h : capacitiesFit s) (taken : takes p r s) (answers : Answers p r s t) :
    capacitiesFit t := by
  obtain ⟨u, status, parts, before, later⟩ := answers
  have free : Answerable p s := answerable_of_takes h.2.2 taken
  exact capacitiesFit_of_served
    (respondParts_capacitiesFit (capacitiesFit_of_served h before) (answerable_of_served free before)) later

theorem capacitiesFit_of_routine (h : capacitiesFit s) (routine : Routine s t) : capacitiesFit t := by
  rcases routine with served | ⟨p, r, taken, answers⟩
  · exact capacitiesFit_of_served h served
  · exact capacitiesFit_of_answers h taken answers

/-! ### The bytes and frames of a port -/

/-- A change of one port that keeps its capacities and the request in its hands. -/
theorem updatePort_capacitiesFit {p : Port} {f : PortState → PortState} (h : capacitiesFit s)
    (fit : portFits (s.ports.get p) → portFits (f (s.ports.get p)))
    (busy : (s.ports.get p).inHand = .working → (f (s.ports.get p)).inHand = .working) : capacitiesFit (updatePort p f s) := by
  obtain ⟨queue, scan, ports, working⟩ := h
  refine ⟨queue, scan, fun q => ?_, fun writing => ?_⟩
  · rw [updatePort, State.setPorts_ports, Ports.get_set]
    split
    · exact fit (ports p)
    · exact ports q
  · have rack := working writing
    cases p with
    | rack => exact busy rack
    | cab => exact rack
    | link => exact rack

theorem acceptBody_fits (body : List Byte) {q : PortState} (fit : portFits q) : portFits (acceptBody body q) := by
  obtain ⟨answers, kinds, few⟩ := fit
  unfold acceptBody
  split
  · split
    · next code _ room =>
      refine ⟨answers, kinds, ?_⟩
      obtain ⟨-, room⟩ := room
      rw [List.length_append]
      exact room
    · exact ⟨answers, kinds, few⟩
  · exact ⟨answers, kinds, few⟩

theorem portFits_ite {c : Prop} [Decidable c] {q v : PortState} (hq : portFits q) (hv : portFits v) :
    portFits (if c then q else v) := by
  split <;> assumption

theorem receiveByte_fits (b : Byte) {q : PortState} (fit : portFits q) : portFits (receiveByte b q) := by
  unfold receiveByte
  split
  · exact portFits_ite fit fit
  · exact portFits_ite fit fit
  · exact portFits_ite fit fit
  · exact fit
  · exact portFits_ite (acceptBody_fits _ fit) fit

theorem acceptBody_inHand (body : List Byte) (q : PortState) : (acceptBody body q).inHand = q.inHand := by
  unfold acceptBody
  repeat' split
  all_goals rfl

theorem receiveByte_inHand (b : Byte) (q : PortState) : (receiveByte b q).inHand = q.inHand := by
  unfold receiveByte
  split
  · split <;> rfl
  · split <;> rfl
  · split <;> rfl
  · rfl
  · dsimp only
    split
    · exact acceptBody_inHand _ _
    · rfl

theorem takeFrame_fits {q : PortState} (fit : portFits q) : portFits (takeFrame q) := by
  have rest : ∀ body frames, q.receive = body :: frames → frames.length ≤ Config.receiveCapacity := by
    intro body frames receive
    obtain ⟨-, -, few⟩ := fit
    rw [receive, List.length_cons] at few
    omega
  unfold takeFrame
  split
  · exact fit
  · next body frames receive =>
    have few := rest body frames receive
    split
    · next free =>
      obtain ⟨answers, kinds, -⟩ := fit
      obtain ⟨none, idle⟩ := responses_of_mayTake free
      split
      · exact ⟨answers, kinds, few⟩
      split
      · refine ⟨⟨?_, fun _ => none⟩, kinds, few⟩
        rw [none]
        exact Nat.zero_le _
      · refine ⟨⟨?_, fun busy => absurd idle busy⟩, ?_, few⟩
        · rw [responses_append, none]
          exact Nat.le_refl _
        · rw [noticeKinds_append_response]
          exact kinds
    · exact fit

theorem takeFrame_working {q : PortState} (busy : q.inHand = .working) : takeFrame q = q := by
  have taken : q.mayTake = false := by simp [PortState.mayTake, busy]
  unfold takeFrame
  split
  · rfl
  · rw [taken]
    rfl

/-- The oldest item leaves an output list (R161). -/
theorem portFits_sent {q : PortState} {item : OutItem} {rest : List OutItem} {tx : Option Transmission} (fit : portFits q)
    (output : q.output = item :: rest) : portFits { q with output := rest, tx := tx } := by
  obtain ⟨⟨one, awaits⟩, kinds, few⟩ := fit
  have tail : rest.Sublist q.output := by
    rw [output]
    exact List.sublist_cons_self item rest
  have shorter : (responses rest).Sublist (responses q.output) := tail.filter _
  refine ⟨⟨Nat.le_trans shorter.length_le one, fun busy => ?_⟩, kinds.sublist (noticeKinds_sublist tail), few⟩
  rw [awaits busy] at shorter
  exact List.sublist_nil.mp shorter

theorem beginTransmission_fits {q : PortState} (fit : portFits q) : portFits (beginTransmission q) := by
  unfold beginTransmission
  split
  · next output =>
    split
    · exact portFits_sent fit output
    · exact portFits_sent fit output
  · exact fit

theorem beginTransmission_inHand (q : PortState) : (beginTransmission q).inHand = q.inHand := by
  unfold beginTransmission
  repeat' split
  all_goals rfl

theorem endTransmission_fits {q : PortState} (fit : portFits q) : portFits (endTransmission q) := by
  unfold endTransmission
  split
  · exact fit
  · split <;> exact fit

theorem endTransmission_inHand (q : PortState) : (endTransmission q).inHand = q.inHand := by
  unfold endTransmission
  repeat' split
  all_goals rfl

/-! ### Settings -/

/-- A settings write begins on RACK: its request awaits the end of the write (R170). -/
theorem beginWrite_capacitiesFit (values : SettingValues) (feature : Byte) (x : Int) (h : capacitiesFit s)
    (free : Answerable .rack s) : capacitiesFit (beginWrite .rack values feature x s) := by
  obtain ⟨queue, scan, ports, -⟩ := h
  obtain ⟨none, -⟩ := free
  refine ⟨queue, scan, fun p => ?_, fun _ => rfl⟩
  simp only [beginWrite, updatePort, State.setPorts_ports, State.setSettings_ports, Ports.get_set]
  split
  · obtain ⟨⟨one, -⟩, kinds, few⟩ := ports .rack
    exact ⟨⟨one, fun _ => none⟩, kinds, few⟩
  · exact ports p

theorem compareLevel_served (s : State) : Served s (compareLevel s) := ⟨compareLevel_worked s, by simp⟩

theorem configure_capacitiesFit (p : Port) (feature : Byte) (x : Int) (h : capacitiesFit s) (free : Answerable p s) :
    capacitiesFit (configure p feature x s) := by
  unfold configure
  dsimp only
  split
  · exact respondParts_capacitiesFit h free
  · next rack =>
    obtain rfl := Decidable.not_not.mp rack
    split
    · exact respondParts_capacitiesFit h free
    · have begun : ∀ v, capacitiesFit (beginWrite .rack v feature x s) := fun v => beginWrite_capacitiesFit v _ _ h free
      exact ite_keeps (capacitiesFit_of_served (begun _) (compareLevel_served _)) (begun _)

theorem revert_capacitiesFit (p : Port) (h : capacitiesFit s) (free : Answerable p s) : capacitiesFit (revert p s) := by
  unfold revert
  split
  · exact respondParts_capacitiesFit h free
  · next rack =>
    obtain rfl := Decidable.not_not.mp rack
    have begun := beginWrite_capacitiesFit SettingValues.defaults 0x7F 0 h free
    exact ite_keeps begun (capacitiesFit_of_served begun (compareLevel_served _))

theorem endSettingsWrite_capacitiesFit (h : capacitiesFit s) : capacitiesFit (endSettingsWrite s) := by
  unfold endSettingsWrite
  split
  · exact h
  · next writing =>
    obtain ⟨queue, scan, ports, working⟩ := h
    obtain ⟨⟨-, awaits⟩, -⟩ := ports .rack
    have busy := working (by rw [writing]; rfl)
    have none : responses (s.ports.get .rack).output = [] := awaits (by
      change s.ports.rack.inHand ≠ _
      rw [busy]
      nofun)
    have written : capacitiesFit (s.setSettings s.settings.written) := ⟨queue, scan, ports, nofun⟩
    exact respondParts_capacitiesFit written ⟨none, fun _ => rfl⟩

/-! ### Starts -/

theorem startedPort_fits (body : NoticeBody) (ready : Bool) : portFits (startedPort body ready) :=
  ⟨⟨Nat.zero_le _, fun _ => rfl⟩, List.nodup_cons.mpr ⟨nofun, List.nodup_nil⟩, Nat.zero_le _⟩

theorem takeEstop_capacitiesFit (h : capacitiesFit s) : capacitiesFit (takeEstop s) := by
  have stopped : Worked (setEstop true s) (takeEstop s) := (stopAxes_worked _ _).trans (addReason_worked _ _)
  exact capacitiesFit_of_served (s := setEstop true s) h ⟨stopped, by simp⟩

theorem endOfStart_capacitiesFit (cause : StartCause) (negatedDuring : Bool) (i : StartInputs) (queue : s.exe.queue = [])
    (scan : s.scan = ScanEngine.start) (writing : s.settings.writing = none) :
    capacitiesFit (endOfStart cause negatedDuring i s) := by
  have announced : capacitiesFit (announce cause i.ready (foundSupply i.supplyOk (foundFaults i.faultLine
      (setResetLine i.resetLine s)))) := by
    refine ⟨?_, ?_, fun p => ?_, ?_⟩
    · rw [queueFits]
      exact le_of_eq_of_le (congrArg List.length queue) (Nat.zero_le _)
    · rw [scanFits]
      simp only [announce_frame, foundSupply_frame, foundFaults_frame, setResetLine_frame, scan]
      exact ⟨nofun, nofun⟩
    · cases p <;> exact startedPort_fits _ _
    · simp [writing]
  have kept : ∀ u, capacitiesFit u → capacitiesFit (keptLockout (noteDefaulted u)) := fun u hu => by
    refine capacitiesFit_of_served hu ⟨?_, by simp⟩
    have noted : Worked u (noteDefaulted u) := worked_ite (placeCondition_worked _ u) (.refl u)
    exact noted.trans (worked_ite (.refl _) (setArb_worked _ _))
  have estop : ∀ u, capacitiesFit u → capacitiesFit (foundEstop i.estop u) := fun u hu =>
    ite_keeps (takeEstop_capacitiesFit hu) hu
  have park : ∀ u, Served u (foundPark i.park negatedDuring u) := fun u => by
    refine ⟨worked_ite ?_ (takeParkNegation_worked u), by simp⟩
    exact worked_ite ((setPark_worked true u).trans (flushCache_worked _ _ _)) (setPark_worked true u)
  have wind : ∀ u, Served u (foundWind u) := fun u => ⟨worked_ite (raiseWindAlarm_worked u) (.refl u), by simp⟩
  have manual : ∀ u, Served u (foundManual i.manualReq u) := fun u =>
    ⟨worked_ite ((setManualReq_worked true u).trans (takeManualRequest_worked _)) (setManualReq_worked false u), by simp⟩
  exact capacitiesFit_of_served (capacitiesFit_of_served (capacitiesFit_of_served (estop _ (kept _ announced)) (park _))
    (wind _)) (manual _)

theorem finishWrites_writing (back : ReadBack) (s : State) : (finishWrites back s).settings.writing = none := by
  change (if s.settings.writing.isSome then s.settings.written else s.settings).writing = none
  split
  · rfl
  · next idle => simpa using idle

theorem warmStart_capacitiesFit (cause : StartCause) (i : StartInputs) (s : State) : capacitiesFit (warmStart cause i s) :=
  endOfStart_capacitiesFit _ _ _ rfl rfl (by simp [warmState, finishWrites_writing])

theorem coldStart_capacitiesFit (i : StartInputs) (s : State) : capacitiesFit (coldStart i s) :=
  endOfStart_capacitiesFit _ _ _ rfl rfl rfl

/-! ### Every command -/

theorem onRequest_takes_keeps {P : State → Prop} {p : Port} {r : Request} {f : State → State} (h : P s)
    (hf : takes p r s → P (f s)) : P (onRequest p r f s) := by
  by_cases taken : takes p r s
  · rw [onRequest_takes f taken]
    exact hf taken
  · rw [onRequest_idle f taken]
    exact h

theorem start_portFits : portFits PortState.start := ⟨⟨Nat.zero_le _, fun _ => rfl⟩, List.nodup_nil, Nat.zero_le _⟩

theorem losePower_capacitiesFit (l : PowerLoss) (s : State) : capacitiesFit (losePower l s) := by
  refine ⟨Nat.zero_le _, ⟨nofun, nofun⟩, fun p => ?_, nofun⟩
  cases p <;> exact start_portFits

theorem exec_capacitiesFit (c : Instr) (h : capacitiesFit s) (step : exec c s = .next t) : capacitiesFit t := by
  have routinely : isRoutine c = true → capacitiesFit t := fun routine =>
    capacitiesFit_of_routine h (exec_routine c routine step)
  have free : ∀ {p r}, takes p r s → Answerable p s := answerable_of_takes h.2.2
  cases c <;> cases step
  case powerApplied i => exact coldStart_capacitiesFit i s
  case reset i => exact whenPowered_keeps h (ite_keeps h (warmStart_capacitiesFit _ i s))
  case restart p i =>
    exact onRequest_takes_keeps h (fun taken =>
      ite_keeps (warmStart_capacitiesFit _ i s) (respondParts_capacitiesFit h (free taken)))
  case powerLoss l => exact whenPowered_keeps h (losePower_capacitiesFit l s)
  case estopAsserted => exact whenPowered_keeps h (ite_keeps h (takeEstop_capacitiesFit h))
  case estopNegated => exact whenPowered_keeps h h
  case byteReceived p b | frameReceived p b =>
    exact whenPowered_keeps h (updatePort_capacitiesFit h (receiveByte_fits b) (by rw [receiveByte_inHand]; exact id))
  case frameByteTimeout => exact whenPowered_keeps h (updatePort_capacitiesFit h id id)
  case takeFrame =>
    exact whenPowered_keeps h
      (updatePort_capacitiesFit h takeFrame_fits (fun busy => by rw [takeFrame_working busy]; exact busy))
  case readyChange => exact whenPowered_keeps h (updatePort_capacitiesFit h id id)
  case transmitBegin =>
    exact whenPowered_keeps h
      (updatePort_capacitiesFit h beginTransmission_fits (by rw [beginTransmission_inHand]; exact id))
  case frameSent =>
    exact whenPowered_keeps h (updatePort_capacitiesFit h endTransmission_fits (by rw [endTransmission_inHand]; exact id))
  case configure => exact onRequest_takes_keeps h (fun taken => configure_capacitiesFit _ _ _ h (free taken))
  case revert => exact onRequest_takes_keeps h (fun taken => revert_capacitiesFit _ h (free taken))
  case settingsWriteEnd => exact whenPowered_keeps h (endSettingsWrite_capacitiesFit h)
  all_goals exact routinely rfl

/-- Settles O57: the blocks' work and each port's traffic keep the capacities. -/
theorem capacitiesAreKept : Obligations.CapacitiesAreKept :=
  fun c _ _ queue scan ports step => exec_capacitiesFit c ⟨queue, scan, ports⟩ step

end Sys2Proof.Machine
end

section
/-! Every command keeps the settings in their ranges and the cache guarded (R130, R170). -/

namespace Sys2Proof.Machine

variable {s t u : State}

theorem guardFits_of_same (h : guardFits s) (settings : t.settings.inForce = s.settings.inForce) (cache : t.cache = s.cache)
    (park : t.safe.park = s.safe.park) (level : t.pose.level = s.pose.level) : guardFits t := by
  simpa only [guardFits, settingsFit, cacheGuarded, settings, cache, park, level] using h

theorem cacheGuarded_start (cache : t.cache = Cache.start) : cacheGuarded t := by
  simp [cacheGuarded, cache, Cache.start]

theorem guardFits_of_start (h : settingsFit s) (settings : t.settings.inForce = s.settings.inForce) (cache : t.cache = Cache.start) :
    guardFits t :=
  ⟨by simpa only [settingsFit, settings] using h, cacheGuarded_start cache⟩

/-- The tolerance of settings in range is not negative. -/
theorem tolerance_nonneg (h : settingsFit s) : 0 ≤ s.settings.inForce.tolerance := by
  simp only [settingsFit, settingsInRange, Bool.and_eq_true, decide_eq_true_eq] at h
  omega

/-- A solution learned is guarded: it is kept under PARK alone, and the sample is the level reference of a cache that was empty
(R126, R128). -/
theorem guardFits_of_learns (h : guardFits s) (learns : CacheLearns s t) (settings : t.settings.inForce = s.settings.inForce)
    (park : t.safe.park = s.safe.park) (level : t.pose.level = s.pose.level) : guardFits t := by
  rcases learns with same | ⟨e, may, learned⟩
  · exact guardFits_of_same h settings same park level
  obtain ⟨fits, ⟨empty, -, within⟩⟩ := h
  have asserted : s.safe.park = true := by
    simp only [mayLearn, Bool.and_eq_true] at may
    exact may.1
  refine ⟨by simpa only [settingsFit, settings] using fits, ?_, fun _ => park.trans asserted, fun ref reference => ?_⟩
  · rw [learned]
    by_cases none : s.cache.entries = []
    · simp [Cache.learn, none]
    · simp [Cache.learn, none, ← empty]
  · rw [learned] at reference
    rw [settings, level]
    by_cases none : s.cache.entries = []
    · simp only [Cache.learn, none, if_true, Option.some.injEq] at reference
      subst reference
      simpa using tolerance_nonneg fits
    · simp only [Cache.learn, none, if_false] at reference
      exact within ref reference

/-- Entries may leave the cache, or change places; with the last one the level reference goes (R125, R126, R129). -/
theorem guardFits_of_fewer (h : guardFits s) (settings : t.settings.inForce = s.settings.inForce)
    (park : t.safe.park = s.safe.park) (level : t.pose.level = s.pose.level)
    (empty : t.cache.entries = [] ↔ t.cache.reference = none) (filled : t.cache.entries ≠ [] → s.cache.entries ≠ [])
    (reference : ∀ ref, t.cache.reference = some ref → s.cache.reference = some ref) : guardFits t := by
  obtain ⟨fits, -, asserted, within⟩ := h
  refine ⟨by simpa only [settingsFit, settings] using fits, empty, fun some => park.trans (asserted (filled some)), ?_⟩
  intro ref now
  rw [settings, level]
  exact within ref (reference ref now)

theorem guardFits_reference (h : guardFits s) : s.cache.entries = [] ↔ s.cache.reference = none := by
  obtain ⟨-, empty, -⟩ := h
  exact empty

theorem guardFits_without {slot : Nat} (h : guardFits s) (cache : t.cache = s.cache.without slot)
    (settings : t.settings.inForce = s.settings.inForce) (park : t.safe.park = s.safe.park) (level : t.pose.level = s.pose.level) :
    guardFits t := by
  by_cases gone : s.cache.entries.filter (fun e => e.slot != slot) = []
  · refine guardFits_of_start h.1 settings ?_
    rw [cache]
    simp [Cache.without, gone, Cache.start]
  · have some : s.cache.entries ≠ [] := fun none => gone (by simp [none])
    refine guardFits_of_fewer h settings park level ?_ (fun _ => some) ?_
    · simp [cache, Cache.without, gone, ← guardFits_reference h, some]
    · simp [cache, Cache.without, gone]

theorem guardFits_lookedUp {slot : Nat} (h : guardFits s) (cache : t.cache = s.cache.lookedUp slot)
    (settings : t.settings.inForce = s.settings.inForce) (park : t.safe.park = s.safe.park) (level : t.pose.level = s.pose.level) :
    guardFits t := by
  cases found : cacheEntry s.cache slot with
  | none => exact guardFits_of_same h settings (by rw [cache, Cache.lookedUp, found]) park level
  | some e =>
    have some : s.cache.entries ≠ [] := List.ne_nil_of_mem (cacheEntry_slot found).1
    refine guardFits_of_fewer h settings park level ?_ (fun _ => some) ?_
    · simp [cache, Cache.lookedUp, found, ← guardFits_reference h, some]
    · simp [cache, Cache.lookedUp, found]

/-! ### The comparison with the level reference -/

/-- A cache guarded but for the sample and the tolerance, which the comparison restores (R130). -/
theorem compareLevel_guardFits (fits : settingsFit s) (empty : s.cache.entries = [] ↔ s.cache.reference = none)
    (asserted : s.cache.entries ≠ [] → s.safe.park = true) : guardFits (compareLevel s) := by
  unfold compareLevel
  split
  · next absent => exact ⟨fits, empty, asserted, by simp [absent]⟩
  · next ref reference =>
    split
    · exact guardFits_of_start fits (by simp) (by simp)
    · next near =>
      refine ⟨fits, empty, asserted, fun now same => ?_⟩
      rw [reference] at same
      obtain rfl := Option.some.inj same
      omega

theorem recordLevel_guardFits (sample : Level) (h : guardFits s) : guardFits (compareLevel (recordLevel sample s)) := by
  obtain ⟨fits, empty, asserted, -⟩ := h
  exact compareLevel_guardFits (s := recordLevel sample s) fits empty asserted

/-! ### The settings in force -/

theorem settingsInRange_iff (v : SettingValues) :
    settingsInRange v = true ↔
      (0 ≤ v.idleTimeout ∧ v.idleTimeout ≤ 255) ∧ (0 ≤ v.levelSource ∧ v.levelSource ≤ 1) ∧ (100 ≤ v.dwell ∧ v.dwell ≤ 2000)
        ∧ (0 ≤ v.block ∧ v.block ≤ 32) ∧ (-1200 ≤ v.learnThreshold ∧ v.learnThreshold ≤ 0) ∧ (2 ≤ v.pulses ∧ v.pulses ≤ 100)
        ∧ (3000 ≤ v.ceiling ∧ v.ceiling ≤ 15000 ∧ v.ceiling % 10 = 0) ∧ (10 ≤ v.tolerance ∧ v.tolerance ≤ 100)
        ∧ (10 ≤ v.suspension ∧ v.suspension ≤ 600) := by
  simp only [settingsInRange, Bool.and_eq_true, decide_eq_true_eq, beq_iff_eq, and_assoc]

/-- A feature set to a value of its range leaves every value in its range (R170). -/
theorem configured_inRange {v w : SettingValues} {feature : Byte} {x : Int} (h : settingsInRange v = true)
    (set : configured v feature x = some w) : settingsInRange w = true := by
  rw [settingsInRange_iff] at h ⊢
  unfold configured at set
  repeat' split at set
  all_goals simp only [Option.some.injEq, reduceCtorEq] at set
  all_goals
    subst set
    dsimp only
    omega

/-- CONFIGURE of another feature than the level tolerance leaves it (R170). -/
theorem configured_tolerance {v w : SettingValues} {feature : Byte} {x : Int} (other : feature ≠ 0x08)
    (set : configured v feature x = some w) : w.tolerance = v.tolerance := by
  simp only [configured, other, false_and, if_false] at set
  repeat' split at set
  all_goals simp only [Option.some.injEq, reduceCtorEq] at set
  all_goals subst set
  all_goals rfl

theorem beginWrite_guardFits {p : Port} {v : SettingValues} {feature : Byte} {x : Int} (h : guardFits s)
    (fits : settingsInRange v = true) (tolerance : v.tolerance = s.settings.inForce.tolerance) :
    guardFits (beginWrite p v feature x s) := by
  obtain ⟨-, empty, asserted, within⟩ := h
  refine ⟨fits, empty, asserted, fun ref reference => ?_⟩
  show _ ≤ v.tolerance ∧ _ ≤ v.tolerance
  rw [tolerance]
  exact within ref reference

/-- A settings write with the comparison that follows a changed level tolerance (R130, R170). -/
theorem beginWrite_compared_guardFits {p : Port} {v : SettingValues} {feature : Byte} {x : Int} (h : guardFits s)
    (fits : settingsInRange v = true) : guardFits (compareLevel (beginWrite p v feature x s)) := by
  obtain ⟨-, empty, asserted, -⟩ := h
  exact compareLevel_guardFits (s := beginWrite p v feature x s) fits empty asserted

theorem respond_guardFits {p : Port} {r : Request} {status : Status} {fields : List Byte} (h : guardFits s) :
    guardFits (respond p r status fields s) :=
  guardFits_of_same h (by simp) (by simp) (by simp) (by simp)

theorem configure_guardFits (p : Port) (feature : Byte) (x : Int) (h : guardFits s) : guardFits (configure p feature x s) := by
  unfold configure
  dsimp only
  split
  · exact respond_guardFits h
  split
  · exact respond_guardFits h
  · next v set =>
    have fits := configured_inRange h.1 set
    split
    · exact beginWrite_compared_guardFits h fits
    · next other => exact beginWrite_guardFits h fits (configured_tolerance other set)

theorem defaults_inRange : settingsInRange SettingValues.defaults = true := by decide

theorem revert_guardFits (p : Port) (h : guardFits s) : guardFits (revert p s) := by
  unfold revert
  split
  · exact respond_guardFits h
  unfold toleranceTaken
  split
  · next same => exact beginWrite_guardFits h defaults_inRange same
  · exact beginWrite_compared_guardFits h defaults_inRange

/-! ### The cache's requests -/

theorem aim_cache (p : Port) (slot : Nat) (heading : Option Int) (flag : Byte) (s : State) :
    (aim p slot heading flag s).cache = s.cache ∨ (aim p slot heading flag s).cache = s.cache.lookedUp slot := by
  have resolved : ∀ r u, (resolveAim p r slot flag u).cache = u.cache ∨ (resolveAim p r slot flag u).cache = u.cache.lookedUp slot := by
    intro r u
    unfold resolveAim
    split
    · exact Or.inl (by simp)
    split
    · exact Or.inr (aimAt_cache ..)
    · exact Or.inl (by simp)
    · exact Or.inl (by simp)
  unfold aim
  dsimp only
  split
  · exact Or.inl (by simp)
  split
  · exact Or.inl (by simp)
  split
  · exact resolved _ s
  split
  · exact resolved _ _
  · exact Or.inl (by simp)

theorem aim_guardFits (p : Port) (slot : Nat) (heading : Option Int) (flag : Byte) (h : guardFits s) :
    guardFits (aim p slot heading flag s) := by
  rcases aim_cache p slot heading flag s with same | found
  · exact guardFits_of_same h (by simp) same (by simp) (by simp)
  · exact guardFits_lookedUp h found (by simp) (by simp) (by simp)

theorem removeEntry_guardFits (slot : Nat) (cause : FlushCause) (requester : Option Port) (h : guardFits s) :
    guardFits (removeEntry slot cause requester s) :=
  guardFits_without h (removeEntry_cache _ _ _ s (guardFits_reference h).mp) (by simp) (by simp) (by simp)

theorem invalidateSite_guardFits (p : Port) (slot : Nat) (h : guardFits s) : guardFits (invalidateSite p slot s) :=
  ite_keeps (respond_guardFits h) (ite_keeps (respond_guardFits h) (respond_guardFits (removeEntry_guardFits _ _ _ h)))

theorem retireSite_guardFits (p : Port) (slot : Nat) (redirection : Option Nat) (h : guardFits s) :
    guardFits (retireSite p slot redirection s) := by
  have begun : ∀ site, guardFits (beginRetire p slot redirection site s) := fun site =>
    guardFits_of_same (removeEntry_guardFits slot .retire none h) rfl rfl rfl rfl
  unfold retireSite
  refine ite_keeps (respond_guardFits h) (ite_keeps (respond_guardFits h) ?_)
  unfold retireSlot
  refine ite_keeps (respond_guardFits h) ?_
  split
  · exact respond_guardFits h
  split
  · exact respond_guardFits h
  · exact respond_guardFits (begun _)

theorem flushCache_guardFits (cause : FlushCause) (requester : Option Port) (h : guardFits s) :
    guardFits (flushCache cause requester s) :=
  guardFits_of_start h.1 (by simp) (by simp)

theorem eraseTable_guardFits (p : Port) (h : guardFits s) : guardFits (eraseTable p s) :=
  ite_keeps (respond_guardFits h) (ite_keeps (respond_guardFits h)
    (respond_guardFits (flushCache_guardFits _ _ (guardFits_of_same h rfl rfl rfl rfl))))

theorem takeParkNegation_guardFits (h : guardFits s) : guardFits (takeParkNegation s) :=
  guardFits_of_start h.1 (by simp) (takeParkNegation_cache s)

/-- PARK asserted guards every entry. -/
theorem guardFits_parked (h : guardFits s) (settings : t.settings.inForce = s.settings.inForce) (cache : t.cache = s.cache)
    (park : t.safe.park = true) (level : t.pose.level = s.pose.level) : guardFits t := by
  obtain ⟨fits, empty, -, within⟩ := h
  refine ⟨by simpa only [settingsFit, settings] using fits, by simpa only [cache] using empty, fun _ => park, ?_⟩
  simpa only [settings, cache, level] using within

theorem afterRemoval_park (s : State) : (afterRemoval s).safe.park = s.safe.park := by simp

theorem takeParkAssertion_guardFits (h : guardFits s) : guardFits (takeParkAssertion s) := by
  refine guardFits_parked h (by simp) (by simp) ?_ (by simp)
  simp [takeParkAssertion]

theorem takeEstop_guardFits (h : guardFits s) : guardFits (takeEstop s) :=
  guardFits_of_same h (by simp) (by simp) (by simp) (by simp)

/-! ### Starts -/

@[simp] theorem setResetLine_safe (asserted : Bool) (s : State) :
    (setResetLine asserted s).safe = { s.safe with resetLine := asserted } := rfl

@[simp] theorem foundSupply_safe (ok : Bool) (s : State) : (foundSupply ok s).safe = { s.safe with supplyOk := ok } := rfl

theorem endOfStart_guardFits (cause : StartCause) (negatedDuring : Bool) (i : StartInputs) (h : guardFits s) :
    guardFits (endOfStart cause negatedDuring i s) := by
  have park : ∀ u, guardFits u → guardFits (foundPark i.park negatedDuring u) := by
    intro u hu
    have parked : guardFits (setPark true u) := guardFits_parked hu rfl rfl rfl rfl
    exact ite_keeps (ite_keeps (flushCache_guardFits _ _ parked) parked) (takeParkNegation_guardFits hu)
  have manual : ∀ u, guardFits u → guardFits (foundManual i.manualReq (foundWind u)) := fun u hu =>
    guardFits_of_same hu (by simp) (by simp) (by simp) (by simp)
  exact manual _ (park _ (guardFits_of_same h (by simp) (by simp) (by simp) (by simp)))

theorem settingsLoaded_inRange (x : StoredSettings) : settingsInRange (settingsLoaded x).inForce = true := by
  unfold settingsLoaded
  by_cases good : x.good = true
  · simp only [good, if_true]
    simp only [StoredSettings.good, Bool.and_eq_true] at good
    exact good.2
  · simp only [good, Bool.false_eq_true, if_false]
    exact defaults_inRange

theorem coldStart_guardFits (i : StartInputs) (s : State) : guardFits (coldStart i s) :=
  endOfStart_guardFits _ _ _ ⟨settingsLoaded_inRange _, cacheGuarded_start rfl⟩

theorem finishWrites_inForce (back : ReadBack) (s : State) : (finishWrites back s).settings.inForce = s.settings.inForce := by
  change (if s.settings.writing.isSome then s.settings.written else s.settings).inForce = _
  split <;> rfl

theorem warmStart_guardFits (cause : StartCause) (i : StartInputs) (h : guardFits s) : guardFits (warmStart cause i s) :=
  endOfStart_guardFits _ _ _ (guardFits_of_same h (by simp [warmState, finishWrites_inForce]) (by simp [warmState, finishWrites])
    (by simp [warmState, warmMonitor, finishWrites]) (by simp [warmState, recordReading, finishWrites]))

/-! ### Every command -/

theorem exec_guardFits (c : Instr) (h : guardFits s) (step : exec c s = .next t) : guardFits t := by
  have answered : ∀ p r status fields, guardFits (respond p r status fields s) := fun _ _ _ _ => respond_guardFits h
  have same : ∀ {u : State}, u.settings.inForce = s.settings.inForce → u.cache = s.cache → u.safe.park = s.safe.park →
      u.pose.level = s.pose.level → guardFits u := guardFits_of_same h
  cases c <;> cases step
  case powerApplied i => exact coldStart_guardFits i s
  case reset i => exact whenPowered_keeps h (ite_keeps h (warmStart_guardFits _ i h))
  case restart p i => exact onRequest_keeps h (ite_keeps (warmStart_guardFits _ i h) (answered _ _ _ _))
  case powerLoss l => exact whenPowered_keeps h ⟨defaults_inRange, cacheGuarded_start rfl⟩
  case aim => exact onRequest_keeps h (asHolder_keeps (fun _ => answered _ _ _ _) (aim_guardFits _ _ _ _ h))
  case queueMoves | stow | peak | halt | clearAxis =>
    exact onRequest_keeps h (asHolder_keeps (fun _ => answered _ _ _ _) (same (by simp) (by simp) (by simp) (by simp)))
  case retireSite => exact onRequest_keeps h (retireSite_guardFits _ _ _ h)
  case eraseTable => exact onRequest_keeps h (eraseTable_guardFits _ h)
  case invalidateSite => exact onRequest_keeps h (invalidateSite_guardFits _ _ h)
  case flushCache => exact onRequest_keeps h (respond_guardFits (flushCache_guardFits _ _ h))
  case configure => exact onRequest_keeps h (configure_guardFits _ _ _ h)
  case revert => exact onRequest_keeps h (revert_guardFits _ h)
  case settingsWriteEnd =>
    refine whenPowered_keeps h ?_
    unfold endSettingsWrite
    split
    · exact h
    · exact respond_guardFits (s := s.setSettings s.settings.written) (same rfl rfl rfl rfl)
  case inclinometerSample => exact whenPowered_keeps h (recordLevel_guardFits _ h)
  case levelReport =>
    exact onRequest_keeps h (guardFits_of_learns h (levelReport_learns _ _ s) (by simp) (by simp) (by simp))
  case dwellEnd => exact whenPowered_keeps h (guardFits_of_learns h (endDwell_learns _ s) (by simp) (by simp) (by simp))
  case settleTimerExpiry =>
    exact whenPowered_keeps h (guardFits_of_learns h (expireSettle_learns _ s) (by simp) (by simp) (by simp))
  case poseReading r =>
    have read : guardFits (takeReading r s) := same (by simp) (by simp) (by simp) (by simp)
    exact whenPowered_keeps h
      (guardFits_of_learns read (followActive_learns _).then_settleAll (by simp) (by simp) (by simp))
  case parkNegated => exact whenPowered_keeps h (ite_keeps (takeParkNegation_guardFits h) h)
  case parkAsserted => exact whenPowered_keeps h (ite_keeps h (takeParkAssertion_guardFits h))
  case restWatchExpiry =>
    refine whenPowered_keeps h ?_
    split
    · exact same (by simp) (by simp) (by simp) (by simp)
    · exact h
  case estopAsserted | supplyOkAsserted | manualReqAsserted =>
    exact whenPowered_keeps h (ite_keeps h (same (by simp) (by simp) (by simp) (by simp)))
  case supplyOkNegated | manualReqNegated =>
    exact whenPowered_keeps h (ite_keeps (same (by simp) (by simp) (by simp) (by simp)) h)
  case frameReceived | frameByteTimeout | takeFrame | readyChange | transmitBegin | frameSent | byteReceived | slotWriteEnd
    | eraseEnd | idleTimerExpiry | estopNegated | suspensionLimitExpiry | faultLineAsserted | faultLineNegated
    | obstructionEdge | stallWindowExpiry | settlingTimeout | anemometerPulse | windSample | levelWaitExpiry
    | resetNegated => exact whenPowered_keeps h (same (by simp) (by simp) (by simp) (by simp))
  case claim | withdraw | release | setHeading | readSite | stageSite | commitSite | readCache | status | identify | scanResult
    | clearLatches | clearLockout | setNotices =>
    exact onRequest_keeps h (same (by simp) (by simp) (by simp) (by simp))

/-- Settles O59, command by command. -/
theorem guardFitsIsKept : Obligations.GuardFitsIsKept := fun c _ _ => exec_guardFits c

end Sys2Proof.Machine
end

section
/-! The authority invariant through the operations of the arbiter (R20, R23, R34). -/

namespace Sys2Proof.Machine

variable {s t u : State}

/-! ### Claim lists -/

/-- The ports in rank order (R22). -/
def rankOrder : List Port := [.rack, .cab, .link]

/-- A claim list in rank order without duplicates (R23). -/
def InRankOrder (claims : List Port) : Prop := claims = rankOrder.filter (fun q => claims.contains q)

theorem mem_rankOrder (p : Port) : p ∈ rankOrder := by cases p <;> decide

/-- Every choice of ports from the rank order is in rank order. -/
theorem inRankOrder_filter (f : Port → Bool) : InRankOrder (rankOrder.filter f) := by
  refine List.filter_congr fun q _ => ?_
  rw [eq_comm, Bool.eq_iff_iff, List.contains_iff_mem, List.mem_filter]
  exact ⟨fun h => h.2, fun h => ⟨mem_rankOrder q, h⟩⟩

theorem inRankOrder_nil : InRankOrder [] := inRankOrder_filter (fun _ => false)

theorem inRankOrder_joinClaims (p : Port) (claims : List Port) : InRankOrder (joinClaims p claims) :=
  inRankOrder_filter (fun q => q == p || claims.contains q)

theorem inRankOrder_withoutClaim (p : Port) {claims : List Port} (h : InRankOrder claims) :
    InRankOrder (withoutClaim p claims) := by
  rw [h, withoutClaim, List.filter_filter]
  exact inRankOrder_filter _

theorem withoutClaim_contains (p : Port) (claims : List Port) : (withoutClaim p claims).contains p = false := by
  rw [Bool.eq_false_iff]
  simp [withoutClaim]

/-! ### The invariant -/

theorem authorityFits_of_same (h : authorityFits s) (auth : t.arb.auth = s.arb.auth) (holder : t.arb.holder = s.arb.holder)
    (claims : t.arb.claims = s.arb.claims) (deferred : t.arb.deferred = s.arb.deferred) : authorityFits t := by
  simpa only [authorityFits, holderFits, claimsFit, portHolder, holderPort, auth, holder, claims, deferred] using h

theorem claims_inRankOrder (h : authorityFits s) : InRankOrder s.arb.claims := by
  obtain ⟨-, order, -⟩ := h
  exact order

/-- Nobody holds authority, and nothing is deferred. -/
theorem authorityFits_absent (auth : s.arb.auth = .free ∨ s.arb.auth = .manual ∨ s.arb.auth = .lockout)
    (holder : s.arb.holder = none) (deferred : s.arb.deferred = none) (order : InRankOrder s.arb.claims)
    (none : s.arb.auth = .manual ∨ s.arb.claims = []) : authorityFits s := by
  refine ⟨⟨fun _ => holder, ?_, ?_, ?_, ?_⟩, order, ?_, ?_⟩
  · rintro (held | yielding) <;> simp_all
  · rintro (moving | pending) <;> simp_all
  · rw [deferred]
    nofun
  · rw [deferred]
    nofun
  · rw [holder]
    nofun
  · rintro (free | lockout) <;> simp_all

/-- A port holds authority, and its claim is not on the list. -/
theorem authorityFits_port {p : Port}
    (auth : s.arb.auth = .held ∨ s.arb.auth = .moving ∨ s.arb.auth = .yielding ∨ s.arb.auth = .manualPending)
    (holder : s.arb.holder = some (.port p))
    (deferred : s.arb.deferred.isSome = true → s.arb.auth ≠ .manualPending) (order : InRankOrder s.arb.claims)
    (claim : s.arb.claims.contains p = false) : authorityFits s := by
  have port : portHolder s := by simp [portHolder, holderPort, holder]
  refine ⟨⟨?_, fun _ => port, fun _ => by simp [holder], ?_, fun _ => port⟩, order, ?_, ?_⟩
  · rcases auth with h | h | h | h <;> simp [h]
  · intro waits
    have pending := deferred waits
    rcases auth with h | h | h | h <;> simp_all
  · intro q same
    rw [holder] at same
    obtain rfl : p = q := by simpa using same
    exact claim
  · rcases auth with h | h | h | h <;> simp [h]

/-- SAFETY holds authority. -/
theorem authorityFits_safety (auth : s.arb.auth = .moving ∨ s.arb.auth = .manualPending)
    (holder : s.arb.holder = some .safety) (waits : s.arb.deferred.isSome = true → s.arb.auth = .moving)
    (yields : s.arb.deferred ≠ some .yield) (order : InRankOrder s.arb.claims) : authorityFits s := by
  refine ⟨⟨?_, ?_, fun _ => by simp [holder], fun h => Or.inr (Or.inl (waits h)), fun h => absurd h yields⟩, order, ?_, ?_⟩
  · rcases auth with h | h <;> simp [h]
  · rcases auth with h | h <;> simp [h]
  · rw [holder]
    nofun
  · rcases auth with h | h <;> simp [h]

/-- A port's authority: what the invariant says of it. -/
theorem port_facts (h : authorityFits s) {p : Port} (holder : s.arb.holder = some (.port p)) :
    (s.arb.auth = .held ∨ s.arb.auth = .moving ∨ s.arb.auth = .yielding ∨ s.arb.auth = .manualPending)
      ∧ s.arb.claims.contains p = false := by
  obtain ⟨⟨absent, -⟩, -, claim, -⟩ := h
  refine ⟨?_, claim p holder⟩
  cases auth : s.arb.auth <;> simp_all

theorem safety_auth (h : authorityFits s) (holder : s.arb.holder = some .safety) :
    s.arb.auth = .moving ∨ s.arb.auth = .manualPending := by
  obtain ⟨⟨absent, port, -⟩, -⟩ := h
  cases auth : s.arb.auth <;> simp_all [portHolder, holderPort]

theorem holder_absent (h : authorityFits s)
    (auth : s.arb.auth = .free ∨ s.arb.auth = .manual ∨ s.arb.auth = .lockout) : s.arb.holder = none := by
  obtain ⟨⟨absent, -⟩, -⟩ := h
  exact absent auth

theorem holder_port (h : authorityFits s) (auth : s.arb.auth = .held ∨ s.arb.auth = .yielding) :
    ∃ p, s.arb.holder = some (.port p) := by
  obtain ⟨⟨-, port, -⟩, -⟩ := h
  have some := port auth
  unfold portHolder holderPort at some
  split at some
  · next p holder => exact ⟨p, holder⟩
  · cases some

theorem holder_present (h : authorityFits s)
    (auth : s.arb.auth = .moving ∨ s.arb.auth = .yielding ∨ s.arb.auth = .manualPending) : s.arb.holder.isSome = true := by
  rcases auth with moving | yielding | pending
  · obtain ⟨⟨-, -, present, -⟩, -⟩ := h
    exact present (Or.inl moving)
  · obtain ⟨p, holder⟩ := holder_port h (Or.inr yielding)
    simp [holder]
  · obtain ⟨⟨-, -, present, -⟩, -⟩ := h
    exact present (Or.inr pending)

theorem claims_empty (h : authorityFits s) (auth : s.arb.auth = .free ∨ s.arb.auth = .lockout) : s.arb.claims = [] := by
  obtain ⟨-, -, -, empty⟩ := h
  exact empty auth

theorem deferred_auth (h : authorityFits s) (deferred : s.arb.deferred.isSome = true) :
    s.arb.auth = .held ∨ s.arb.auth = .moving ∨ s.arb.auth = .yielding := by
  obtain ⟨⟨-, -, -, waits, -⟩, -⟩ := h
  exact waits deferred

theorem deferred_none (h : authorityFits s)
    (auth : s.arb.auth = .free ∨ s.arb.auth = .manualPending ∨ s.arb.auth = .manual ∨ s.arb.auth = .lockout) :
    s.arb.deferred = none := by
  rw [← Option.not_isSome_iff_eq_none]
  intro deferred
  have waits := deferred_auth h deferred
  rcases auth with h | h | h | h <;> simp [h] at waits

/-! ### Changes of holder -/

theorem toFree_authorityFits (claims : s.arb.claims = []) : authorityFits (toFree s) :=
  authorityFits_absent (Or.inl rfl) rfl rfl (by simp [toFree, claims, inRankOrder_nil]) (Or.inr claims)

theorem toHeld_authorityFits (p : Port) (order : InRankOrder s.arb.claims) : authorityFits (toHeld p s) :=
  authorityFits_port (p := p) (Or.inl rfl) rfl nofun (inRankOrder_withoutClaim p order) (withoutClaim_contains p _)

theorem giveTo_authorityFits (p : Port) (reason : AuthReason) (order : InRankOrder s.arb.claims) :
    authorityFits (giveTo p reason s) :=
  authorityFits_of_same (toHeld_authorityFits p order) (by simp [giveTo]) (by simp [giveTo]) (by simp [giveTo])
    (by simp [giveTo])

theorem passOn_authorityFits (reason : AuthReason) (order : InRankOrder s.arb.claims) : authorityFits (passOn reason s) := by
  unfold passOn
  split
  · exact giveTo_authorityFits _ _ order
  · next claims => exact toFree_authorityFits claims

theorem endDeferral_authorityFits (h : authorityFits s) : authorityFits (endDeferral s) := by
  obtain ⟨⟨absent, port, present, -⟩, claims⟩ := h
  exact ⟨⟨absent, port, present, nofun, nofun⟩, claims⟩

theorem retain_authorityFits (h : authorityFits s) {p : Port} (holder : s.arb.holder = some (.port p)) :
    authorityFits (retain s) := by
  obtain ⟨-, claim⟩ := port_facts h holder
  refine authorityFits_port (p := p) (Or.inl (by simp [retain, startIdle])) (by simp [retain, startIdle, holder])
    (by simp [retain, startIdle]) ?_ ?_
  · simpa [retain, startIdle] using claims_inRankOrder h
  · simpa [retain, startIdle] using claim

theorem enterLockout_authorityFits (s : State) : authorityFits (enterLockout s) :=
  authorityFits_absent (Or.inr (Or.inr rfl)) rfl rfl inRankOrder_nil (Or.inr rfl)

theorem grantCrank_authorityFits (lh ld bh bd : Nat) (order : InRankOrder s.arb.claims) :
    authorityFits (grantCrank lh ld bh bd s) := by
  have claims : (grantCrank lh ld bh bd s).arb.claims = s.arb.claims := by
    unfold grantCrank
    dsimp only
    split <;> simp
  refine authorityFits_absent (Or.inr (Or.inl ?_)) ?_ ?_ (by rw [claims]; exact order) (Or.inl ?_)
  all_goals simp [grantCrank]

/-- What a deferral in HELD, MOVING or YIELDING keeps (R34). -/
theorem defer_authorityFits (d : Deferral) (h : authorityFits s)
    (auth : s.arb.auth = .held ∨ s.arb.auth = .moving ∨ s.arb.auth = .yielding)
    (yields : d = .yield → ∃ p, s.arb.holder = some (.port p)) : authorityFits (defer d s) := by
  obtain ⟨⟨absent, port, present, -⟩, claims⟩ := h
  refine ⟨⟨absent, port, present, fun _ => auth, ?_⟩, claims⟩
  rintro ⟨⟩
  obtain ⟨p, holder⟩ := yields rfl
  simp [portHolder, holderPort, defer, holder]

theorem safetyGivesBack_authorityFits (order : InRankOrder s.arb.claims) : authorityFits (safetyGivesBack s) :=
  ite_keeps (passOn_authorityFits _ order) (enterLockout_authorityFits s)

theorem yieldOutcome_authorityFits (h : authorityFits s) {p : Port} (holder : s.arb.holder = some (.port p)) :
    authorityFits (yieldOutcome s) := by
  have order := claims_inRankOrder h
  unfold yieldOutcome
  dsimp only
  split
  · exact giveTo_authorityFits _ _ (by simpa using order)
  · next claims => exact ite_keeps (toFree_authorityFits (by simpa using claims)) (retain_authorityFits h holder)

theorem makeHandover_authorityFits (d : Deferral) (h : authorityFits s)
    (yields : d = .yield → ∃ p, s.arb.holder = some (.port p)) : authorityFits (makeHandover d s) := by
  have order := claims_inRankOrder h
  unfold makeHandover
  split
  · split
    · exact ite_keeps (giveTo_authorityFits _ _ (by simpa using order)) (endDeferral_authorityFits h)
    · exact endDeferral_authorityFits h
  · exact passOn_authorityFits _ (by simpa using order)
  · obtain ⟨p, holder⟩ := yields rfl
    exact yieldOutcome_authorityFits h holder
  · exact passOn_authorityFits _ (by simpa using order)
  · exact safetyGivesBack_authorityFits order

theorem handOn_authorityFits (d : Deferral) (h : authorityFits s)
    (auth : s.arb.auth = .held ∨ s.arb.auth = .moving ∨ s.arb.auth = .yielding)
    (yields : d = .yield → ∃ p, s.arb.holder = some (.port p)) : authorityFits (handOn d s) :=
  ite_keeps (defer_authorityFits d h auth yields) (makeHandover_authorityFits d h yields)

theorem handoverCheck_authorityFits (h : authorityFits s) : authorityFits (handoverCheck s) := by
  unfold handoverCheck
  split
  · next d deferred =>
    refine ite_keeps (makeHandover_authorityFits d h ?_) h
    rintro rfl
    obtain ⟨⟨-, -, -, -, yields⟩, -⟩ := h
    have some := yields deferred
    unfold portHolder holderPort at some
    split at some
    · next p holder => exact ⟨p, holder⟩
    · cases some
  · exact h

/-! ### Reasons and boundaries -/

theorem enlistReason_authorityFits (k : LockReason) (h : authorityFits s) : authorityFits (enlistReason k s) :=
  authorityFits_of_same h (by simp [enlistReason]) (by simp [enlistReason]) (by simp [enlistReason]) (by simp [enlistReason])

theorem dropReason_authorityFits (k : LockReason) (h : authorityFits s) : authorityFits (dropReason k s) :=
  ite_keeps (authorityFits_of_same h (by simp) (by simp) (by simp) (by simp)) h

theorem lockOut_authorityFits (k : LockReason) (s : State) : authorityFits (lockOut k s) := by
  unfold lockOut
  exact ite_keeps (grantCrank_authorityFits _ _ _ _ inRankOrder_nil) (enterLockout_authorityFits _)

theorem addReason_authorityFits (k : LockReason) (h : authorityFits s) : authorityFits (addReason k s) := by
  have enlisted := enlistReason_authorityFits k h
  unfold addReason
  split
  · exact h
  dsimp only
  split
  · exact enterLockout_authorityFits _
  · exact enlisted
  · exact enlisted
  · exact lockOut_authorityFits _ _
  · exact enlisted
  · exact lockOut_authorityFits _ _

/-- While SAFETY holds authority a reason other than ESTOP joins the set and nothing else of the arbiter changes (R42). -/
theorem addReason_safety {k : LockReason} (other : k ≠ .estop) (holder : s.arb.holder = some .safety)
    (auth : s.arb.auth = .moving ∨ s.arb.auth = .manualPending) :
    addReason k s = if s.arb.reasons.has k then s else enlistReason k s := by
  unfold addReason
  rcases auth with moving | pending <;> cases k <;> simp_all

/-- What the Safety Monitor adds at the boundary of its group leaves authority as it stands, and the executor (R41). -/
theorem groupEnded_kept (ending : Ending) (holder : s.arb.holder = some .safety)
    (auth : s.arb.auth = .moving ∨ s.arb.auth = .manualPending) :
    (groupEnded ending s).arb.auth = s.arb.auth ∧ (groupEnded ending s).arb.holder = s.arb.holder
      ∧ (groupEnded ending s).arb.claims = s.arb.claims ∧ (groupEnded ending s).arb.deferred = s.arb.deferred
      ∧ (groupEnded ending s).exe = s.exe := by
  have added : ∀ k ≠ LockReason.estop, ∀ v : State, v.arb = s.arb → v.exe = s.exe →
      (addReason k v).arb.auth = s.arb.auth ∧ (addReason k v).arb.holder = s.arb.holder
        ∧ (addReason k v).arb.claims = s.arb.claims ∧ (addReason k v).arb.deferred = s.arb.deferred
        ∧ (addReason k v).exe = s.exe := by
    intro k other v arb exe
    rw [addReason_safety other (by rw [arb]; exact holder) (by rw [arb]; exact auth)]
    split <;> simp [enlistReason, arb, exe]
  unfold groupEnded
  dsimp only
  split
  · split
    · simp
    · exact added .interlock (by decide) _ rfl rfl
  · simp
  · split
    · exact added .stowFailed (by decide) _ rfl rfl
    · simp

theorem safetyBoundary_authorityFits (ending : Ending) (h : authorityFits s) (holder : s.arb.holder = some .safety) :
    authorityFits (safetyBoundary ending s) := by
  obtain ⟨auth', holder', claims', deferred', -⟩ := groupEnded_kept ending holder (safety_auth h holder)
  have ended : authorityFits (groupEnded ending s) := authorityFits_of_same h auth' holder' claims' deferred'
  have order := claims_inRankOrder ended
  unfold safetyBoundary
  dsimp only
  split
  · exact ite_keeps (grantCrank_authorityFits _ _ _ _ order) (grantCrank_authorityFits _ _ _ _ inRankOrder_nil)
  · next moving =>
    exact ite_keeps (handOn_authorityFits _ ended (Or.inr (Or.inl moving)) nofun) (enterLockout_authorityFits _)
  · exact ended

theorem takeBoundary_authorityFits (ending : Ending) (h : authorityFits s) : authorityFits (takeBoundary ending s) := by
  have order := claims_inRankOrder h
  unfold takeBoundary
  split
  · exact toHeld_authorityFits _ order
  · next yielding =>
    exact handOn_authorityFits _ h (Or.inr (Or.inr yielding)) (fun _ => holder_port h (Or.inr yielding))
  · exact grantCrank_authorityFits _ _ _ _ order
  · exact safetyBoundary_authorityFits ending h (by assumption)
  · exact h

end Sys2Proof.Machine
end

section
/-! The executor's part of the motion invariant: a drive is enabled only on an axis of the running entry, and no entry is active
during a closing (R3, R20, R62). -/

namespace Sys2Proof.Machine

variable {s t u : State}

/-- The executor's part of the motion invariant. -/
def exeFits (s : State) : Prop := drivesFit s ∧ (s.exe.closing.isSome = true → s.exe.active = none)

/-- Nothing is active and every drive is disabled. -/
def Idle (s : State) : Prop := s.exe.active = none ∧ ∀ a, (s.exe.drives.get a).enable = false

/-- Nothing is active or closing, and every drive is disabled. -/
def Still (s : State) : Prop := Idle s ∧ s.exe.closing = none

theorem drivesFit_of_idle (h : Idle s) : drivesFit s := by
  obtain ⟨-, disabled⟩ := h
  intro a enabled
  rw [disabled a] at enabled
  cases enabled

theorem exeFits_of_idle (h : Idle s) : exeFits s := ⟨drivesFit_of_idle h, fun _ => h.1⟩

theorem drivenNow_of_exe (exe : t.exe = s.exe) (a : Axis) : drivenNow t a = drivenNow s a := by
  simp only [drivenNow, activeEntry, isRunning, exe]

theorem exeFits_of_exe (h : exeFits s) (exe : t.exe = s.exe) : exeFits t := by
  simpa only [exeFits, drivesFit, drivenNow_of_exe exe, exe] using h

theorem idle_of_exe (h : Idle s) (exe : t.exe = s.exe) : Idle t := by simpa only [Idle, exe] using h

theorem still_of_exe (h : Still s) (exe : t.exe = s.exe) : Still t := by simpa only [Still, Idle, exe] using h

/-- Without an active entry every drive is disabled. -/
theorem idle_of_inactive (h : exeFits s) (inactive : activeEntry s = none) (active : s.exe.active = none) : Idle s := by
  obtain ⟨drives, -⟩ := h
  refine ⟨active, fun a => Bool.eq_false_iff.mpr fun enabled => ?_⟩
  have driven := drives a enabled
  simp [drivenNow, inactive] at driven

theorem activeEntry_none (active : s.exe.active = none) : activeEntry s = none := by simp [activeEntry, active]

theorem idle_of_resting (h : exeFits s) (active : s.exe.active = none) : Idle s :=
  idle_of_inactive h (activeEntry_none active) active

/-- The active entry is the head of the queue (R46). -/
theorem activeEntry_some {e : Entry} (h : activeEntry s = some e) :
    (∃ x, s.exe.active = some x) ∧ ∃ rest, s.exe.queue = e :: rest := by
  unfold activeEntry at h
  split at h
  · next active => exact ⟨Option.isSome_iff_exists.mp active, List.head?_eq_some_iff.mp h⟩
  · cases h

theorem closing_none_of_active (h : exeFits s) {x : Active} (active : s.exe.active = some x) : s.exe.closing = none := by
  obtain ⟨-, closing⟩ := h
  rw [← Option.not_isSome_iff_eq_none]
  intro some
  rw [closing some] at active
  cases active

/-! ### Drives -/

/-- A stop of axes leaves the others as they stand. -/
theorem stopAxes_exeFits (axes : Axes Bool) (h : exeFits s) : exeFits (stopAxes axes s) := by
  obtain ⟨drives, closing⟩ := h
  refine ⟨fun a enabled => ?_, closing⟩
  rw [stopAxes_drive] at enabled
  split at enabled
  · cases enabled
  · exact drives a enabled

/-- Once the axes of the active entry are stopped, every drive is disabled (R3). -/
theorem stopAxes_disabled {e : Entry} (h : exeFits s) (active : activeEntry s = some e) (a : Axis) :
    ((stopAxes e.motion.axes s).exe.drives.get a).enable = false := by
  rw [Bool.eq_false_iff]
  intro enabled
  rw [stopAxes_drive] at enabled
  split at enabled
  · cases enabled
  · next other =>
    obtain ⟨drives, -⟩ := h
    have driven := drives a enabled
    simp only [drivenNow, active, Bool.and_eq_true] at driven
    exact other driven.2

theorem setDrive_exeFits {a : Axis} {d : Drive} (h : exeFits s) (driven : d.enable = true → drivenNow s a = true) :
    exeFits (setDrive a d s) := by
  obtain ⟨drives, closing⟩ := h
  refine ⟨fun b enabled => ?_, closing⟩
  simp only [setDrive, State.setExe_exe, Axes.get_set] at enabled
  split at enabled
  · next same =>
    rw [same]
    exact driven enabled
  · exact drives b enabled

/-- Whether an axis is driven does not turn on phases and marks. -/
theorem updateActive_drivenNow {f : Active → Active} (execution : ∀ x, (f x).execution = x.execution) (s : State) (a : Axis) :
    drivenNow (updateActive f s) a = drivenNow s a := by
  cases active : s.exe.active <;> simp [drivenNow, activeEntry, isRunning, updateActive, active, execution]

theorem updateActive_exeFits {f : Active → Active} (execution : ∀ x, (f x).execution = x.execution) (h : exeFits s) :
    exeFits (updateActive f s) := by
  obtain ⟨drives, closing⟩ := h
  refine ⟨fun a enabled => ?_, fun some => ?_⟩
  · rw [updateActive_drivenNow execution]
    exact drives a enabled
  · simp [updateActive, closing some]

theorem setDrive_drivenNow (b : Axis) (d : Drive) (s : State) (a : Axis) : drivenNow (setDrive b d s) a = drivenNow s a := rfl

theorem setPhase_exeFits (a : Axis) (ph : AxisPhase) (h : exeFits s) : exeFits (setPhase a ph s) :=
  updateActive_exeFits (fun _ => rfl) h

theorem setPhase_drivenNow (b : Axis) (ph : AxisPhase) (s : State) (a : Axis) :
    drivenNow (setPhase b ph s) a = drivenNow s a :=
  updateActive_drivenNow (f := fun x => { x with phases := x.phases.set b ph }) (fun _ => rfl) s a

theorem driveAxis_exeFits {a : Axis} {target : Int} {rate : Rate} (h : exeFits s) (driven : drivenNow s a = true) :
    exeFits (driveAxis a target rate s) :=
  setPhase_exeFits _ _ (setDrive_exeFits h (fun _ => driven))

theorem driveAxis_drivenNow (b : Axis) (target : Int) (rate : Rate) (s : State) (a : Axis) :
    drivenNow (driveAxis b target rate s) a = drivenNow s a :=
  setPhase_drivenNow b _ (startDrive b target rate s) a

theorem settleAxis_exeFits {a : Axis} (h : exeFits s) (driven : drivenNow s a = true) : exeFits (settleAxis a s) :=
  setPhase_exeFits _ _ (setDrive_exeFits h (fun _ => driven))

theorem settleAxis_drivenNow (b : Axis) (s : State) (a : Axis) : drivenNow (settleAxis b s) a = drivenNow s a :=
  setPhase_drivenNow b _ (settleDrive b s) a

theorem followAxis_drivenNow (b : Axis) (target : Int) (rate : Rate) (s : State) (a : Axis) :
    drivenNow (followAxis b target rate s) a = drivenNow s a := by
  unfold followAxis
  split
  · rfl
  split
  · rfl
  · split
    · exact settleAxis_drivenNow ..
    · rfl
  · split
    · rfl
    · exact driveAxis_drivenNow ..

theorem followAxis_exeFits {a : Axis} {target : Int} {rate : Rate} (h : exeFits s) (driven : drivenNow s a = true) :
    exeFits (followAxis a target rate s) := by
  unfold followAxis
  split
  · exact h
  split
  · exact h
  · exact ite_keeps (settleAxis_exeFits h driven) h
  · exact ite_keeps h (driveAxis_exeFits h driven)

/-! ### Endings -/

theorem dropActive_idle {e : Entry} (h : exeFits s) (active : activeEntry s = some e) : Idle (dropActive e s) :=
  ⟨rfl, stopAxes_disabled h active⟩

theorem completeActive_exeFits (h : exeFits s) : exeFits (completeActive s) := by
  unfold completeActive
  split
  · exact h
  · next e active =>
    obtain ⟨-, disabled⟩ := dropActive_idle h active
    refine exeFits_of_idle (idle_of_exe (s := (dropActive e s).setExe _) ?_ (placeOrigin_frame ..).2.2.2.1)
    exact ⟨rfl, disabled⟩

/-- Once it has completed an entry is no longer active. -/
theorem finishScan_activeEntry (why : EndReason) (learned : Bool) (s : State) :
    activeEntry (finishScan why learned s) = activeEntry s := by
  simp only [activeEntry, finishScan_frame]

theorem failActive_exeFits (why : EndReason) (driven : Bool) (h : exeFits s) : exeFits (failActive why driven s) := by
  unfold failActive
  split
  · exact h
  · next e active =>
    have ended : exeFits (finishScan why false s) := exeFits_of_exe h (by simp)
    obtain ⟨-, disabled⟩ := dropActive_idle ended (by rw [finishScan_activeEntry]; exact active)
    refine exeFits_of_idle ⟨?_, ?_⟩
    · simp only [State.setExe_exe, tellSafety_frame, placeOrigin_frame]
      rfl
    · simpa using disabled

theorem suspendActive_exeFits (h : exeFits s) : exeFits (suspendActive s) := by
  unfold suspendActive
  split
  · exact h
  · next e active =>
    have disabled := stopAxes_disabled h active
    obtain ⟨⟨x, some⟩, -⟩ := activeEntry_some active
    have closing := closing_none_of_active h some
    refine ⟨fun a enabled => ?_, fun some => ?_⟩
    · simp only [placeAll_frame, State.setExe_exe] at enabled
      rw [disabled a] at enabled
      cases enabled
    · simp [stopAxes, closing] at some

/-- A halt leaves nothing active and every drive disabled (R65, R66). -/
theorem haltAll_idle (why : EndReason) (h : exeFits s) : Idle (haltAll why s) := by
  have ended : exeFits (finishScan why false s) := exeFits_of_exe h (by simp)
  unfold haltAll
  dsimp only
  split
  · next e active => exact ⟨rfl, stopAxes_disabled ended (by rw [finishScan_activeEntry]; exact active)⟩
  · next inactive =>
    refine ⟨rfl, fun a => Bool.eq_false_iff.mpr fun enabled => ?_⟩
    obtain ⟨drives, -⟩ := ended
    have driven := drives a enabled
    simp [drivenNow, finishScan_activeEntry, inactive] at driven

theorem haltByOrder_still (why : EndReason) (h : exeFits s) : Still (haltByOrder why s) := by
  obtain ⟨active, disabled⟩ := haltAll_idle why h
  exact ⟨⟨active, disabled⟩, rfl⟩

theorem haltByHolder_exeFits (h : exeFits s) : exeFits (haltByHolder s) := by
  obtain ⟨active, disabled⟩ := haltAll_idle .halted h
  unfold haltByHolder
  split
  · exact exeFits_of_idle ⟨active, disabled⟩
  · exact exeFits_of_idle ⟨active, disabled⟩

/-! ### Scans -/

/-- The running entry drives pan and tilt (R31). -/
def Scanning (s : State) : Prop := drivenNow s .pan = true ∧ drivenNow s .tilt = true

theorem scanning_of_exe (h : Scanning s) (exe : t.exe = s.exe) : Scanning t := by
  simpa only [Scanning, drivenNow_of_exe exe] using h

theorem completeScan_exeFits (h : exeFits s) : exeFits (completeScan s) := by
  unfold completeScan
  split
  · exact h
  split
  · exact completeActive_exeFits (exeFits_of_exe h (by simp))
  · exact completeActive_exeFits (exeFits_of_exe h (by simp))

theorem arriveScan_exeFits (h : exeFits s) : exeFits (arriveScan s) := by
  unfold arriveScan
  split
  · exact h
  dsimp only
  have stopped : exeFits (updateActive (fun y => { y with phases := Axes.all .idle }) (stopAxes panAndTilt s)) :=
    updateActive_exeFits (fun _ => rfl) (stopAxes_exeFits _ h)
  split
  · exact exeFits_of_exe stopped rfl
  · exact completeScan_exeFits stopped
  · exact h
  · exact h

theorem driveScanAxis_exeFits {a : Axis} {target : Int} (h : exeFits s) (driven : drivenNow s a = true) :
    exeFits (driveScanAxis a target s) :=
  ite_keeps (setPhase_exeFits _ _ (setDrive_exeFits h nofun)) (driveAxis_exeFits h driven)

theorem driveScanAxis_drivenNow (b : Axis) (target : Int) (s : State) (a : Axis) :
    drivenNow (driveScanAxis b target s) a = drivenNow s a := by
  unfold driveScanAxis
  split
  · exact setPhase_drivenNow b _ (stopDrive b s) a
  · exact driveAxis_drivenNow ..

theorem driveScan_exeFits (target : PanTilt) (h : exeFits s) (scanning : Scanning s) : exeFits (driveScan target s) := by
  obtain ⟨pan, tilt⟩ := scanning
  have driven : exeFits (driveScanAxis .tilt target.tilt (driveScanAxis .pan target.pan s)) :=
    driveScanAxis_exeFits (driveScanAxis_exeFits h pan) (by rw [driveScanAxis_drivenNow]; exact tilt)
  unfold driveScan
  dsimp only
  exact ite_keeps (arriveScan_exeFits driven) driven

theorem scanMove_exeFits (phase : ScanPhase) (target : PanTilt) (h : exeFits s) (scanning : Scanning s) :
    exeFits (scanMove phase target s) := by
  unfold scanMove
  split
  · exact failActive_exeFits _ _ h
  · exact driveScan_exeFits target (exeFits_of_exe h rfl) (scanning_of_exe scanning rfl)

theorem scanStep_exeFits (q : ScanParams) (h : exeFits s) (scanning : Scanning s) : exeFits (scanStep q s) := by
  unfold scanStep
  split
  · exact h
  · exact ite_keeps (failActive_exeFits _ _ (exeFits_of_exe h rfl))
      (scanMove_exeFits _ _ (exeFits_of_exe h rfl) (scanning_of_exe scanning rfl))

theorem scanBoundary_exeFits (q : ScanParams) (h : exeFits s) (scanning : Scanning s) : exeFits (scanBoundary q s) := by
  have completed : ∀ why, exeFits (completeActive (finishScan why false s)) := fun why =>
    completeActive_exeFits (exeFits_of_exe h (by simp))
  unfold scanBoundary
  split
  · refine ite_keeps (completed _) (ite_keeps (completed _) (ite_keeps (scanStep_exeFits q h scanning) ?_))
    split
    · exact scanMove_exeFits _ _ h scanning
    · exact h
  · exact h

theorem takeSample_exeFits (level : Int) (h : exeFits s) (scanning : Scanning s) : exeFits (takeSample level s) := by
  unfold takeSample
  split
  · split
    · exact scanBoundary_exeFits _ (exeFits_of_exe h (by simp)) (scanning_of_exe scanning (by simp))
    · exact h
  · exact h

theorem resumeScan_exeFits (h : exeFits s) (scanning : Scanning s) : exeFits (resumeScan s) := by
  unfold resumeScan
  split
  · exact h
  split
  · exact driveScan_exeFits _ h scanning
  · exact driveScan_exeFits _ h scanning
  · exact exeFits_of_exe h rfl
  · exact exeFits_of_exe h rfl

/-! ### Starts and restarts -/

theorem startMove_exeFits {a : Axis} {target : Int} {rate : Rate} (h : exeFits s) (driven : drivenNow s a = true) :
    exeFits (startMove a target rate s) := by
  have directed : exeFits (setDirection a target s) := setDrive_exeFits h (fun enable => by
    obtain ⟨drives, -⟩ := h
    exact drives a enable)
  exact ite_keeps (ite_keeps (completeActive_exeFits directed) (settleAxis_exeFits directed driven))
    (driveAxis_exeFits h driven)

/-- The running entry drives its own axes. -/
theorem drivenNow_running {x : Active} {e : Entry} {rest : List Entry} (active : s.exe.active = some x)
    (running : x.execution = .running) (queue : s.exe.queue = e :: rest) (a : Axis) :
    drivenNow s a = e.motion.axes.get a := by
  simp [drivenNow, activeEntry, isRunning, active, running, queue]

/-- An entry of this motion is running. -/
def Runs (m : Motion) (s : State) : Prop := ∀ a, m.axes.get a = true → drivenNow s a = true

theorem startEntry_exeFits {e : Entry} (h : exeFits s) (runs : Runs e.motion s) : exeFits (startEntry e s) := by
  unfold startEntry
  split
  · next motion => exact startMove_exeFits h (runs _ (by simp [motion, Motion.axes, onlyAxis]))
  · next motion => exact startMove_exeFits h (runs _ (by simp [motion, Motion.axes, onlyAxis]))
  · exact exeFits_of_exe h rfl

theorem scanning_of_runs {m : Motion} (noAxis : m.axis = none) (runs : Runs m s) : Scanning s := by
  cases m with
  | moveTo a v => cases noAxis
  | moveBy a v => cases noAxis
  | scan q => exact ⟨runs .pan rfl, runs .tilt rfl⟩

theorem restartActive_exeFits (seconds : Nat) (h : exeFits s) : exeFits (restartActive seconds s) := by
  unfold restartActive
  split
  · exact h
  · next e active =>
    obtain ⟨⟨x, present⟩, rest, queue⟩ := activeEntry_some active
    have disabledElse : ∀ a, (s.exe.drives.get a).enable = true → e.motion.axes.get a = true := by
      intro a enabled
      obtain ⟨drives, -⟩ := h
      have driven := drives a enabled
      simp only [drivenNow, active, Bool.and_eq_true] at driven
      exact driven.2
    have closing := closing_none_of_active h present
    have resumed : ∀ v : State, v.exe.active = some { x with execution := .running, phases := Axes.all .idle } →
        v.exe.queue = e :: rest → v.exe.closing = none → v.exe.drives = s.exe.drives → exeFits v ∧ Runs e.motion v := by
      intro v active queue closing drives
      have driven := drivenNow_running active rfl queue
      refine ⟨⟨fun a enabled => ?_, fun outstanding => ?_⟩, fun a axis => (driven a).trans axis⟩
      · rw [driven]
        rw [drives] at enabled
        exact disabledElse a enabled
      · rw [closing] at outstanding
        cases outstanding
    dsimp only
    obtain ⟨fit, runs⟩ := resumed (placeAll (.supplyResumed e.tag e.origin e.purpose seconds)
      (s.setExe
        { s.exe with
          suspension := none
          active := s.exe.active.map (fun x => { x with execution := .running, phases := Axes.all .idle }) }))
      (by simp [present]) (by simp [queue]) (by simp [closing]) (by simp)
    split
    · next scan => exact resumeScan_exeFits fit (scanning_of_runs scan.1 runs)
    · exact startEntry_exeFits fit runs

theorem followActive_exeFits (h : exeFits s) : exeFits (followActive s) := by
  unfold followActive
  split
  · next running =>
    split
    · exact h
    · next e active =>
      have runs : Runs e.motion s := fun a axis => by simp [drivenNow, active, running, axis]
      split
      · next a axis =>
        have driven : drivenNow s a = true := by
          refine runs a ?_
          cases motion : e.motion <;> simp_all [Motion.axis, Motion.axes, onlyAxis]
        have followed : exeFits (followAxis a (e.target.getD 0) e.rate s) := followAxis_exeFits h driven
        unfold followMove
        dsimp only
        exact ite_keeps (completeActive_exeFits followed) followed
      · next x noAxis _ =>
        obtain ⟨pan, tilt⟩ := scanning_of_runs noAxis runs
        unfold followScan
        split
        · exact h
        · exact h
        · have followed : exeFits (followAxis .tilt x.target.tilt .slow (followAxis .pan x.target.pan .slow s)) :=
            followAxis_exeFits (followAxis_exeFits h pan) (by rw [followAxis_drivenNow]; exact tilt)
          exact ite_keeps (arriveScan_exeFits followed) followed
      · exact h
  · exact h

/-- A discard keeps the active entry at the head of the queue (R64). -/
theorem discardWaiting_exeFits (crank : Bool) (h : exeFits s) : exeFits (discardWaiting crank s) := by
  cases active : s.exe.active with
  | none =>
    obtain ⟨-, disabled⟩ := idle_of_resting h active
    exact exeFits_of_idle ⟨by simp [discardWaiting, active], disabled⟩
  | some x =>
    have closing := closing_none_of_active h active
    obtain ⟨drives, -⟩ := h
    have same : ∀ a, drivenNow (discardWaiting crank s) a = drivenNow s a := by
      intro a
      cases queue : s.exe.queue with
      | nil => cases crank <;> simp [drivenNow, activeEntry, discardWaiting, keptByDiscard, active, queue]
      | cons e rest => cases crank <;> simp [drivenNow, activeEntry, isRunning, discardWaiting, keptByDiscard, active, queue]
    refine ⟨fun a enabled => (same a).trans (drives a enabled), fun some => ?_⟩
    simp [discardWaiting, closing] at some

end Sys2Proof.Machine
end

section
/-! The motion invariant through the arbiter, the queue and the Safety Monitor (R3, R20, R23, R34, R62, R79). -/

namespace Sys2Proof.Machine

variable {s t u : State}

/-! ### The invariant by authority state -/

/-- The holder's work goes on: an entry may be active or closing, and nothing is deferred (R20). -/
def Working (s : State) : Prop :=
  (s.arb.auth = .moving ∨ s.arb.auth = .yielding ∨ s.arb.auth = .manualPending) ∧ s.arb.deferred = none

/-- An entry may become active: a holder has authority and no handover is deferred (R20, R34). -/
def Ready (s : State) : Prop :=
  (s.arb.auth = .held ∨ s.arb.auth = .moving ∨ s.arb.auth = .yielding ∨ s.arb.auth = .manualPending) ∧ s.arb.deferred = none

theorem ready_of_working (h : Working s) : Ready s := ⟨Or.inr h.1, h.2⟩

theorem motionFits_of_still (authority : authorityFits s) (grant : grantFollows s) (still : Still s) : motionFits s := by
  obtain ⟨⟨active, disabled⟩, closing⟩ := still
  refine ⟨authority, grant, drivesFit_of_idle ⟨active, disabled⟩, ?_, ?_, fun _ => ⟨active, closing⟩, ?_⟩
  · rw [active]
    nofun
  · rw [closing]
    nofun
  · rw [closing]
    nofun

theorem motionFits_of_working (authority : authorityFits s) (grant : grantFollows s) (fit : exeFits s) (working : Working s) :
    motionFits s := by
  obtain ⟨drives, closing⟩ := fit
  obtain ⟨auth, deferred⟩ := working
  refine ⟨authority, grant, drives, fun _ => auth, fun some => ⟨closing some, ?_⟩, ?_, ?_⟩
  · rcases auth with h | h | h <;> simp [h]
  · rw [deferred]
    nofun
  · rcases auth with h | h | h <;> simp [h]

/-- In MANUAL a closing left is a boundary (R81). -/
theorem motionFits_of_manual (authority : authorityFits s) (grant : grantFollows s) (idle : Idle s) (auth : s.arb.auth = .manual)
    (boundary : ∀ c, s.exe.closing = some c → c.ending.boundary = true) : motionFits s := by
  refine ⟨authority, grant, drivesFit_of_idle idle, ?_, ?_, ?_, fun _ => boundary⟩
  · rw [idle.1]
    nofun
  · exact fun _ => ⟨idle.1, by simp [auth]⟩
  · rw [deferred_none authority (by simp [auth])]
    nofun

theorem motionFits_authority (h : motionFits s) : authorityFits s := h.1

theorem motionFits_grant (h : motionFits s) : grantFollows s := h.2.1

theorem motionFits_exe (h : motionFits s) : exeFits s := by
  obtain ⟨-, -, drives, -, closing, -, -⟩ := h
  exact ⟨drives, fun some => (closing some).1⟩

theorem motionFits_claims (h : motionFits s) : InRankOrder s.arb.claims := claims_inRankOrder (motionFits_authority h)

theorem motionFits_of_same (h : motionFits s) (auth : t.arb.auth = s.arb.auth) (holder : t.arb.holder = s.arb.holder)
    (claims : t.arb.claims = s.arb.claims) (deferred : t.arb.deferred = s.arb.deferred) (grant : t.arb.grant = s.arb.grant)
    (crankEnd : t.arb.crankEnd = s.arb.crankEnd) (exe : t.exe = s.exe) : motionFits t := by
  have driven := fun a => drivenNow_of_exe exe a
  simpa only [motionFits, authorityFits, holderFits, claimsFit, portHolder, holderPort, grantFollows, drivesFit, activityFits, auth,
    holder, claims, deferred, grant, crankEnd, exe, driven] using h

theorem motionFits_of_arb (h : motionFits s) (arb : t.arb = s.arb) (exe : t.exe = s.exe) : motionFits t :=
  motionFits_of_same h (by rw [arb]) (by rw [arb]) (by rw [arb]) (by rw [arb]) (by rw [arb]) (by rw [arb]) exe

theorem working_of_active (h : motionFits s) (active : s.exe.active.isSome = true) : Working s := by
  obtain ⟨-, -, -, moves, -, waits, -⟩ := h
  refine ⟨moves active, ?_⟩
  rw [← Option.not_isSome_iff_eq_none]
  intro deferred
  rw [(waits deferred).1] at active
  cases active

/-- The executor has worked on the active entry, and the arbiter stands. -/
theorem motionFits_ran (h : motionFits s) (active : s.exe.active.isSome = true) (arb : t.arb = s.arb) (fit : exeFits t) :
    motionFits t := by
  have working := working_of_active h active
  refine motionFits_of_working ?_ (grantFollows_of_arb (motionFits_grant h) arb) fit ?_
  · exact authorityFits_of_same (motionFits_authority h) (by rw [arb]) (by rw [arb]) (by rw [arb]) (by rw [arb])
  · simpa only [Working, arb] using working

theorem still_of_resting (h : motionFits s) (auth : s.arb.auth = .free ∨ s.arb.auth = .held ∨ s.arb.auth = .lockout) :
    Still s := by
  have fit := motionFits_exe h
  obtain ⟨-, -, -, moves, closing, -, -⟩ := h
  have active : s.exe.active = none := by
    rw [← Option.not_isSome_iff_eq_none]
    intro some
    have working := moves some
    rcases auth with h | h | h <;> simp [h] at working
  refine ⟨idle_of_resting fit active, ?_⟩
  rw [← Option.not_isSome_iff_eq_none]
  intro some
  have working := (closing some).2
  rcases auth with h | h | h <;> simp [h] at working

theorem still_of_deferred (h : motionFits s) (deferred : s.arb.deferred.isSome = true) : Still s := by
  have fit := motionFits_exe h
  obtain ⟨-, -, -, -, -, waits, -⟩ := h
  obtain ⟨active, closing⟩ := waits deferred
  exact ⟨idle_of_resting fit active, closing⟩

theorem idle_of_manual (h : motionFits s) (auth : s.arb.auth = .manual) : Idle s := by
  have fit := motionFits_exe h
  obtain ⟨-, -, -, moves, -⟩ := h
  refine idle_of_resting fit ?_
  rw [← Option.not_isSome_iff_eq_none]
  intro some
  have working := moves some
  simp [auth] at working

/-- Once its closing is reported, nothing is active or closing (R62). -/
theorem still_reported (h : motionFits s) {c : Closing} (closing : s.exe.closing = some c) :
    Still (s.setExe { s.exe with closing := none }) := by
  have fit := motionFits_exe h
  have active := fit.2 (by rw [closing]; rfl)
  obtain ⟨-, disabled⟩ := idle_of_resting fit active
  exact ⟨⟨active, disabled⟩, rfl⟩

/-! ### Lockout, handovers, boundaries -/

theorem enterLockout_still (h : Idle s) : Still (enterLockout s) := by
  have same := refuseClaims_frame s.arb.claims s
  refine ⟨?_, rfl⟩
  simpa [Idle, enterLockout, same] using h

theorem enterLockout_motionFits (h : Idle s) : motionFits (enterLockout s) :=
  motionFits_of_still (enterLockout_authorityFits s) (enterLockout_grantFollows s) (enterLockout_still h)

theorem grantCrank_motionFits (lh ld bh bd : Nat) (order : InRankOrder s.arb.claims) (idle : Idle s)
    (boundary : ∀ c, s.exe.closing = some c → c.ending.boundary = true) : motionFits (grantCrank lh ld bh bd s) := by
  refine motionFits_of_manual (grantCrank_authorityFits _ _ _ _ order) (grantCrank_grantFollows ..) (idle_of_exe idle (by simp))
    ?_ (by simpa using boundary)
  simp [grantCrank]

theorem grantCrank_still_motionFits (lh ld bh bd : Nat) (order : InRankOrder s.arb.claims) (still : Still s) :
    motionFits (grantCrank lh ld bh bd s) :=
  grantCrank_motionFits _ _ _ _ order still.1 (by rw [still.2]; nofun)

theorem passOn_exe (reason : AuthReason) (s : State) : (passOn reason s).exe = s.exe := by simp

theorem safetyGivesBack_still (h : Still s) : Still (safetyGivesBack s) :=
  ite_keeps (still_of_exe h (by simp)) (enterLockout_still h.1)

theorem yieldOutcome_still (h : Still s) : Still (yieldOutcome s) := by
  unfold yieldOutcome
  dsimp only
  split
  · exact still_of_exe h (by simp)
  · exact ite_keeps (still_of_exe h (by simp)) (still_of_exe h (by simp))

theorem makeHandover_still (d : Deferral) (h : Still s) : Still (makeHandover d s) := by
  unfold makeHandover
  split
  · split
    · exact ite_keeps (still_of_exe h (by simp)) (still_of_exe h (by simp))
    · exact still_of_exe h (by simp)
  · exact still_of_exe h (by simp)
  · exact yieldOutcome_still h
  · exact still_of_exe h (by simp)
  · exact safetyGivesBack_still h

theorem handOn_still (d : Deferral) (h : Still s) : Still (handOn d s) := ite_keeps h (makeHandover_still d h)

theorem handoverCheck_motionFits (h : motionFits s) : motionFits (handoverCheck s) := by
  cases deferred : s.arb.deferred with
  | none => simpa only [handoverCheck, deferred] using h
  | some d =>
    have still := still_of_deferred h (by rw [deferred]; rfl)
    refine motionFits_of_still (handoverCheck_authorityFits (motionFits_authority h))
      (handoverCheck_grantFollows (motionFits_grant h)) ?_
    simp only [handoverCheck, deferred]
    exact ite_keeps (makeHandover_still d still) still

theorem safetyBoundary_still_motionFits (ending : Ending) (authority : authorityFits s) (grant : grantFollows s) (still : Still s)
    (holder : s.arb.holder = some .safety) : motionFits (safetyBoundary ending s) := by
  obtain ⟨auth', holder', claims', deferred', exe⟩ := groupEnded_kept ending holder (safety_auth authority holder)
  have ended : Still (groupEnded ending s) := still_of_exe still exe
  have authority' := authorityFits_of_same authority auth' holder' claims' deferred'
  have order := claims_inRankOrder authority'
  by_cases pending : (groupEnded ending s).arb.auth = .manualPending
  · simp only [safetyBoundary, pending]
    exact ite_keeps (grantCrank_still_motionFits _ _ _ _ order ended)
      (grantCrank_still_motionFits _ _ _ _ inRankOrder_nil (enterLockout_still ended.1))
  · refine motionFits_of_still (safetyBoundary_authorityFits ending authority holder) (safetyBoundary_grantFollows ending grant) ?_
    unfold safetyBoundary
    dsimp only
    split
    · next again => exact absurd again pending
    · exact ite_keeps (handOn_still _ ended) (enterLockout_still ended.1)
    · exact ended

theorem takeBoundary_motionFits (ending : Ending) (authority : authorityFits s) (grant : grantFollows s) (still : Still s) :
    motionFits (takeBoundary ending s) := by
  have order := claims_inRankOrder authority
  by_cases safety : s.arb.holder = some .safety
  · have boundary := safetyBoundary_still_motionFits ending authority grant still safety
    unfold takeBoundary
    rcases safety_auth authority safety with moving | pending
    · simpa only [moving, safety] using boundary
    · simpa only [pending, safety] using boundary
  · unfold takeBoundary
    split
    · next moving _ =>
      exact motionFits_of_still (toHeld_authorityFits _ order) (toHeld_grantFollows _ (ungranted_of_follows grant (by simp [moving])))
        (still_of_exe still (by simp))
    · next yielding =>
      exact motionFits_of_still
        (handOn_authorityFits _ authority (Or.inr (Or.inr yielding)) (fun _ => holder_port authority (Or.inr yielding)))
        (handOn_grantFollows _ grant (by simp [yielding])) (handOn_still _ still)
    · exact grantCrank_still_motionFits _ _ _ _ order still
    · exact absurd (by assumption) safety
    · exact motionFits_of_still authority grant still

/-! ### Lockout reasons -/

theorem takeOutstanding_exe (s : State) : (takeOutstanding s).exe = s.exe := by
  unfold takeOutstanding
  split <;> simp [enlistReason]

theorem lockOut_motionFits (k : LockReason) (fit : exeFits s) : motionFits (lockOut k s) := by
  have halted : Still (haltByOrder (haltReason k) (takeOutstanding s)) :=
    haltByOrder_still _ (exeFits_of_exe fit (takeOutstanding_exe s))
  have cut : ∀ event reason n m, Still (groupCut (placeAuthority s.arb.holder event reason n m
      (haltByOrder (haltReason k) (takeOutstanding s)))) := fun _ _ _ _ => still_of_exe halted (by simp)
  have locked := fun event reason n m => enterLockout_motionFits (cut event reason n m).1
  unfold lockOut
  exact ite_keeps (grantCrank_still_motionFits _ _ _ _ inRankOrder_nil (enterLockout_still (cut _ _ _ _).1)) (locked _ _ _ _)

theorem enlistReason_motionFits (k : LockReason) (h : motionFits s) : motionFits (enlistReason k s) :=
  motionFits_of_same h (by simp [enlistReason]) (by simp [enlistReason]) (by simp [enlistReason]) (by simp [enlistReason])
    (by simp [enlistReason]) (by simp [enlistReason]) (by simp [enlistReason])

theorem dropReason_motionFits (k : LockReason) (h : motionFits s) : motionFits (dropReason k s) :=
  ite_keeps (motionFits_of_same h (by simp) (by simp) (by simp) (by simp) (by simp) (by simp) (by simp)) h

theorem addReason_motionFits (k : LockReason) (h : motionFits s) : motionFits (addReason k s) := by
  have enlisted := enlistReason_motionFits k h
  unfold addReason
  split
  · exact h
  dsimp only
  split
  · have still := still_of_resting h (Or.inl (by assumption))
    exact enterLockout_motionFits (idle_of_exe still.1 (by simp [enlistReason]))
  · exact enlisted
  · exact enlisted
  · exact lockOut_motionFits _ (motionFits_exe enlisted)
  · exact enlisted
  · exact lockOut_motionFits _ (motionFits_exe enlisted)

/-! ### Endings of the active entry -/

theorem failActive_inactive (why : EndReason) (driven : Bool) (active : s.exe.active = none) : failActive why driven s = s := by
  simp [failActive, activeEntry_none active]

theorem failActive_motionFits (why : EndReason) (driven : Bool) (h : motionFits s) : motionFits (failActive why driven s) := by
  cases active : s.exe.active with
  | none =>
    rw [failActive_inactive why driven active]
    exact h
  | some x => exact motionFits_ran h (by rw [active]; rfl) (by simp) (failActive_exeFits why driven (motionFits_exe h))

theorem suspendActive_motionFits (h : motionFits s) : motionFits (suspendActive s) := by
  cases active : s.exe.active with
  | none =>
    have same : suspendActive s = s := by simp [suspendActive, activeEntry_none active]
    rw [same]
    exact h
  | some x => exact motionFits_ran h (by rw [active]; rfl) (by simp) (suspendActive_exeFits (motionFits_exe h))

theorem abandonForCrank_motionFits (h : motionFits s) : motionFits (abandonForCrank s) := by
  unfold abandonForCrank
  split
  · exact h
  · next e active =>
    have ended : exeFits (finishScan .endedManual false s) := exeFits_of_exe (motionFits_exe h) (by simp)
    obtain ⟨-, disabled⟩ := dropActive_idle ended (by rw [finishScan_activeEntry]; exact active)
    refine grantCrank_motionFits _ _ _ _ ?_ ?_ ?_
    · simpa using motionFits_claims h
    · refine idle_of_exe (s := (dropActive e (finishScan .endedManual false s)).setExe _) ?_ (groupCut_frame _).2.2.2.1
      exact ⟨rfl, disabled⟩
    · intro c closing
      simp only [groupCut_frame, State.setExe_exe, Option.some.injEq] at closing
      rw [← closing]

theorem suspendOrAbandon_motionFits (h : motionFits s) : motionFits (suspendOrAbandon s) :=
  ite_keeps (abandonForCrank_motionFits (suspendActive_motionFits h)) (suspendActive_motionFits h)

/-! ### Activation -/

theorem reportActivation_authorityFits (h : authorityFits s) : authorityFits (reportActivation s) := by
  unfold reportActivation
  split
  · next held =>
    obtain ⟨p, holder⟩ := holder_port h (Or.inl held)
    obtain ⟨-, claim⟩ := port_facts h holder
    exact authorityFits_port (p := p) (Or.inr (Or.inl rfl)) holder (fun _ => nofun) (claims_inRankOrder (s := s) h) claim
  · exact h

theorem reportActivation_working (h : Ready s) : Working (reportActivation s) := by
  obtain ⟨auth, deferred⟩ := h
  unfold reportActivation
  split
  · exact ⟨Or.inl rfl, deferred⟩
  · next other => exact ⟨auth.resolve_left other, deferred⟩

theorem becomeActive_exe (e : Entry) (rest : List Entry) (s : State) :
    (becomeActive e rest s).exe =
      { s.exe with
        queue := resolved e s :: rest
        active :=
          some
            { execution := .running, mastClass := classAtStart (resolved e s) s, phases := Axes.all .idle
              yieldDue := false, crankDue := false } } := by
  simp [becomeActive]

theorem becomeActive_motionFits {e : Entry} {rest : List Entry} (h : motionFits s) (ready : Ready s)
    (active : s.exe.active = none) (closing : s.exe.closing = none) : motionFits (becomeActive e rest s) := by
  obtain ⟨-, disabled⟩ := idle_of_resting (motionFits_exe h) active
  refine motionFits_of_working (reportActivation_authorityFits (s := s.setExe _) (motionFits_authority (s := s) h))
    (reportActivation_grantFollows (s := s.setExe _) (motionFits_grant (s := s) h)) ?_ (reportActivation_working (s := s.setExe _) ready)
  refine ⟨fun a enabled => ?_, fun some => ?_⟩
  · rw [becomeActive_exe] at enabled
    rw [disabled a] at enabled
    cases enabled
  · rw [becomeActive_exe, closing] at some
    cases some

theorem becomeActive_runs (e : Entry) (rest : List Entry) (s : State) : Runs (resolved e s).motion (becomeActive e rest s) := by
  intro a axis
  rw [drivenNow_running (x := _) (by rw [becomeActive_exe]) rfl (by rw [becomeActive_exe])]
  exact axis

theorem activate_motionFits (h : motionFits s) (ready : Ready s) : motionFits (activate s) := by
  rcases activate_cases s with same | ⟨e, rest, active, closing, -, begun⟩
  · rw [same]
    exact h
  have began : motionFits (becomeActive e rest s) := becomeActive_motionFits h ready active closing
  rcases begun with ⟨why, -, failed⟩ | ⟨-, -, started⟩ | ⟨-, -, suspended⟩
  · rw [failed]
    exact failActive_motionFits _ _ began
  · rw [started]
    refine motionFits_ran began (by rw [becomeActive_exe]; rfl) (by simp) ?_
    exact startEntry_exeFits (motionFits_exe began) (becomeActive_runs e rest s)
  · rw [suspended]
    exact suspendOrAbandon_motionFits began

/-- A report after which the queue goes on leaves a holder at work (R31). -/
theorem ready_of_goesOn (h : motionFits s) {c : Closing} (closing : s.exe.closing = some c)
    (goes : goesOn c.ending (s.setExe { s.exe with closing := none }) = true) : Ready (s.setExe { s.exe with closing := none }) := by
  obtain ⟨-, -, -, -, closes, waits, manual⟩ := h
  obtain ⟨-, auth⟩ := closes (by rw [closing]; rfl)
  refine ⟨?_, ?_⟩
  · rcases auth with moving | yielding | pending | cranked
    · exact Or.inr (Or.inl moving)
    · exact Or.inr (Or.inr (Or.inl yielding))
    · exact Or.inr (Or.inr (Or.inr pending))
    · have boundary := manual cranked c closing
      simp [goesOn, boundary, cranked] at goes
  · show s.arb.deferred = none
    rw [← Option.not_isSome_iff_eq_none]
    intro deferred
    rw [(waits deferred).2] at closing
    cases closing

theorem runQueue_motionFits (n : Nat) (h : motionFits s) : motionFits (runQueue n s) := by
  induction n generalizing s with
  | zero => exact h
  | succ n ih =>
    rcases runQueue_cases n s with same | ⟨c, closing, -, reported⟩
    · rw [same]
      exact h
    · have still := still_reported h closing
      have authority : authorityFits (s.setExe { s.exe with closing := none }) := motionFits_authority (s := s) h
      have grant : grantFollows (s.setExe { s.exe with closing := none }) := motionFits_grant (s := s) h
      rw [reported]
      split
      · next goes => exact ih (activate_motionFits (motionFits_of_still authority grant still) (ready_of_goesOn h closing goes))
      · exact takeBoundary_motionFits _ authority grant still

theorem advance_motionFits (h : motionFits s) : motionFits (advance s) := runQueue_motionFits 24 h

theorem goAhead_motionFits (h : motionFits s) (ready : Ready s) : motionFits (goAhead s) :=
  advance_motionFits (activate_motionFits h ready)

theorem takeSafety_motionFits (group : SafetyGroup) (ds : List Draft) (fit : exeFits s) (order : InRankOrder s.arb.claims)
    (ungranted : Ungranted s) : motionFits (takeSafety group ds s) := by
  have halted : Still (haltByOrder .safety s) := haltByOrder_still _ fit
  have auth : ∀ c : Prop, ∀ [Decidable c], (if c then AuthState.manualPending else .moving) = .moving
      ∨ (if c then AuthState.manualPending else .moving) = .manualPending := by
    intro c _
    split <;> simp
  unfold takeSafety
  refine goAhead_motionFits (motionFits_of_still ?_ ?_ ?_) ⟨?_, rfl⟩
  · exact authorityFits_safety (auth _) rfl nofun nofun (by simpa using order)
  · refine grantFollows_of_ungranted (by simpa [Ungranted] using ungranted) ?_
    simp only [append_frame, State.setSafe_arb, State.setArb_arb]
    split <;> simp
  · obtain ⟨⟨active, disabled⟩, closing⟩ := halted
    refine ⟨⟨?_, ?_⟩, ?_⟩
    · simpa [append] using active
    · simpa [append] using disabled
    · simpa [append] using closing
  · rcases auth (s.arb.auth = .manualPending) with moving | pending
    · exact Or.inr (Or.inl moving)
    · exact Or.inr (Or.inr (Or.inr pending))

/-! ### The park rule -/

theorem parkRuleAct_motionFits (position : Axes Int) (h : motionFits s) (auth : s.arb.auth ≠ .manual) :
    motionFits (parkRuleAct position s) :=
  ite_keeps (addReason_motionFits _ h)
    (ite_keeps (takeSafety_motionFits _ _ (motionFits_exe h) (motionFits_claims h) (ungranted_of_follows (motionFits_grant h) auth))
      (addReason_motionFits _ h))

theorem parkRuleAlarms_motionFits (position : Axes Int) (alarmOnly : Bool) (h : motionFits s) :
    motionFits (parkRuleAlarms position alarmOnly s) :=
  motionFits_of_arb h (by simp) (by simp)

theorem parkRule_motionFits (position : Axes Int) (h : motionFits s) : motionFits (parkRule position false s) := by
  unfold parkRule
  dsimp only
  refine parkRuleAlarms_motionFits _ _ ?_
  split
  · exact h
  · next acts =>
    have auth : s.arb.auth ≠ .manual := fun manual => acts (by simp [manual])
    exact ite_keeps (ite_keeps (addReason_motionFits _ h) h) (parkRuleAct_motionFits _ h auth)

theorem afterRemoval_motionFits (h : motionFits s) : motionFits (afterRemoval s) := by
  unfold afterRemoval
  split
  · next emptied =>
    obtain ⟨lockout, -⟩ := emptied
    have freed : motionFits (toFree s) :=
      motionFits_of_still (toFree_authorityFits (claims_empty (motionFits_authority h) (Or.inr lockout)))
        (toFree_grantFollows (ungranted_of_follows (motionFits_grant h) (by simp [lockout])))
        (still_of_exe (still_of_resting h (Or.inr (Or.inr lockout))) (by simp))
    exact ite_keeps freed (parkRule_motionFits _ freed)
  · exact h

/-! ### The end of a crank -/

theorem leaveManual_motionFits (position : Axes Int) (order : InRankOrder s.arb.claims) (still : Still s) (ungranted : Ungranted s)
    (manual : s.arb.auth = .manual) : motionFits (leaveManual position s) := by
  unfold leaveManual
  split
  · exact enterLockout_motionFits still.1
  split
  · have stowed : motionFits (takeSafety .parkStow (parkStowDrafts position) s) :=
      takeSafety_motionFits _ _ (exeFits_of_idle still.1) order ungranted
    have locked : ∀ v : State, v.exe = s.exe → motionFits (enterLockout v) := fun v exe =>
      enterLockout_motionFits (idle_of_exe still.1 exe)
    dsimp only
    rcases parkRule_atCrankEnd position manual with ⟨stays, same⟩ | stows
    · rw [if_pos stays]
      exact locked _ same
    · rw [stows]
      have ruled := parkRuleAlarms_motionFits position false stowed
      split
      · next stays => exact enterLockout_motionFits (idle_of_manual ruled stays)
      · exact ruled
  · exact motionFits_of_still (passOn_authorityFits _ order) (passOn_grantFollows _ ungranted) (still_of_exe still (by simp))

end Sys2Proof.Machine
end

section
/-! Every step keeps the motion invariant (R3, R20, R23, R34, R62). -/

namespace Sys2Proof.Machine

variable {s t u : State}

/-! ### No report and no handover begins the end of a crank -/

/-- No crank is ending (R85). -/
def Uncranked (s : State) : Prop := s.arb.crankEnd = none

theorem uncranked_of_arb (h : Uncranked s) (arb : t.arb = s.arb) : Uncranked t := by
  simpa only [Uncranked, arb] using h

theorem passOn_uncranked (reason : AuthReason) (h : Uncranked s) : Uncranked (passOn reason s) := by
  unfold passOn giveTo
  split
  · simpa [Uncranked, toHeld, startIdle] using h
  · exact h

theorem safetyGivesBack_uncranked (h : Uncranked s) : Uncranked (safetyGivesBack s) :=
  ite_keeps (passOn_uncranked _ h) rfl

theorem yieldOutcome_uncranked (h : Uncranked s) : Uncranked (yieldOutcome s) := by
  unfold yieldOutcome giveTo retain
  dsimp only
  split
  · simpa [Uncranked, toHeld, startIdle] using h
  · split
    · simpa [Uncranked, toFree] using h
    · simpa [Uncranked, startIdle] using h

theorem makeHandover_uncranked (d : Deferral) (h : Uncranked s) : Uncranked (makeHandover d s) := by
  unfold makeHandover
  split
  · split
    · exact ite_keeps (by simpa [Uncranked, giveTo, toHeld, startIdle] using h) h
    · exact h
  · exact passOn_uncranked _ (by simpa [Uncranked] using h)
  · exact yieldOutcome_uncranked h
  · exact passOn_uncranked _ (by simpa [Uncranked] using h)
  · exact safetyGivesBack_uncranked h

theorem handOn_uncranked (d : Deferral) (h : Uncranked s) : Uncranked (handOn d s) :=
  ite_keeps h (makeHandover_uncranked d h)

theorem handoverCheck_uncranked (h : Uncranked s) : Uncranked (handoverCheck s) := by
  unfold handoverCheck
  split
  · exact ite_keeps (makeHandover_uncranked _ h) h
  · exact h

theorem grantCrank_uncranked (lh ld bh bd : Nat) (s : State) : Uncranked (grantCrank lh ld bh bd s) := by
  simp [Uncranked, grantCrank]

theorem lockOut_uncranked (k : LockReason) (s : State) : Uncranked (lockOut k s) :=
  ite_keeps (grantCrank_uncranked ..) rfl

theorem addReason_uncranked (k : LockReason) (h : Uncranked s) : Uncranked (addReason k s) := by
  have enlisted : Uncranked (enlistReason k s) := by simpa [Uncranked, enlistReason] using h
  unfold addReason
  split
  · exact h
  dsimp only
  split
  · exact rfl
  · exact enlisted
  · exact enlisted
  · exact lockOut_uncranked _ _
  · exact enlisted
  · exact lockOut_uncranked _ _

theorem groupEnded_uncranked (ending : Ending) (h : Uncranked s) : Uncranked (groupEnded ending s) := by
  have none : Uncranked (s.setSafe { s.safe with group := none }) := h
  unfold groupEnded
  dsimp only
  split
  · exact ite_keeps none (addReason_uncranked _ none)
  · exact uncranked_of_arb h (by simp)
  · exact ite_keeps (addReason_uncranked _ h) h

theorem takeBoundary_uncranked (ending : Ending) (h : Uncranked s) : Uncranked (takeBoundary ending s) := by
  have ended := groupEnded_uncranked ending h
  unfold takeBoundary
  split
  · exact h
  · exact handOn_uncranked _ h
  · exact grantCrank_uncranked ..
  · unfold safetyBoundary
    dsimp only
    split
    · exact ite_keeps (grantCrank_uncranked ..) (grantCrank_uncranked ..)
    · exact ite_keeps (handOn_uncranked _ ended) rfl
    · exact ended
  · exact h

theorem suspendOrAbandon_uncranked (h : Uncranked s) : Uncranked (suspendOrAbandon s) := by
  have suspended : Uncranked (suspendActive s) := uncranked_of_arb h (by simp)
  refine ite_keeps ?_ suspended
  unfold abandonForCrank
  split
  · exact suspended
  · exact grantCrank_uncranked ..

theorem activate_uncranked (h : Uncranked s) : Uncranked (activate s) := by
  rcases activate_cases s with same | ⟨e, rest, -, -, -, begun⟩
  · rw [same]
    exact h
  have active : Uncranked (becomeActive e rest s) := by
    unfold becomeActive reportActivation
    exact ite_keeps h h
  rcases begun with ⟨why, -, failed⟩ | ⟨-, -, started⟩ | ⟨-, -, suspended⟩
  · rw [failed]
    exact uncranked_of_arb active (by simp)
  · rw [started]
    exact uncranked_of_arb active (by simp)
  · rw [suspended]
    exact suspendOrAbandon_uncranked active

theorem runQueue_uncranked (n : Nat) (h : Uncranked s) : Uncranked (runQueue n s) := by
  induction n generalizing s with
  | zero => exact h
  | succ n ih =>
    rcases runQueue_cases n s with same | ⟨c, -, -, reported⟩
    · rw [same]
      exact h
    · rw [reported]
      have made : Uncranked (s.setExe { s.exe with closing := none }) := h
      exact ite_keeps (ih (activate_uncranked made)) (takeBoundary_uncranked _ made)

/-! ### The end of a crank -/

theorem restedOrFaulted_of_all {m : PoseMonitor} (h : m.restedOrFaulted (Axes.all true) = true) (axes : Axes Bool) :
    m.restedOrFaulted axes = true := by
  simp only [PoseMonitor.restedOrFaulted, Axes.all, Bool.not_true, Bool.false_or, Bool.and_eq_true] at h
  obtain ⟨⟨⟨mast, pan⟩, tilt⟩, pol⟩ := h
  simp [PoseMonitor.restedOrFaulted, Bool.or_assoc, mast, pan, tilt, pol]

/-- In MANUAL the report of a boundary leaves the arbiter as it stands (R81). -/
theorem takeBoundary_manual (ending : Ending) (authority : authorityFits s) (manual : s.arb.auth = .manual) :
    takeBoundary ending s = s := by
  have holder := holder_absent authority (Or.inr (Or.inl manual))
  simp [takeBoundary, manual, holder]

/-- In MANUAL the ending report outstanding is made once every axis is at rest, and nothing else follows (R62, R81). -/
theorem advance_manual_closing (h : motionFits s) (manual : s.arb.auth = .manual) (confirmed : confirm s = true) :
    (advance s).exe.closing = none := by
  cases closing : s.exe.closing with
  | none => simp [advance, runQueue, closing]
  | some c =>
    have boundary : c.ending.boundary = true := by
      obtain ⟨-, -, -, -, -, -, boundary⟩ := h
      exact boundary manual c closing
    have rested : s.pose.restedOrFaulted c.axes = true := restedOrFaulted_of_all confirmed _
    have stops : goesOn c.ending (s.setExe { s.exe with closing := none }) = false := by simp [goesOn, boundary, manual]
    have taken := takeBoundary_manual (s := s.setExe { s.exe with closing := none }) c.ending (motionFits_authority (s := s) h) manual
    unfold advance runQueue
    simp only [closing, rested, stops, if_true, Bool.false_eq_true, if_false, taken, State.setExe_exe]

theorem handoverCheck_manual (h : motionFits s) (manual : s.arb.auth = .manual) : handoverCheck s = s := by
  have deferred := deferred_none (motionFits_authority h) (Or.inr (Or.inr (Or.inl manual)))
  simp [handoverCheck, deferred]

/-- In MANUAL the ending reports leave the arbiter as it stands. -/
theorem advance_manual_arb (h : motionFits s) (manual : s.arb.auth = .manual) : (advance s).arb = s.arb := by
  unfold advance
  rcases runQueue_cases 23 s with same | ⟨c, closing, -, reported⟩
  · rw [same]
  · have boundary : c.ending.boundary = true := by
      obtain ⟨-, -, -, -, -, -, boundary⟩ := h
      exact boundary manual c closing
    have stops : goesOn c.ending (s.setExe { s.exe with closing := none }) = false := by simp [goesOn, boundary, manual]
    have taken := takeBoundary_manual (s := s.setExe { s.exe with closing := none }) c.ending (motionFits_authority (s := s) h) manual
    rw [reported, stops, if_neg Bool.false_ne_true, taken]
    rfl

theorem unblockStow_kept (position : Axes Int) (s : State) :
    (unblockStow position s).arb.auth = s.arb.auth ∧ (unblockStow position s).arb.claims = s.arb.claims
      ∧ (unblockStow position s).arb.grant = s.arb.grant ∧ (unblockStow position s).arb.crankEnd = s.arb.crankEnd
      ∧ (unblockStow position s).exe = s.exe := by
  unfold unblockStow dropReason
  repeat' split
  all_goals simp

theorem finishCrank_motionFits (position : Axes Int) (h : motionFits s) (ending : s.arb.crankEnd.isSome = true)
    (closing : s.exe.closing = none) : motionFits (finishCrank position s) := by
  obtain ⟨grant, isManual, -⟩ := motionFits_grant h
  have manual := isManual ending
  have negated : s.arb.grant = false := by
    rw [grant, Bool.and_eq_false_iff]
    exact Or.inr (by simpa using ending)
  obtain ⟨auth', claims', grant', crankEnd', exe'⟩ := unblockStow_kept position (s.setArb { s.arb with crankEnd := none })
  have order := motionFits_claims h
  have still : Still s := ⟨idle_of_manual h manual, closing⟩
  have left : motionFits (leaveManual position (unblockStow position (s.setArb { s.arb with crankEnd := none }))) :=
    leaveManual_motionFits position (by rw [claims']; exact order) (still_of_exe still exe')
      ⟨by rw [grant']; exact negated, crankEnd'.trans rfl⟩ (by rw [auth']; exact manual)
  unfold finishCrank
  exact motionFits_of_arb left (by simp only [placeAll_frame]) (by simp only [placeAll_frame])

theorem settleAll_motionFits (h : motionFits s) : motionFits (settleAll s) := by
  have advanced := advance_motionFits h
  have handed := handoverCheck_motionFits advanced
  unfold settleAll crankCheck
  split
  · next position ending =>
    split
    · next confirmed =>
      have manual : s.arb.auth = .manual := by
        refine Classical.byContradiction fun other => ?_
        obtain ⟨-, none⟩ := ungranted_of_follows (motionFits_grant h) other
        have uncranked : Uncranked (handoverCheck (advance s)) := handoverCheck_uncranked (runQueue_uncranked 24 none)
        rw [uncranked] at ending
        cases ending
      have same : handoverCheck (advance s) = advance s :=
        handoverCheck_manual advanced (by rw [advance_manual_arb h manual]; exact manual)
      refine finishCrank_motionFits position handed (by rw [ending]; rfl) ?_
      rw [same]
      refine advance_manual_closing h manual ?_
      simpa [confirm] using confirmed
    · exact handed
  · exact handed

/-! ### Requests -/

theorem respond_motionFits {p : Port} {r : Request} {status : Status} {fields : List Byte} {s : State} (h : motionFits s) :
    motionFits (respond p r status fields s) :=
  motionFits_of_same h (by simp) (by simp) (by simp) (by simp) (by simp) (by simp) (by simp)

theorem joinClaim_motionFits (p : Port) {g : Party} (h : motionFits s) (holder : s.arb.holder = some g) (other : g ≠ .port p) :
    motionFits (joinClaim p s) := by
  obtain ⟨⟨fits, order, claim, empty⟩, grant, drives, activity⟩ := h
  have present : ¬(s.arb.auth = .free ∨ s.arb.auth = .lockout) := by
    intro absent
    have none := fits.1 (absent.elim Or.inl (fun lockout => Or.inr (Or.inr lockout)))
    rw [holder] at none
    cases none
  refine ⟨⟨fits, inRankOrder_joinClaims p _, fun q held => ?_, fun absent => absurd absent present⟩, grant, drives, activity⟩
  have joined : q ≠ p := by
    rintro rfl
    change s.arb.holder = _ at held
    rw [holder] at held
    exact other (Option.some.inj held)
  have absent := claim q held
  rw [Bool.eq_false_iff] at absent ⊢
  intro contains
  refine absent ?_
  simp only [joinClaim, State.setArb_arb, joinClaims, List.contains_iff_mem, List.mem_filter] at contains
  simpa [joined] using contains.2

theorem preempt_motionFits (p : Port) {g : Party} (h : motionFits s) (holder : s.arb.holder = some g) (other : g ≠ .port p)
    (held : s.arb.auth = .held) : motionFits (preempt p s) := by
  have joined := joinClaim_motionFits p h holder other
  have still := still_of_resting h (Or.inr (Or.inl held))
  unfold preempt
  split
  · exact respond_motionFits (status := .pending) (fields := []) joined
  split
  · refine respond_motionFits (motionFits_of_still (toHeld_authorityFits p ?_) (toHeld_grantFollows p ?_) ?_)
    · simpa using motionFits_claims h
    · exact ungranted_of_arb (ungranted_of_follows (motionFits_grant h) (by simp [held])) (by simp)
    · exact still_of_exe still (by simp)
  · refine respond_motionFits (motionFits_of_still ?_ (defer_grantFollows _ (motionFits_grant joined) ?_) ?_)
    · exact defer_authorityFits _ (motionFits_authority joined) (Or.inl held) nofun
    · show s.arb.auth ≠ .manual
      simp [held]
    · exact still_of_exe still rfl

/-- A discard with a change to YIELDING or MANUAL PENDING of a holder at work (R25, R30, R81). -/
theorem discarded_motionFits (crank : Bool) (h : motionFits s) {x : Arbiter} (authority : authorityFits (s.setArb x)) (grant : grantFollows (s.setArb x))
    (working : x.auth = .yielding ∨ x.auth = .manualPending) (deferred : x.deferred = s.arb.deferred) : motionFits ((discardWaiting crank s).setArb x) := by
  have fit : exeFits (discardWaiting crank s) := discardWaiting_exeFits crank (motionFits_exe h)
  by_cases waits : s.arb.deferred.isSome = true
  · obtain ⟨⟨active, disabled⟩, closing⟩ := still_of_deferred h waits
    refine motionFits_of_still (s := (discardWaiting crank s).setArb x) authority grant ⟨⟨?_, disabled⟩, closing⟩
    simp [discardWaiting, active]
  · refine motionFits_of_working (s := (discardWaiting crank s).setArb x) authority grant fit ⟨?_, ?_⟩
    · exact Or.inr working
    · show x.deferred = none
      rw [deferred]
      simpa using waits

theorem callForYield_motionFits (p : Port) {g : Party} (h : motionFits s) (holder : s.arb.holder = some g)
    (above : outranks p g = true) (moving : s.arb.auth = .moving) : motionFits (callForYield p s) := by
  obtain ⟨q, rfl⟩ : ∃ q, g = .port q := by
    cases g with
    | port q => exact ⟨q, rfl⟩
    | safety => cases above
  have other : Party.port q ≠ .port p := by
    rintro ⟨⟩
    simp [outranks] at above
  have joined := joinClaim_motionFits p h holder other
  have authority := motionFits_authority joined
  obtain ⟨-, claim⟩ := port_facts (p := q) authority holder
  unfold callForYield
  refine respond_motionFits (motionFits_of_arb (s := (discardWaiting false (joinClaim p s)).setArb
    { (joinClaim p s).arb with auth := .yielding, releaseMark := false }) ?_ (by simp) (by simp))
  refine discarded_motionFits false joined ?_ ?_ (Or.inl rfl) rfl
  · exact authorityFits_port (p := q) (Or.inr (Or.inr (Or.inl rfl))) holder (fun _ => nofun) (claims_inRankOrder (s := joinClaim p s) authority) claim
  · refine grantFollows_of_ungranted ?_ nofun
    simpa [Ungranted] using ungranted_of_follows (motionFits_grant joined) (show s.arb.auth ≠ .manual by simp [moving])

theorem claimAuthority_motionFits (p : Port) (h : motionFits s) : motionFits (claimAuthority p s) := by
  have against : ∀ g, s.arb.holder = some g → motionFits (claimAgainst p g s) := by
    intro g holder
    unfold claimAgainst
    split
    · exact respond_motionFits h
    · next other =>
      have joined (status : Status) := respond_motionFits (p := p) (r := .claim) (status := status) (fields := []) (joinClaim_motionFits p h holder other)
      split
      · next above =>
        split
        · next held => exact preempt_motionFits p h holder other held
        · next moving => exact callForYield_motionFits p h holder above moving
        · exact joined _
      · exact joined _
  unfold claimAuthority
  split
  · exact respond_motionFits h
  · exact respond_motionFits h
  · exact against _ (by assumption)
  · next notLockout notManual =>
    have none : s.arb.holder = none := by assumption
    have free : s.arb.auth = .free := by
      have fits := motionFits_authority h
      cases auth : s.arb.auth with
      | free => rfl
      | manual => exact absurd auth notManual
      | lockout => exact absurd auth notLockout
      | held | yielding =>
        obtain ⟨q, holder⟩ := holder_port fits (by simp [auth])
        rw [none] at holder
        cases holder
      | moving | manualPending =>
        have some := holder_present fits (by simp [auth])
        rw [none] at some
        cases some
    refine respond_motionFits (motionFits_of_still (toHeld_authorityFits p (motionFits_claims h)) ?_ ?_)
    · exact toHeld_grantFollows p (ungranted_of_follows (motionFits_grant h) (by simp [free]))
    · exact still_of_exe (still_of_resting h (Or.inl free)) (by simp)

theorem withdrawClaim_motionFits (p : Port) (h : motionFits s) : motionFits (withdrawClaim p s) := by
  refine ite_keeps (respond_motionFits ?_) (respond_motionFits h)
  obtain ⟨⟨fits, order, claim, empty⟩, grant, drives, activity⟩ := h
  refine ⟨⟨fits, inRankOrder_withoutClaim p order, fun q held => ?_, fun auth => ?_⟩, grant, drives, activity⟩
  · have absent := claim q held
    rw [Bool.eq_false_iff] at absent ⊢
    intro contains
    refine absent ?_
    rw [List.contains_iff_mem] at contains ⊢
    exact (List.mem_filter.mp contains).1
  · show withoutClaim p s.arb.claims = []
    rw [empty auth]
    rfl

theorem markRelease_motionFits (h : motionFits s) : motionFits (markRelease s) :=
  motionFits_of_same h rfl rfl rfl rfl rfl rfl rfl

theorem releaseAuthority_motionFits (p : Port) (h : motionFits s) : motionFits (releaseAuthority p s) := by
  unfold releaseAuthority
  split
  · next holder =>
    have authority := motionFits_authority h
    have grant := motionFits_grant h
    have marked := markRelease_motionFits h
    unfold releaseFrom
    split
    · next held =>
      have still := still_of_resting h (Or.inr (Or.inl held))
      have notManual : s.arb.auth ≠ .manual := by simp [held]
      split
      · refine respond_motionFits (motionFits_of_still ?_ ?_ (still_of_exe still rfl))
        · exact defer_authorityFits _ (motionFits_authority marked) (Or.inl held) nofun
        · exact defer_grantFollows _ (motionFits_grant marked) notManual
      · exact respond_motionFits (motionFits_of_still (passOn_authorityFits _ (motionFits_claims h))
          (passOn_grantFollows _ (ungranted_of_follows grant notManual)) (still_of_exe still (by simp)))
    · next moving =>
      obtain ⟨-, claim⟩ := port_facts authority holder
      refine respond_motionFits (discarded_motionFits false h
        (x := { s.arb with auth := .yielding, releaseMark := true }) ?_ ?_ (Or.inl rfl) rfl)
      · exact authorityFits_port (p := p) (Or.inr (Or.inr (Or.inl rfl))) holder (fun _ => nofun)
          (claims_inRankOrder (s := s) authority) claim
      · refine grantFollows_of_ungranted ?_ nofun
        simpa [Ungranted] using ungranted_of_follows grant (by simp [moving])
    · exact respond_motionFits marked
    · exact respond_motionFits marked
  · exact respond_motionFits h

theorem expireIdle_motionFits (h : motionFits s) : motionFits (expireIdle s) := by
  unfold expireIdle
  split
  · next held _ =>
    refine ite_keeps h (motionFits_of_still ?_ (handOn_grantFollows _ (motionFits_grant h) (by simp [held])) ?_)
    · exact handOn_authorityFits _ (motionFits_authority h) (Or.inl held) nofun
    · exact handOn_still _ (still_of_resting h (Or.inr (Or.inl held)))
  · exact h

theorem clearLockout_motionFits (p : Port) (h : motionFits s) : motionFits (clearLockout p s) := by
  have estop : motionFits (clearEstop s) := ite_keeps h (dropReason_motionFits _ h)
  have cleared : motionFits (clearStowFailed (clearEstop s)) := ite_keeps estop (dropReason_motionFits _ estop)
  have answered : ∀ status fields, motionFits (respond p .clearLockout status fields (clearStowFailed (clearEstop s))) :=
    fun _ _ => respond_motionFits cleared
  unfold clearLockout
  exact ite_keeps (respond_motionFits h)
    (ite_keeps (answered _ _) (ite_keeps (answered _ _) (afterRemoval_motionFits (answered _ _))))

/-- The holder check passes for a holder at work, or in HELD (R21). -/
theorem ready_of_holderCheck {p : Port} (passed : holderCheck p true s = none) : Ready s := by
  unfold holderCheck at passed
  split at passed
  · cases passed
  · split at passed
    · cases passed
    · next permitted =>
      simp only [true_and, not_or, Bool.not_eq_true, Option.isSome_eq_false_iff, Option.isNone_iff_eq_none] at permitted
      obtain ⟨deferred, auth⟩ := permitted
      refine ⟨?_, deferred⟩
      by_cases held : s.arb.auth = .held
      · exact Or.inl held
      · by_cases moving : s.arb.auth = .moving
        · exact Or.inr (Or.inl moving)
        · exact absurd ⟨held, moving⟩ auth

/-- A request behind the holder check meets a holder that passes it (R21). -/
theorem asHolder_passed {P : State → Prop} {p : Port} {r : Request} {submits : Bool} {f : State → State}
    (refused : ∀ status, P (respond p r status [] s)) (hf : holderCheck p submits s = none → P (f s)) :
    P (asHolder p r submits f s) := by
  unfold asHolder
  split
  · exact refused _
  · next passed => exact hf passed

theorem append_motionFits (origin : Party) (ds : List Draft) (h : motionFits s) : motionFits (append origin ds s) := by
  have authority : authorityFits (append origin ds s) := motionFits_authority (s := s) h
  have grant : grantFollows (append origin ds s) := motionFits_grant (s := s) h
  have fit := motionFits_exe h
  cases active : s.exe.active with
  | none =>
    obtain ⟨-, disabled⟩ := idle_of_resting fit active
    obtain ⟨-, -, -, activity⟩ := h
    exact ⟨authority, grant, drivesFit_of_idle (s := append origin ds s) ⟨active, disabled⟩, activity⟩
  | some x =>
    have working := working_of_active h (by rw [active]; rfl)
    obtain ⟨drives, closing⟩ := fit
    refine motionFits_of_working authority grant ⟨fun a enabled => ?_, closing⟩ working
    have driven := drives a enabled
    cases queue : s.exe.queue with
    | nil => simp [drivenNow, activeEntry, active, queue] at driven
    | cons e rest => simpa [drivenNow, activeEntry, isRunning, append, active, queue] using driven

theorem submission_motionFits {p : Port} {r : Request} (sub : Submission p r s t) (h : motionFits s) (ready : Ready s) :
    motionFits t := by
  rcases sub with ⟨status, fields, rfl⟩ | ⟨ds, status, fields, -, rfl⟩
  · exact respond_motionFits h
  · refine goAhead_motionFits (respond_motionFits (append_motionFits _ ds h)) ?_
    simpa [Ready] using ready

theorem aim_motionFits (p : Port) (slot : Nat) (heading : Option Int) (flag : Byte) (h : motionFits s) (ready : Ready s) :
    motionFits (aim p slot heading flag s) := by
  obtain ⟨v, c, sub⟩ := aim_submission p slot heading flag s
  exact submission_motionFits sub (motionFits_of_arb h rfl rfl) ready

theorem haltByHolder_motionFits (h : motionFits s) : motionFits (haltByHolder s) := by
  have fit := haltByHolder_exeFits (motionFits_exe h)
  cases active : s.exe.active with
  | some x => exact motionFits_ran h (by rw [active]; rfl) (by simp) fit
  | none =>
    have inactive := activeEntry_none active
    have still : Idle (haltAll .halted s) := haltAll_idle .halted (motionFits_exe h)
    have same : haltByHolder s = haltAll .halted s := by simp [haltByHolder, inactive]
    have closing : (haltAll .halted s).exe.closing = s.exe.closing := by simp [haltAll, inactive]
    rw [same]
    obtain ⟨authority, grant, -, -, closes, waits, manual⟩ := h
    have arb : (haltAll .halted s).arb = s.arb := by simp
    refine ⟨authorityFits_of_same authority (by rw [arb]) (by rw [arb]) (by rw [arb]) (by rw [arb]),
      grantFollows_of_arb grant arb, drivesFit_of_idle still, ?_, ?_, ?_, ?_⟩
    · rw [still.1]
      nofun
    · rw [closing, arb]
      exact fun some => ⟨still.1, (closes some).2⟩
    · rw [closing, arb]
      exact fun some => ⟨still.1, (waits some).2⟩
    · rw [closing, arb]
      exact manual

/-! ### Readings and watches -/

theorem followActive_motionFits (h : motionFits s) : motionFits (followActive s) := by
  cases active : s.exe.active with
  | none =>
    have same : followActive s = s := by simp [followActive, isRunning, active]
    rw [same]
    exact h
  | some x => exact motionFits_ran h (by rw [active]; rfl) (by simp) (followActive_exeFits (motionFits_exe h))

/-- The active entry fails, and what follows is taken at once. -/
theorem failed_motionFits (why : EndReason) (h : motionFits s) : motionFits (advance (failActive why true s)) :=
  advance_motionFits (failActive_motionFits why true h)

theorem active_of_running (running : isRunning s = true) : s.exe.active.isSome = true := by
  unfold isRunning at running
  cases active : s.exe.active <;> simp_all

theorem updateActive_of_none (f : Active → Active) (active : s.exe.active = none) : updateActive f s = s := by
  have same : s.exe.active.map f = s.exe.active := by rw [active]; rfl
  unfold updateActive
  rw [same]
  exact State.setExe_self s

theorem updateActive_motionFits {f : Active → Active} (execution : ∀ x, (f x).execution = x.execution) (h : motionFits s) :
    motionFits (updateActive f s) := by
  cases active : s.exe.active with
  | none => rwa [updateActive_of_none f active]
  | some x => exact motionFits_ran h (by rw [active]; rfl) (by simp) (updateActive_exeFits execution (motionFits_exe h))

theorem setPhase_motionFits (a : Axis) (ph : AxisPhase) (h : motionFits s) : motionFits (setPhase a ph s) :=
  updateActive_motionFits (fun _ => rfl) h

theorem failOnAxis_motionFits (a : Axis) (h : motionFits s) : motionFits (failOnAxis a s) := by
  unfold failOnAxis
  split
  · exact ite_keeps (failActive_motionFits _ _ h) h
  · exact h

/-- A scan runs, and what it drives are pan and tilt (8.6). -/
theorem scanPhase_running {ph : ScanPhase} (phase : runningScanPhase s = some ph) : isRunning s = true := by
  unfold runningScanPhase at phase
  split at phase
  · assumption
  · cases phase

theorem scanning_of_source {source : LevelSource} (running : isRunning s = true) (scans : activeSource s = some source) :
    Scanning s := by
  unfold activeSource at scans
  split at scans
  · next e active =>
    split at scans
    · next q motion =>
      simp [Scanning, drivenNow, active, running, motion, Motion.axes, panAndTilt, Axes.get]
    · cases scans
  · cases scans

/-- A sample is taken by a SCAN entry alone, and a running one drives pan and tilt (R150). -/
theorem takeSample_motionFits (level : Int) (h : motionFits s) (running : isRunning s = true) :
    motionFits (takeSample level s) := by
  have active := active_of_running running
  by_cases scanning : Scanning s
  · exact motionFits_ran h active (by simp) (takeSample_exeFits level (motionFits_exe h) scanning)
  · have same : takeSample level s = s := by
      unfold takeSample
      split
      · next e x active _ =>
        split
        · next q motion =>
          refine absurd ?_ scanning
          simp [Scanning, drivenNow, active, running, motion, Motion.axes, panAndTilt, Axes.get]
        · rfl
      · rfl
    rw [same]
    exact h

theorem sampled_motionFits (level : Int) (h : motionFits s) (running : isRunning s = true) :
    motionFits (advance (takeSample level s)) :=
  advance_motionFits (takeSample_motionFits level h running)

theorem endDwell_motionFits (millivolts : Int) (h : motionFits s) : motionFits (endDwell millivolts s) := by
  have waits : motionFits (updateScan (fun x => { x with phase := .levelWait }) s) := motionFits_of_arb h rfl rfl
  unfold endDwell
  split
  · next phase _ => exact sampled_motionFits _ h (scanPhase_running phase)
  · next phase _ _ => exact ite_keeps (sampled_motionFits _ h (scanPhase_running phase)) waits
  · exact waits
  · exact h

theorem sampleReport_motionFits (level : Int) (h : motionFits s) : motionFits (sampleReport level s) := by
  unfold sampleReport
  split
  · next phase => exact sampled_motionFits _ h (scanPhase_running phase)
  · exact h

theorem expireSettle_motionFits (suspended : Nat) (h : motionFits s) : motionFits (expireSettle suspended s) := by
  have settled : motionFits (s.setExe { s.exe with supply := .available, settle := false }) := h
  refine ite_keeps (ite_keeps (advance_motionFits ?_) settled) h
  cases active : s.exe.active with
  | none =>
    have same : restartActive suspended (s.setExe { s.exe with supply := .available, settle := false })
        = s.setExe { s.exe with supply := .available, settle := false } := by
      simp [restartActive, activeEntry, active]
    rw [same]
    exact settled
  | some x =>
    exact motionFits_ran settled (by simp [active]) (restartActive_arb ..) (restartActive_exeFits _ (motionFits_exe settled))

/-! ### Lines -/

theorem stopAxes_motionFits (axes : Axes Bool) (h : motionFits s) : motionFits (stopAxes axes s) := by
  have fit := stopAxes_exeFits axes (motionFits_exe h)
  obtain ⟨authority, grant, -, activity⟩ := h
  exact ⟨authority, grant, fit.1, activity⟩

theorem takeEstop_motionFits (h : motionFits s) : motionFits (takeEstop s) :=
  addReason_motionFits _ (stopAxes_motionFits _ (motionFits_of_arb h rfl rfl))

theorem takeParkNegation_motionFits (h : motionFits s) : motionFits (takeParkNegation s) :=
  parkRule_motionFits _ (motionFits_of_arb h (by simp) (by simp))

theorem takeParkAssertion_motionFits (h : motionFits s) : motionFits (takeParkAssertion s) := by
  have parked : motionFits (setPark true s) := motionFits_of_arb h rfl rfl
  have dropped : motionFits (dropParkReasons (setPark true s)) :=
    ite_keeps parked (motionFits_of_same parked (by simp) (by simp) (by simp) (by simp) (by simp) (by simp) (by simp))
  unfold takeParkAssertion
  exact motionFits_of_arb (afterRemoval_motionFits dropped) (by simp) (by simp)

theorem offerLowering_motionFits (h : motionFits s) : motionFits (offerLowering s) := by
  have raised : motionFits (raiseWindAlarm s) := motionFits_of_arb h (by simp) (by simp)
  unfold offerLowering
  split
  · exact raised
  · exact raised
  · exact h
  · next notManual _ _ =>
    exact ite_keeps raised (takeSafety_motionFits _ _ (motionFits_exe h) (motionFits_claims h)
      (ungranted_of_follows (motionFits_grant h) (fun manual => notManual manual)))

theorem sampleWind_motionFits (h : motionFits s) : motionFits (sampleWind s) := by
  unfold sampleWind
  dsimp only
  split
  · exact motionFits_of_arb h rfl rfl
  unfold windChanged
  dsimp only
  have told : ∀ body u, u.arb = s.arb → u.exe = s.exe → motionFits (placeAll body u) := fun body u arb exe =>
    motionFits_of_arb h (by simp [arb]) (by simp [exe])
  split
  · exact ite_keeps (offerLowering_motionFits (told _ _ rfl rfl)) (told _ _ rfl rfl)
  · exact ite_keeps (motionFits_of_arb h (by simp) (by simp)) (told _ _ rfl rfl)

theorem setSupply_motionFits (asserted : Bool) (supply : Supply) (settle : Bool) (h : motionFits s) :
    motionFits (setSupply asserted supply settle s) :=
  h

theorem takeSupplyLoss_motionFits (h : motionFits s) : motionFits (takeSupplyLoss s) := by
  have lost := setSupply_motionFits false .absent false h
  exact ite_keeps (advance_motionFits (suspendOrAbandon_motionFits lost)) lost

/-! ### The crank -/

theorem manualDue_motionFits (h : motionFits s) (auth : s.arb.auth = .moving ∨ s.arb.auth = .yielding)
    (deferred : s.arb.deferred = none) : motionFits (manualDue s) := by
  have authority := motionFits_authority h
  have present := holder_present authority (auth.elim Or.inl (fun yielding => Or.inr (Or.inl yielding)))
  unfold manualDue
  refine motionFits_of_arb (s := (discardWaiting true s).setArb { s.arb with auth := .manualPending }) ?_ (by simp) (by simp)
  refine discarded_motionFits true h ?_ ?_ (Or.inr rfl) rfl
  · obtain ⟨-, order, claim, -⟩ := authority
    refine ⟨⟨nofun, nofun, fun _ => present, ?_, ?_⟩, order, claim, nofun⟩
    · rw [State.setArb_arb, deferred]
      nofun
    · rw [State.setArb_arb, deferred]
      nofun
  · refine grantFollows_of_ungranted ?_ nofun
    have notManual : s.arb.auth ≠ .manual := by rcases auth with h | h <;> simp [h]
    simpa [Ungranted] using ungranted_of_follows (motionFits_grant h) notManual

theorem takeManualRequest_motionFits (h : motionFits s) : motionFits (takeManualRequest s) := by
  have order := motionFits_claims h
  have granted : Still s → motionFits (grantCrank 0 0 0 0 s) := grantCrank_still_motionFits 0 0 0 0 order
  unfold takeManualRequest
  split
  · next free => exact granted (still_of_resting h (Or.inl free))
  · next held => exact granted (still_of_resting h (Or.inr (Or.inl held)))
  · next lockout => exact granted (still_of_resting h (Or.inr (Or.inr lockout)))
  · next manual =>
    obtain ⟨authority, ⟨-, -, deferred⟩, drives, activity⟩ := h
    refine ⟨authority, ?_, drives, activity⟩
    simp [grantFollows, manual, deferred manual]
  · exact h
  · next notFree notHeld notLockout notManual notPending =>
    have auth : s.arb.auth = .moving ∨ s.arb.auth = .yielding := by
      cases auth : s.arb.auth with
      | moving => exact Or.inl rfl
      | yielding => exact Or.inr rfl
      | free => exact absurd auth notFree
      | held => exact absurd auth notHeld
      | lockout => exact absurd auth notLockout
      | manual => exact absurd auth notManual
      | manualPending => exact absurd auth notPending
    split
    · next deferred => exact granted (still_of_deferred h deferred)
    · next waits =>
      exact ite_keeps (advance_motionFits (abandonForCrank_motionFits h)) (manualDue_motionFits h auth (by simpa using waits))

theorem returnState_cases (s : State) :
    returnState s = .moving ∨ (returnState s = .yielding ∧ ∃ p, s.arb.holder = some (.port p)) := by
  unfold returnState
  split
  · next p holder =>
    split
    · exact Or.inr ⟨rfl, p, holder⟩
    · exact Or.inl rfl
  · exact Or.inl rfl

theorem withdrawManual_motionFits (h : motionFits s) (pending : s.arb.auth = .manualPending) : motionFits (withdrawManual s) := by
  have authority := motionFits_authority h
  have fit := motionFits_exe h
  have present := holder_present authority (Or.inr (Or.inr pending))
  have deferred := deferred_none authority (Or.inr (Or.inl pending))
  have returned : motionFits (s.setArb { s.arb with auth := returnState s }) := by
    have ungranted := ungranted_of_follows (motionFits_grant h) (show s.arb.auth ≠ .manual by simp [pending])
    obtain ⟨-, order, claim, -⟩ := authority
    rcases returnState_cases s with moving | ⟨yielding, p, holder⟩
    · refine motionFits_of_working ?_ (grantFollows_of_ungranted ungranted (by simp [moving])) fit
        ⟨Or.inl moving, deferred⟩
      rw [moving]
      exact ⟨⟨nofun, nofun, fun _ => present, by simp [deferred], by simp [deferred]⟩, order, claim, nofun⟩
    · refine motionFits_of_working ?_ (grantFollows_of_ungranted ungranted (by simp [yielding])) fit
        ⟨Or.inr (Or.inl yielding), deferred⟩
      rw [yielding]
      exact authorityFits_port (p := p) (Or.inr (Or.inr (Or.inl rfl))) holder (by simp [deferred]) order (claim p holder)
  unfold withdrawManual
  refine motionFits_of_arb (updateActive_motionFits (f := fun x =>
    { x with crankDue := false, yieldDue := returnState s == .yielding || (x.yieldDue && Config.yieldMarkOutlives) })
    (fun _ => rfl) returned) (by simp) ?_
  simp only [placeAll_frame]

theorem takeManualEnd_motionFits (reading : Reading) (h : motionFits s) : motionFits (takeManualEnd reading s) := by
  unfold takeManualEnd
  split
  · next manual =>
    have deferred := deferred_none (motionFits_authority h) (Or.inr (Or.inr (Or.inl manual)))
    refine settleAll_motionFits ?_
    refine motionFits_of_arb (s := s.setArb { s.arb with grant := false, crankEnd := some (positionsOf reading.counts) }) ?_
      (by simp) (by simp)
    obtain ⟨authority, -, drives, activity⟩ := h
    exact ⟨authority, by simp [grantFollows, manual, deferred], drives, activity⟩
  · next pending => exact withdrawManual_motionFits h pending
  · exact h

/-! ### Starts and every command -/

theorem endOfStart_motionFits (cause : StartCause) (negatedDuring : Bool) (i : StartInputs)
    (arb : s.arb = { Arbiter.start with reasons := s.arb.reasons }) (still : Still s) :
    motionFits (endOfStart cause negatedDuring i s) := by
  have supplied : Still (foundSupply i.supplyOk (foundFaults i.faultLine (setResetLine i.resetLine s))) := still
  have announced : ∀ u, u.arb = s.arb → Still u → motionFits (keptLockout u) := by
    intro u same hu
    rw [arb] at same
    unfold keptLockout
    split
    · refine motionFits_of_still (authorityFits_absent ?_ ?_ ?_ ?_ ?_) (grantFollows_of_ungranted ⟨?_, ?_⟩ ?_) hu
      all_goals simp [same, Arbiter.start, inRankOrder_nil]
    · refine motionFits_of_still (authorityFits_absent ?_ ?_ ?_ ?_ ?_) (grantFollows_of_ungranted ⟨?_, ?_⟩ ?_) (still_of_exe hu rfl)
      all_goals simp [same, Arbiter.start, inRankOrder_nil]
  have estop : ∀ u, motionFits u → motionFits (foundEstop i.estop u) := fun u hu =>
    ite_keeps (takeEstop_motionFits hu) (motionFits_of_arb hu rfl rfl)
  have park : ∀ u, motionFits u → motionFits (foundPark i.park negatedDuring u) := fun u hu =>
    ite_keeps (ite_keeps (motionFits_of_arb hu (by simp) (by simp)) (motionFits_of_arb hu rfl rfl)) (takeParkNegation_motionFits hu)
  have wind : ∀ u, motionFits u → motionFits (foundWind u) := fun u hu => motionFits_of_arb hu (by simp) (by simp)
  have manual : ∀ u, motionFits u → motionFits (foundManual i.manualReq u) := fun u hu =>
    ite_keeps (takeManualRequest_motionFits (s := setManualReq true u) (motionFits_of_arb hu rfl rfl)) (motionFits_of_arb hu rfl rfl)
  exact manual _ (wind _ (park _ (estop _ (announced _ (by simp) (still_of_exe supplied (by simp))))))

theorem start_disabled (a : Axis) : (Executor.start.drives.get a).enable = false := by cases a <;> rfl

theorem coldStart_motionFits (i : StartInputs) (s : State) : motionFits (coldStart i s) :=
  endOfStart_motionFits _ _ _ rfl ⟨⟨rfl, start_disabled⟩, rfl⟩

theorem warmStart_motionFits (cause : StartCause) (i : StartInputs) (s : State) : motionFits (warmStart cause i s) := by
  refine endOfStart_motionFits _ _ _ rfl ⟨⟨rfl, fun a => ?_⟩, rfl⟩
  cases a <;> rfl

theorem losePower_motionFits (l : PowerLoss) (s : State) : motionFits (losePower l s) :=
  motionFits_of_still (authorityFits_absent (Or.inl rfl) rfl rfl inRankOrder_nil (Or.inr rfl))
    (grantFollows_of_ungranted ⟨rfl, rfl⟩ nofun) ⟨⟨rfl, start_disabled⟩, rfl⟩

theorem exec_motionFits (c : Instr) (h : motionFits s) (step : exec c s = .next t) : motionFits t := by
  have answered : ∀ p r status fields, motionFits (respond p r status fields s) := fun _ _ _ _ => respond_motionFits h
  have same : ∀ {u : State}, u.arb.auth = s.arb.auth → u.arb.holder = s.arb.holder → u.arb.claims = s.arb.claims →
      u.arb.deferred = s.arb.deferred → u.arb.grant = s.arb.grant → u.arb.crankEnd = s.arb.crankEnd → u.exe = s.exe →
      motionFits u := motionFits_of_same h
  cases c <;> cases step
  case powerApplied i => exact coldStart_motionFits i s
  case reset i => exact whenPowered_keeps h (ite_keeps h (warmStart_motionFits _ i s))
  case restart p i => exact onRequest_keeps h (ite_keeps (warmStart_motionFits _ i s) (answered _ _ _ _))
  case powerLoss l => exact whenPowered_keeps h (losePower_motionFits l s)
  case claim => exact onRequest_keeps h (claimAuthority_motionFits _ h)
  case withdraw => exact onRequest_keeps h (withdrawClaim_motionFits _ h)
  case release => exact onRequest_keeps h (releaseAuthority_motionFits _ h)
  case idleTimerExpiry => exact whenPowered_keeps h (expireIdle_motionFits h)
  case clearLockout => exact onRequest_keeps h (clearLockout_motionFits _ h)
  case aim =>
    exact onRequest_keeps h
      (asHolder_passed (fun _ => answered _ _ _ _) (fun passed => aim_motionFits _ _ _ _ h (ready_of_holderCheck passed)))
  case queueMoves =>
    exact onRequest_keeps h (asHolder_passed (fun _ => answered _ _ _ _)
      (fun passed => submission_motionFits (queueMoves_submission _ _ _ s) h (ready_of_holderCheck passed)))
  case stow =>
    exact onRequest_keeps h (asHolder_passed (fun _ => answered _ _ _ _)
      (fun passed => submission_motionFits (stow_submission _ s) h (ready_of_holderCheck passed)))
  case peak =>
    exact onRequest_keeps h (asHolder_passed (fun _ => answered _ _ _ _)
      (fun passed => submission_motionFits (peak_submission _ _ s) h (ready_of_holderCheck passed)))
  case halt =>
    exact onRequest_keeps h (asHolder_keeps (fun _ => answered _ _ _ _)
      (advance_motionFits (respond_motionFits (haltByHolder_motionFits h))))
  case clearAxis =>
    exact onRequest_keeps h (asHolder_keeps (fun _ => answered _ _ _ _)
      (same (by simp) (by simp) (by simp) (by simp) (by simp) (by simp) (by simp)))
  case levelReport p level =>
    exact onRequest_keeps h (ite_keeps (answered _ _ _ _) (ite_keeps (answered _ _ _ _)
      (sampleReport_motionFits _ (respond_motionFits (motionFits_of_arb (t := keepReport level s) h rfl rfl)))))
  case poseReading r =>
    exact whenPowered_keeps h (settleAll_motionFits (followActive_motionFits (motionFits_of_arb h (by simp) (by simp))))
  case stallWindowExpiry a =>
    refine whenPowered_keeps h ?_
    unfold stallWindow
    split
    · exact ite_keeps (failed_motionFits _ h) (setPhase_motionFits _ _ h)
    · exact h
  case settlingTimeout a =>
    refine whenPowered_keeps h ?_
    unfold settlingTimeout
    split
    · exact ite_keeps h (failed_motionFits _ h)
    · exact h
  case restWatchExpiry =>
    refine whenPowered_keeps h ?_
    split
    · exact settleAll_motionFits (motionFits_of_arb h rfl rfl)
    · exact h
  case faultLineAsserted a =>
    exact whenPowered_keeps h (ite_keeps h (settleAll_motionFits (failOnAxis_motionFits a (motionFits_of_arb h rfl rfl))))
  case obstructionEdge =>
    have latched : motionFits (setLatch s) := motionFits_of_arb h (by simp) (by simp)
    exact whenPowered_keeps h (ite_keeps (failed_motionFits _ latched) latched)
  case dwellEnd v => exact whenPowered_keeps h (endDwell_motionFits v h)
  case levelWaitExpiry =>
    refine whenPowered_keeps h ?_
    unfold expireLevelWait
    split
    · exact failed_motionFits _ h
    · exact h
  case estopAsserted => exact whenPowered_keeps h (ite_keeps h (takeEstop_motionFits h))
  case parkNegated => exact whenPowered_keeps h (ite_keeps (takeParkNegation_motionFits h) h)
  case parkAsserted => exact whenPowered_keeps h (ite_keeps h (takeParkAssertion_motionFits h))
  case windSample => exact whenPowered_keeps h (sampleWind_motionFits h)
  case supplyOkNegated => exact whenPowered_keeps h (ite_keeps (takeSupplyLoss_motionFits h) h)
  case supplyOkAsserted =>
    exact whenPowered_keeps h (ite_keeps h (ite_keeps (setSupply_motionFits _ _ _ h) (setSupply_motionFits _ _ _ h)))
  case settleTimerExpiry => exact whenPowered_keeps h (expireSettle_motionFits _ h)
  case suspensionLimitExpiry => exact whenPowered_keeps h (ite_keeps (failed_motionFits _ h) h)
  case manualReqAsserted =>
    exact whenPowered_keeps h
      (ite_keeps h (takeManualRequest_motionFits (s := setManualReq true s) (motionFits_of_arb h rfl rfl)))
  case manualReqNegated =>
    exact whenPowered_keeps h
      (ite_keeps (takeManualEnd_motionFits (s := setManualReq false s) _ (motionFits_of_arb h rfl rfl)) h)
  case frameReceived | frameByteTimeout | takeFrame | readyChange | transmitBegin | frameSent | byteReceived
    | slotWriteEnd | eraseEnd | settingsWriteEnd | inclinometerSample | estopNegated | faultLineNegated | anemometerPulse
    | resetNegated =>
    exact whenPowered_keeps h (same (by simp) (by simp) (by simp) (by simp) (by simp) (by simp) (by simp))
  case setHeading | readSite | stageSite | commitSite | retireSite | eraseTable | invalidateSite | flushCache | readCache
    | status | identify | scanResult | clearLatches | setNotices | configure | revert =>
    exact onRequest_keeps h (same (by simp) (by simp) (by simp) (by simp) (by simp) (by simp) (by simp))

/-- Settles O56: the arbiter's, the executor's and the Safety Monitor's operations each keep the invariant, and so does every
command built of them. -/
theorem motionFitsIsKept : Obligations.MotionFitsIsKept :=
  fun _ _ => step_keeps (fun _ _ h => motionFits_of_arb h rfl rfl) (fun c _ _ => exec_motionFits c)

end Sys2Proof.Machine
end

section
/-! The port interfaces: the receiver, the frames taken and sent, and the notices that merge (R156 to R163). -/

namespace Sys2Proof.Machine

/-! ### Commands that are taken -/

/-- A request that its block may take runs its operation. -/
theorem exec_of_takes {c : Instr} {p : Port} {r : Request} {f : State → State} {s : State}
    (arm : exec c s = .next (onRequest p r f s)) (h : takes p r s) : exec c s = .next (f s) := by
  rw [arm, onRequest_takes f h]

/-- An event of a controller with power runs its operation. -/
theorem exec_of_powered {c : Instr} {f : State → State} {s : State} (arm : exec c s = .next (whenPowered f s))
    (on : s.powered = true) : exec c s = .next (f s) := by
  rw [arm, whenPowered_on f on]

theorem withPort_self (p : Port) (s : State) : withPort p (s.ports.get p) s = s := by simp [withPort]

theorem updatePort_eq (p : Port) (f : PortState → PortState) (s : State) :
    updatePort p f s = withPort p (f (s.ports.get p)) s := rfl

/-! ### The receiver -/

theorem receiveByte_checked {q : PortState} {body : List Byte} {high : Byte} (b : Byte) (rx : q.rx = .checking body (some high)) :
    receiveByte b q =
      { q with
        rx := .hunting
        receive :=
          if wordOf high b = crc16 (byteOf body.length :: body.reverse)
              ∧ (∃ code, body.reverse.head? = some code ∧ code.toNat < 0x80) ∧ q.receive.length < 4 then
            q.receive ++ [body.reverse]
          else q.receive } := by
  unfold receiveByte
  rw [rx]
  dsimp only
  rw [List.length_reverse]
  generalize body.reverse = received
  by_cases check : wordOf high b = crc16 (byteOf body.length :: received)
  · rw [if_pos check]
    unfold acceptBody
    cases received with
    | nil => simp
    | cons code rest => by_cases fits : code.toNat < 0x80 ∧ q.receive.length < 4 <;> simp [check, fits, Config.receiveCapacity]
  · simp [check]

/-- Settles O3: both commands that bring a byte run the receiver, whose answer is given condition by condition. -/
theorem receiverTakesBytes : Obligations.ReceiverTakesBytes := by
  refine ⟨fun p b s c on brings => ?_, fun p b high body s on rx => ?_, fun p s on => exec_of_powered rfl on⟩
  · have taken : exec c s = .next (withPort p (receiveByte b (s.ports.get p)) s) := by
      rcases brings with rfl | rfl <;> exact exec_of_powered rfl on
    rw [taken]
    refine ⟨fun rx => ?_, fun rx => ?_, fun n body rx => ?_, fun body rx => ?_⟩
    · by_cases sync : b = 0x7E
      · simp only [receiveByte, rx, if_pos sync]
      · simp only [receiveByte, rx, if_neg sync, withPort_self]
    · by_cases fits : 2 ≤ b.toNat ∧ b.toNat ≤ 62 <;> simp [receiveByte, rx, fits]
    · by_cases more : body.length + 1 < n <;> simp [receiveByte, rx, more]
    · simp [receiveByte, rx]
  · have taken : exec (.frameReceived p b) s = .next (withPort p (receiveByte b (s.ports.get p)) s) := exec_of_powered rfl on
    rw [taken, receiveByte_checked b rx]

/-! ### Frames taken and sent -/

theorem mayTake_iff (q : PortState) :
    q.mayTake = true ↔
      q.inHand = .nothing ∧ (∀ i, i ∈ q.output → i.isResponse = false) ∧ ∀ t, q.tx = some t → t.response = false := by
  cases tx : q.tx <;> simp [PortState.mayTake, tx, and_assoc]

/-- Settles O5, list by list: what TAKE FRAME, READY CHANGE, TRANSMIT BEGIN and FRAME SENT do to one port. -/
theorem portListsAreServed : Obligations.PortListsAreServed := by
  refine ⟨fun p s code params rest on received => ?_, fun p s on => ?_⟩
  · have taken : exec (.takeFrame p) s = .next (withPort p (takeFrame (s.ports.get p)) s) := exec_of_powered rfl on
    rw [taken]
    refine ⟨fun idle listed sent => ?_, fun busy => ?_⟩
    · have may := (mayTake_iff (s.ports.get p)).mpr ⟨idle, listed, sent⟩
      refine ⟨fun r known => ?_, fun unknown => ?_⟩
      · simp [takeFrame, received, may, known]
      · simp [takeFrame, received, may, unknown]
    · have waits : (s.ports.get p).mayTake = false := by
        rw [Bool.eq_false_iff, ne_eq, mayTake_iff]
        rintro ⟨idle, listed, sent⟩
        rcases busy with working | ⟨i, member, response⟩ | ⟨t, tx, response⟩
        · exact working idle
        · simp [listed i member] at response
        · simp [sent t tx] at response
      simp [takeFrame, received, waits, withPort_self]
  · have begun : exec (.transmitBegin p) s = .next (withPort p (beginTransmission (s.ports.get p)) s) :=
      exec_of_powered rfl on
    have ended : exec (.frameSent p) s = .next (withPort p (endTransmission (s.ports.get p)) s) := exec_of_powered rfl on
    rw [begun, ended]
    refine ⟨fun b => exec_of_powered rfl on, fun held => ?_, fun item rest first others ready tx output frames => ?_,
      fun t tx last => ?_, fun t first others tx more => ?_, fun tx => ?_⟩
    · have stays : beginTransmission (s.ports.get p) = s.ports.get p := by
        unfold beginTransmission
        split
        · next ready tx output =>
          rcases held with unready | busy | empty
          · simp [unready] at ready
          · simp [tx] at busy
          · simp [empty] at output
        · rfl
      rw [stays, withPort_self]
    · have bodies : item.frames = first :: others := frames
      simp [beginTransmission, ready, tx, output, bodies]
    · simp [endTransmission, tx, last]
    · simp [endTransmission, tx, more]
    · simp [endTransmission, tx, withPort_self]

/-! ### Notices -/

theorem placeItem_new (body : NoticeBody) (l : List OutItem) (absent : body.kind ∉ noticeKinds l) :
    placeItem body l = l ++ [.notice body 0] := by
  induction l with
  | nil => rfl
  | cons i rest ih =>
    cases i with
    | response r => simpa [placeItem] using ih absent
    | notice old merged =>
      rw [noticeKinds, List.mem_cons, not_or] at absent
      obtain ⟨other, absent⟩ := absent
      have differs : old.kind ≠ body.kind := fun same => other same.symm
      simp [placeItem, differs, ih absent]

theorem placeItem_pending (body old : NoticeBody) (merged : Nat) (before rest : List OutItem)
    (absent : body.kind ∉ noticeKinds before) (same : old.kind = body.kind) :
    placeItem body (before ++ .notice old merged :: rest) =
      before ++ .notice (mergeBody old body) (min (merged + 1) 255) :: rest := by
  induction before with
  | nil => simp [placeItem, same, capCount, Config.countLimit]
  | cons i others ih =>
    cases i with
    | response r => simpa [placeItem] using ih absent
    | notice first n =>
      rw [noticeKinds, List.mem_cons, not_or] at absent
      obtain ⟨other, absent⟩ := absent
      have differs : first.kind ≠ body.kind := fun same => other same.symm
      simp [placeItem, differs, ih absent]

/-- A notice of a kind that gathers no count takes the place of the old one whole (R161). -/
theorem mergeBody_replaces (old new : NoticeBody) (kind : new.kind ∉ [2, 4, 5, 8, 10]) : mergeBody old new = new := by
  cases new with
  | authority | segmentDone | segmentFailed | siteWritten | cacheFlushed => simp [NoticeBody.kind] at kind
  | started | claimRefused | scanProgress | scanEnd | tableErased | wind | condition | manualBegun | manualEnded
    | supplySuspended | supplyResumed => rfl

/-- Settles O7. -/
theorem noticesMerge : Obligations.NoticesMerge := by
  refine ⟨fun body l => ⟨placeItem_new body l, ?_⟩, ⟨?_, ?_, ?_, ?_, ?_⟩, mergeBody_replaces⟩
  · rintro before rest old merged rfl absent same
    exact placeItem_pending body old merged before rest absent same
  all_goals intros; rfl

theorem keptUnder_notice (mask : BitVec 16) (body : NoticeBody) (merged : Nat) :
    keptUnder mask (.notice body merged) = (decide (body.kind ∈ [1, 2, 3, 8]) || mask.getLsbD (body.kind - 1)) := by
  cases body <;> simp [keptUnder, kindOn, NoticeBody.kind]

/-- Settles O8. -/
theorem setNoticesReplacesMask : Obligations.SetNoticesReplacesMask := fun _ mask _ h =>
  ⟨(exec_of_takes rfl h).trans (congrArg Host.Outcome.next (respond_done _ _ _ _ _ rfl)), keptUnder_notice mask⟩

end Sys2Proof.Machine
end

section
/-! Frames there and back: the bytes of a frame through the receiver, and a request through its parameters (R156 to R159). -/

namespace Sys2Proof.Machine

/-! ### The bytes of a frame -/

theorem wordOf_wordBytes (w : BitVec 16) : wordOf (w.extractLsb' 8 8) (w.extractLsb' 0 8) = w := by
  unfold wordOf
  refine BitVec.eq_of_getLsbD_eq fun i inside => ?_
  rw [BitVec.getLsbD_append, BitVec.getLsbD_extractLsb', BitVec.getLsbD_extractLsb']
  by_cases low : i < 8
  · simp [low]
  · simp [low, show i - 8 < 8 by omega, show 8 + (i - 8) = i by omega]

theorem toNat_byteOf {n : Nat} (small : n < 256) : (byteOf n).toNat = n := by
  simpa [byteOf] using small

/-- The receiver's condition after bytes, one by one. -/
def receiveBytes (bytes : List Byte) (q : PortState) : PortState := bytes.foldl (fun q b => receiveByte b q) q

theorem receiveByte_hunting {q : PortState} (rx : q.rx = .hunting) : receiveByte 0x7E q = { q with rx := .length } := by
  simp [receiveByte, rx]

theorem receiveByte_length {q : PortState} {n : Nat} (rx : q.rx = .length) (least : 2 ≤ n) (most : n ≤ 62) :
    receiveByte (byteOf n) q = { q with rx := .counting n [] } := by
  have value := toNat_byteOf (n := n) (by omega)
  simp [receiveByte, rx, value, least, most]

/-- The bytes of a body, the last of which ends the count. -/
theorem receiveBytes_body (bytes before : List Byte) (n : Nat) {q : PortState} (rx : q.rx = .counting n before)
    (some : bytes ≠ []) (count : before.length + bytes.length = n) :
    receiveBytes bytes q = { q with rx := .checking (bytes.reverse ++ before) none } := by
  induction bytes generalizing before q with
  | nil => exact absurd rfl some
  | cons b rest ih =>
    rw [List.length_cons] at count
    show receiveBytes rest (receiveByte b q) = _
    cases rest with
    | nil =>
      have last : ¬before.length + 1 < n := by simp at count; omega
      simp [receiveBytes, receiveByte, rx, last]
    | cons c others =>
      have more : before.length + 1 < n := by simp at count; omega
      have taken : receiveByte b q = { q with rx := .counting n (b :: before) } := by simp [receiveByte, rx, more]
      rw [taken, ih (b :: before) rfl (by simp) (by simp at count ⊢; omega)]
      simp

/-- Bytes that arrive at a controller with power go through the receiver of their port, one by one. -/
theorem bytesReceived (p : Port) (bytes : List Byte) (s : State) (on : s.powered = true) :
    bytes.foldl (fun u b => after u (exec (.byteReceived p b) u)) s = withPort p (receiveBytes bytes (s.ports.get p)) s := by
  induction bytes generalizing s with
  | nil => exact (withPort_self p s).symm
  | cons b rest ih =>
    have first : after s (exec (.byteReceived p b) s) = withPort p (receiveByte b (s.ports.get p)) s := by
      rw [exec_of_powered rfl on]
      rfl
    rw [List.foldl_cons, first, ih (withPort p (receiveByte b (s.ports.get p)) s) on]
    simp [withPort, receiveBytes]

/-- Settles O4: the receiver goes through SYNC, LENGTH, body and the first check byte, and the last one accepts the body. -/
theorem frameArrivesWhole : Obligations.FrameArrivesWhole := by
  intro p body s on least most request hunting room
  have front : receiveBytes (0x7E :: byteOf body.length :: body) (s.ports.get p) =
      { s.ports.get p with rx := .checking body.reverse none } := by
    show receiveBytes body (receiveByte (byteOf body.length) (receiveByte 0x7E (s.ports.get p))) = _
    rw [receiveByte_hunting hunting, receiveByte_length rfl least most,
      receiveBytes_body body [] body.length rfl (by rintro rfl; simp at least) (by simp)]
    simp
  refine ⟨0x7E :: byteOf body.length :: body ++ [(crc16 (byteOf body.length :: body)).extractLsb' 8 8],
    (crc16 (byteOf body.length :: body)).extractLsb' 0 8, by simp [frameOf, wordBytes], ?_⟩
  have high : ∀ b, receiveBytes (0x7E :: byteOf body.length :: body ++ [b]) (s.ports.get p) =
      { s.ports.get p with rx := .checking body.reverse (some b) } := by
    intro b
    unfold receiveBytes at front ⊢
    rw [List.foldl_append, front]
    simp [receiveByte]
  rw [bytesReceived p _ s on, high]
  generalize last : (crc16 (byteOf body.length :: body)).extractLsb' 0 8 = low
  have taken : ∀ u : State, u.powered = true → exec (.frameReceived p low) u = .next (updatePort p (receiveByte low) u) :=
    fun u on => exec_of_powered rfl on
  refine (taken (withPort p _ s) on).trans ?_
  have accepted : receiveByte low { s.ports.get p with
        rx := .checking body.reverse (some ((crc16 (byteOf body.length :: body)).extractLsb' 8 8)) } =
      { s.ports.get p with receive := (s.ports.get p).receive ++ [body] } := by
    rw [receiveByte_checked low rfl, ← last]
    simp [wordOf_wordBytes, request, room, hunting]
  simp [updatePort, withPort, accepted]

/-! ### Requests through their parameters -/

theorem unsigned_intBytes {i : Int} (fits : fitsWord i = true) :
    ((unsignedOf ((BitVec.ofInt 16 i).extractLsb' 8 8) ((BitVec.ofInt 16 i).extractLsb' 0 8) : Nat) : Int) = i := by
  simp only [fitsWord, Bool.and_eq_true, decide_eq_true_eq] at fits
  rw [unsignedOf, wordOf_wordBytes, BitVec.toNat_ofInt]
  omega

theorem signed_intBytes {i : Int} (fits : fitsSigned i = true) :
    signedOf ((BitVec.ofInt 16 i).extractLsb' 8 8) ((BitVec.ofInt 16 i).extractLsb' 0 8) = i := by
  simp only [fitsSigned, Bool.and_eq_true, decide_eq_true_eq] at fits
  rw [signedOf, wordOf_wordBytes, BitVec.toInt_ofInt]
  exact Int.bmod_eq_of_le (by omega) (by omega)

theorem byte_back {n : Nat} (fits : fitsByte n = true) : (byteOf n).toNat = n := toNat_byteOf (by simpa [fitsByte] using fits)

theorem movesOf_moveBytes (moves : List RawMove) (fits : moves.all RawMove.wf = true) :
    movesOf (moves.flatMap moveBytes) = some moves := by
  induction moves with
  | nil => rfl
  | cons m rest ih =>
    rw [List.all_cons, Bool.and_eq_true] at fits
    obtain ⟨value, fits⟩ := fits
    simp [moveBytes, intBytes, wordBytes, movesOf, ih fits, signed_intBytes value]

theorem siteOf_siteBytes (f : SiteFields) (fits : f.wf = true) : siteOf (siteBytes f) = some f := by
  have places : f.name.length = 16 := by simpa [SiteFields.wf] using fits
  have name : namePlaces f.name = f.name := by
    unfold namePlaces
    rw [← places, List.take_left]
  simp [siteBytes, siteOf, name, wordBytes, wordOf_wordBytes, ← places]

/-- The presence set of seven parameters has the place of each that is present (R157). -/
theorem presence_places : ∀ a b c d e f g : Bool,
    let set := byteOf ((if a then 1 else 0) + (if b then 2 else 0) + (if c then 4 else 0) + (if d then 8 else 0)
      + (if e then 16 else 0) + (if f then 32 else 0) + (if g then 64 else 0))
    set.getLsbD 0 = a ∧ set.getLsbD 1 = b ∧ set.getLsbD 2 = c ∧ set.getLsbD 3 = d ∧ set.getLsbD 4 = e ∧ set.getLsbD 5 = f
      ∧ set.getLsbD 6 = g := by
  decide

/-- A parameter that travels with its place in the presence set is read back (R157). -/
theorem present_back {α : Type} (x : Option α) (y : α) (back : ∀ v, x = some v → y = v) :
    (if x.isSome = true then some y else none) = x := by
  cases x with
  | none => rfl
  | some v => simp [back v rfl]

theorem word_back {n : Nat} (fits : n < 65536) :
    unsignedOf ((BitVec.ofInt 16 (n : Int)).extractLsb' 8 8) ((BitVec.ofInt 16 (n : Int)).extractLsb' 0 8) = n := by
  have back := unsigned_intBytes (i := n) (by simpa [fitsWord] using by omega)
  exact_mod_cast back

theorem peakOf_peakBytes (q : PeakParams) (fits : q.wf = true) : peakOf (peakBytes q) = some q := by
  obtain ⟨slot, pattern, stepSize, steps, source, dwell, block⟩ := q
  simp only [PeakParams.wf, Bool.and_eq_true] at fits
  obtain ⟨⟨⟨⟨⟨fitSlot, fitPattern⟩, fitStep⟩, fitSteps⟩, fitDwell⟩, fitBlock⟩ := fits
  obtain ⟨p0, p1, p2, p3, p4, p5, p6⟩ := presence_places slot.isSome pattern.isSome stepSize.isSome steps.isSome
    source.isSome dwell.isSome block.isSome
  simp only [peakBytes, peakPresence, intBytes, wordBytes, List.cons_append, List.nil_append, peakOf, p0, p1, p2, p3, p4, p5, p6]
  congr
  · exact present_back slot _ (by rintro v rfl; exact byte_back fitSlot)
  · exact present_back pattern _ (by rintro v rfl; simp [byte_back fitPattern])
  · exact present_back stepSize _ (by rintro v rfl; exact byte_back fitStep)
  · exact present_back steps _ (by rintro v rfl; exact word_back (by simpa using fitSteps))
  · exact present_back source _ (by rintro v rfl; rfl)
  · exact present_back dwell _ (by rintro v rfl; exact word_back (by simpa using fitDwell))
  · exact present_back block _ (by rintro v rfl; exact byte_back fitBlock)

/-! What each request's code makes of its parameters. -/

theorem requestOf_queueMoves (lock count : Byte) (rest : List Byte) :
    requestOf 0x10 (lock :: count :: rest) =
      match movesOf rest with
      | some moves => if moves.length = count.toNat then some (.queueMoves lock moves) else none
      | none => none := rfl

theorem requestOf_aim (slot presence high low flag : Byte) :
    requestOf 0x11 [slot, presence, high, low, flag] =
      some (.aim slot.toNat (if presentByte presence then some (unsignedOf high low : Nat) else none) flag) := rfl

theorem requestOf_peak (params : List Byte) : requestOf 0x13 params = (peakOf params).map .peak := rfl

theorem requestOf_setHeading (high low : Byte) :
    requestOf 0x16 [high, low] = some (.setHeading (unsignedOf high low : Nat)) := rfl

theorem requestOf_readSite (slot : Byte) : requestOf 0x20 [slot] = some (.readSite slot.toNat) := rfl

theorem requestOf_stageSite (slot : Byte) (rest : List Byte) :
    requestOf 0x21 (slot :: rest) = (siteOf rest).map (.stageSite slot.toNat) := rfl

theorem requestOf_commitSite (slot high low : Byte) :
    requestOf 0x22 [slot, high, low] = some (.commitSite slot.toNat (wordOf high low)) := rfl

theorem requestOf_retireSite (slot redirection : Byte) :
    requestOf 0x23 [slot, redirection] = some (.retireSite slot.toNat (slotOf redirection)) := rfl

theorem requestOf_invalidateSite (slot : Byte) : requestOf 0x28 [slot] = some (.invalidateSite slot.toNat) := rfl

theorem requestOf_levelReport (high low : Byte) : requestOf 0x30 [high, low] = some (.levelReport (signedOf high low)) := rfl

theorem requestOf_setNotices (high low : Byte) : requestOf 0x48 [high, low] = some (.setNotices (wordOf high low)) := rfl

theorem requestOf_configure (feature high low : Byte) :
    requestOf 0x50 [feature, high, low] =
      if feature = 0x7F then some .revert else some (.configure feature (signedOf high low)) := rfl

/-- Settles O6, request by request. -/
theorem requestFrameRoundTrip : Obligations.RequestFrameRoundTrip := by
  intro r fits
  cases r with
  | claim | withdraw | release | stow | halt | eraseTable | flushCache | readCache | status | identify | scanResult
    | clearLatches | clearLockout | restart | clearAxis | revert => rfl
  | queueMoves lock moves =>
    rw [Request.wf, Bool.and_eq_true, decide_eq_true_eq] at fits
    obtain ⟨count, values⟩ := fits
    have length : (byteOf moves.length).toNat = moves.length := toNat_byteOf (by omega)
    refine (requestOf_queueMoves lock (byteOf moves.length) (moves.flatMap moveBytes)).trans ?_
    rw [movesOf_moveBytes moves values]
    exact if_pos length.symm
  | aim slot heading flag =>
    rw [Request.wf, Bool.and_eq_true] at fits
    obtain ⟨number, value⟩ := fits
    cases heading with
    | none =>
      refine (requestOf_aim (byteOf slot) 0x00 _ _ flag).trans ?_
      rw [byte_back number]
      rfl
    | some v =>
      refine (requestOf_aim (byteOf slot) 0x01 _ _ flag).trans ?_
      rw [byte_back number, unsigned_intBytes (i := v) value]
      rfl
  | peak q => exact (requestOf_peak (peakBytes q)).trans (by rw [peakOf_peakBytes q fits]; rfl)
  | setHeading v => exact (requestOf_setHeading _ _).trans (by rw [unsigned_intBytes (i := v) fits])
  | readSite slot => exact (requestOf_readSite _).trans (by rw [byte_back (n := slot) fits])
  | invalidateSite slot => exact (requestOf_invalidateSite _).trans (by rw [byte_back (n := slot) fits])
  | stageSite slot fields =>
    rw [Request.wf, Bool.and_eq_true] at fits
    obtain ⟨number, site⟩ := fits
    refine (requestOf_stageSite (byteOf slot) (siteBytes fields)).trans ?_
    rw [byte_back number, siteOf_siteBytes fields site]
    rfl
  | commitSite slot check => exact (requestOf_commitSite _ _ _).trans (by rw [byte_back (n := slot) fits, wordOf_wordBytes])
  | retireSite slot redirection =>
    rw [Request.wf, Bool.and_eq_true] at fits
    obtain ⟨number, other⟩ := fits
    refine (requestOf_retireSite _ _).trans ?_
    rw [byte_back number]
    cases redirection with
    | none => rfl
    | some n =>
      have small : n < 255 := by simpa using other
      have value : (byteOf n).toNat = n := toNat_byteOf (by omega)
      have present : byteOf n ≠ 0xFF := fun absent => by
        have top : (byteOf n).toNat = 255 := congrArg BitVec.toNat absent
        omega
      show some (Request.retireSite slot (if byteOf n = 0xFF then none else some (byteOf n).toNat)) = _
      rw [if_neg present, value]
  | levelReport level => exact (requestOf_levelReport _ _).trans (by rw [signed_intBytes (i := level) fits])
  | setNotices mask => exact (requestOf_setNotices _ _).trans (by rw [wordOf_wordBytes])
  | configure feature value =>
    rw [Request.wf, Bool.and_eq_true] at fits
    obtain ⟨other, fits⟩ := fits
    have named : feature ≠ 0x7F := by simpa using other
    refine (requestOf_configure feature _ _).trans ?_
    rw [if_neg named, signed_intBytes (i := value) fits]

end Sys2Proof.Machine
end

section
/-! The requests that read: STATUS, IDENTIFY, SCAN RESULT, READ CACHE and READ SITE (R119, R133, R154, R164, R165). -/

namespace Sys2Proof.Machine

/-- A request answered DONE. -/
theorem exec_of_done {c : Instr} {p : Port} {r : Request} {f : State → State} {s t : State} {status : Status} {fields : List Byte}
    (arm : exec c s = .next (onRequest p r f s)) (h : takes p r s) (answers : f s = respond p r status fields t)
    (success : status.success = true) : exec c s = .next (doneState p r status fields t) := by
  rw [exec_of_takes arm h, answers, respond_done _ _ _ _ _ success]

/-- A request answered with a status that is no success. -/
theorem exec_of_refused {c : Instr} {p : Port} {r : Request} {f : State → State} {s t : State} {status : Status}
    {fields : List Byte} (arm : exec c s = .next (onRequest p r f s)) (h : takes p r s)
    (answers : f s = respond p r status fields t) (refusal : status.success = false) :
    exec c s = .next (answeredState p r status fields t) := by
  rw [exec_of_takes arm h, answers, respond_refused _ _ _ _ _ refusal]

/-- A success of more than one frame (R160). -/
theorem respondParts_done (p : Port) (r : Request) (status : Status) (parts : List (List Byte)) (s : State)
    (success : status.success = true) :
    respondParts p r status parts s = (s.setPorts (answerParts p (requestCode r) status parts s.ports)).setArb
      (idleRestarted p s.settings.inForce.idleTimeout s.arb) := by
  unfold respondParts
  rw [restartIdle_eq, if_pos success]
  simp [answerParts, updatePort]

theorem length_intBytes (i : Int) : (intBytes i).length = 2 := rfl

theorem length_optionBytes (i : Option Int) : (optionBytes i).length = 3 := by cases i <;> rfl

theorem length_claimBytes (claims : List Port) : (claimBytes claims).length = 4 := by simp [claimBytes]

theorem length_statusRecord (s : State) : (statusRecord s).length = 34 := by
  simp [statusRecord, poseBytes, length_intBytes, length_optionBytes, length_claimBytes]

/-- The number of parts of a READ CACHE response, by its entries (R160). -/
theorem cacheParts_eq (entries : List CacheEntry) :
    cacheParts entries.length = if entries = [] then 1 else (entries.length + 3) / 4 := by
  cases entries <;> simp [cacheParts]

theorem siteFields_free {x : Slot} (state : x.state = .free) : siteFields x = [0x00] := by
  unfold siteFields
  rw [state]
  rfl

theorem siteFields_record {x : Slot} {k : Contents} (state : x.state ≠ .free) (contents : x.contents = some k) :
    siteFields x = x.state.code :: siteBytes k.site ++ [k.redirection] := by
  unfold siteFields
  rw [contents]
  split
  · exact absurd (by assumption) state
  · next found _ =>
    obtain rfl := Option.some.inj found
    rfl
  · next missing _ => cases missing

theorem append_congr {xs ys zs ws : List Byte} (front : xs = zs) (back : ys = ws) : xs ++ ys = zs ++ ws := by
  rw [front, back]

/-- Settles O9, request by request. -/
theorem readingRequestsAnswerDone : Obligations.ReadingRequestsAnswerDone := by
  intro p s portByte cab rack link
  have ports : portByte = portCode := by
    funext q
    cases q
    · exact cab
    · exact rack
    · exact link
  subst ports
  refine ⟨fun h => ⟨statusRecord s, exec_of_done rfl h rfl rfl, length_statusRecord s, ?_⟩, fun h => exec_of_done rfl h rfl rfl,
    fun h => ⟨fun absent => ?_, fun r present => ?_⟩, fun i why place => ?_,
    fun h => ⟨_, cacheResponse s.cache, rfl, ?_, ?_, fun i part place => ?_⟩, fun slot h => ⟨fun beyond => ?_, fun who n small erasing => ?_⟩,
    fun slot h small still => ⟨fun free => ?_, fun k written contents => ?_⟩⟩
  · unfold statusRecord activeTag activeEntry
    simp only [claimBytes, poseBytes, List.replicate, List.cons_append, List.nil_append, List.append_assoc, List.cons.injEq,
      List.append_cancel_left_eq, true_and]
    refine ⟨?_, ?_, rfl, rfl, rfl, ?_, ?_, ?_, append_congr ?_ ?_⟩
    · cases s.arb.auth <;> rfl
    · rcases s.arb.holder with _ | _ | _ <;> rfl
    · rcases s.exe.active with _ | _ <;> cases s.exe.queue <;> rfl
    · cases s.exe.active <;> rfl
    · cases s.safe.windClass <;> rfl
    · cases s.heading <;> rfl
    · cases s.store.engine <;> rfl
  · exact exec_of_done rfl h (by rw [absent]; rfl) rfl
  · refine exec_of_done rfl h (congrArg (fun fields => respond p .scanResult .done fields s) ?_) rfl
    rw [present]
    simp only [scanResultFields, scanResultBytes, scanFields, List.cons_append, List.nil_append, List.append_assoc,
      List.cons.injEq, List.append_cancel_left_eq, true_and]
    refine ⟨?_, append_congr ?_ (append_congr ?_ ?_)⟩
    · cases r.slot <;> rfl
    · cases r.bestLevel <;> rfl
    · cases r.bestPose <;> rfl
    · cases r.endReason <;> rfl
  · iterate 18
      rcases i with _ | i
      · cases place
        rfl
    cases place
  · exact (exec_of_takes rfl h).trans (congrArg Host.Outcome.next (respondParts_done p .readCache .done _ s rfl))
  · rw [← cacheParts_eq]
    simp [cacheResponse]
  · have within : i < cacheParts s.cache.entries.length := by
      simpa [cacheResponse] using (List.getElem?_eq_some_iff.mp place).1
    obtain rfl : cachePart s.cache (i + 1) = part := by simpa [cacheResponse, within] using place
    rw [← cacheParts_eq]
    unfold cachePart
    rw [Nat.add_sub_cancel]
    refine append_congr rfl ?_
    by_cases final : i + 1 = cacheParts s.cache.entries.length
    · rw [if_pos final, if_pos final]
      cases s.cache.reference <;> rfl
    · rw [if_neg final, if_neg final]
  · exact exec_of_refused rfl h (if_pos beyond) rfl
  · refine exec_of_refused rfl h ?_ rfl
    unfold readSite answerBusy
    rw [if_neg (by omega), erasing]
    rfl
  · refine exec_of_done rfl h ?_ rfl
    unfold readSite
    rw [if_neg (by omega), still, siteFields_free free]
    rfl
  · refine exec_of_done rfl h ?_ rfl
    unfold readSite
    rw [if_neg (by omega), still, siteFields_record written contents]
    refine congrArg (fun fields => respond p (.readSite slot) .done fields s) ?_
    simp only [siteBytes, namePlaces, List.cons_append, List.append_assoc, List.nil_append, List.cons.injEq, and_true]
    cases (s.store.slotAt slot).state <;> rfl

end Sys2Proof.Machine
end

section
/-! CLAIM, WITHDRAW and RELEASE, and who may move (R21 to R30). -/

namespace Sys2Proof.Machine

variable {s : State}

theorem axis_forall {P : Axis → Prop} : (∀ a, P a) ↔ P .mast ∧ P .pan ∧ P .tilt ∧ P .pol :=
  ⟨fun h => ⟨h _, h _, h _, h _⟩, fun ⟨mast, pan, tilt, pol⟩ a => by cases a <;> assumption⟩

/-! ### Rest, and changes of holder -/

theorem restedOrFaulted_iff (m : PoseMonitor) (axes : Axes Bool) :
    m.restedOrFaulted axes = true ↔ ∀ a, axes.get a = true → m.atRest.get a = true ∨ m.faulted.get a = true := by
  rw [axis_forall]
  simp only [PoseMonitor.restedOrFaulted, Axes.get, Bool.and_eq_true, Bool.or_eq_true, Bool.not_eq_true', and_assoc, or_assoc]
  have implies : ∀ (b : Bool) (P : Prop), (b = false ∨ P) ↔ (b = true → P) := by
    intro b P
    cases b <;> simp
  simp only [implies]

theorem confirm_iff : confirm s = true ↔ atRest s := by
  rw [confirm, restedOrFaulted_iff]
  exact forall_congr' fun a => by cases a <;> simp [Axes.all, Axes.get]

theorem confirm_false_iff : confirm s = false ↔ ¬atRest s := by rw [← confirm_iff, Bool.not_eq_true]

theorem toHeld_eq (p : Port) (s : State) : toHeld p s = s.setArb (heldBy p s) := rfl

theorem toFree_eq (s : State) : toFree s = s.setArb (freed s) := rfl

/-- Placing a notice changes neither the arbiter nor the settings, so that a port becomes the holder as before. -/
theorem toHeld_placeAlways (p q : Port) (body : NoticeBody) (s : State) :
    toHeld p (placeAlways q body s) = (placeAlways q body s).setArb (heldBy p s) := rfl

theorem toFree_placeAlways (q : Port) (body : NoticeBody) (s : State) :
    toFree (placeAlways q body s) = (placeAlways q body s).setArb (freed s) := rfl

/-! ### CLAIM -/

theorem outranks_ne {p q : Port} (above : outranks p (.port q) = true) : Party.port q ≠ .port p := by
  rintro ⟨⟩
  simp [outranks] at above

theorem claimAuthority_holder {p : Port} {g : Party} (holder : s.arb.holder = some g) (lockout : s.arb.auth ≠ .lockout)
    (manual : s.arb.auth ≠ .manual) : claimAuthority p s = claimAgainst p g s := by
  unfold claimAuthority
  rw [holder]
  cases auth : s.arb.auth with
  | lockout => exact absurd auth lockout
  | manual => exact absurd auth manual
  | free | held | moving | yielding | manualPending => rfl

theorem claimAgainst_below {p : Port} {g : Party} (other : g ≠ .port p) (below : outranks p g = false) :
    claimAgainst p g s = respond p .claim .wait [] (s.setArb (claimed p s)) := by
  unfold claimAgainst
  rw [if_neg other, below]
  rfl

theorem claimAgainst_held {p : Port} {g : Party} (above : outranks p g = true) (other : g ≠ .port p)
    (held : s.arb.auth = .held) : claimAgainst p g s = preempt p s := by
  unfold claimAgainst
  rw [if_neg other, above, held]
  rfl

/-- Settles O10. -/
theorem claimInFreeOrHeld : Obligations.ClaimInFreeOrHeld := by
  intro p s h
  refine ⟨fun free absent => ?_, fun q held holder => ?_⟩
  · refine exec_of_refused rfl h ?_ rfl
    unfold claimAuthority
    rw [free, absent]
    rfl
  have against : claimAuthority p s = claimAgainst p (.port q) s := claimAuthority_holder holder (by simp [held]) (by simp [held])
  refine ⟨fun above prompt rested => ?_, fun above prompt moves => ?_, fun above waits => ?_, fun below => ?_⟩
  · refine exec_of_refused rfl h ?_ rfl
    rw [against, claimAgainst_held above (outranks_ne above) held]
    unfold preempt
    rw [prompt, confirm_iff.mpr rested, holder]
    rfl
  · refine exec_of_refused rfl h ?_ rfl
    rw [against, claimAgainst_held above (outranks_ne above) held]
    unfold preempt
    rw [prompt, confirm_false_iff.mpr moves]
    rfl
  · refine exec_of_refused rfl h ?_ rfl
    rw [against, claimAgainst_held above (outranks_ne above) held]
    unfold preempt
    rw [if_pos waits]
    rfl
  · refine exec_of_refused rfl h ?_ rfl
    rw [against]
    refine claimAgainst_below (fun same => outranks_ne below same.symm) ?_
    simp only [outranks, decide_eq_true_eq, decide_eq_false_iff_not] at below ⊢
    omega

/-- Settles O11. -/
theorem claimThatJoinsNothing : Obligations.ClaimThatJoinsNothing := by
  intro p s h
  refine ⟨fun lockout manual holder => ?_, fun lockout => ?_, fun manual => ?_, fun ⟨_, _, empty⟩ lockout => empty (Or.inr lockout)⟩
  · refine exec_of_done rfl h ?_ rfl
    rw [claimAuthority_holder holder lockout manual]
    exact if_pos rfl
  · refine exec_of_refused rfl h ?_ rfl
    unfold claimAuthority
    rw [lockout]
  · refine exec_of_refused rfl h ?_ rfl
    unfold claimAuthority
    rw [manual]

theorem mem_joinClaims (p q : Port) (claims : List Port) : q ∈ joinClaims p claims ↔ q = p ∨ q ∈ claims := by
  have port : q ∈ [Port.rack, .cab, .link] := by cases q <;> decide
  simp only [joinClaims, List.mem_filter, port, true_and, Bool.or_eq_true, beq_iff_eq, List.contains_iff_mem]

theorem joinClaims_ranked (p : Port) (claims : List Port) :
    (joinClaims p claims).Pairwise (fun a b => outranks a (.port b) = true) :=
  List.Pairwise.filter _ (by decide)

/-- What a discard leaves does not look at the claims. -/
theorem callForYield_eq (p q : Port) (kept : List Entry) (n : Nat) (marked : Option Active) (holder : s.arb.holder = some (.port q))
    (keeps : keptByDiscard s = kept) (count : discardCount s = n)
    (mark : s.exe.active.map (fun x => { x with yieldDue := true }) = marked) :
    callForYield p s =
      respond p .claim .pending []
        (placeAlways q (.authority .yieldDue (some .preempted) 0 n)
          ((s.setExe { s.exe with queue := kept, active := marked }).setArb
            { claimed p s with auth := .yielding, releaseMark := false })) := by
  subst keeps count mark
  unfold callForYield
  rw [holder]
  rfl

/-- Settles O12. -/
theorem claimsWaitInRankOrder : Obligations.ClaimsWaitInRankOrder := by
  refine ⟨⟨?_, rfl, rfl, rfl, ?_, fun p claims => ⟨fun q => mem_joinClaims p q claims, joinClaims_ranked p claims⟩⟩,
    fun p q s h moving holder above => ?_, fun p g s h holder other elsewhere => ?_⟩
  · intro p q
    cases p <;> cases q <;> decide
  · intro p
    exact ⟨by simp [outranks], rfl⟩
  · have called : claimAuthority p s = callForYield p s := by
      rw [claimAuthority_holder holder (by simp [moving]) (by simp [moving]), claimAgainst, if_neg (outranks_ne above), above,
        moving]
      rfl
    refine ⟨fun x e rest active queue => exec_of_refused rfl h (called.trans ?_) rfl,
      fun idle => exec_of_refused rfl h (called.trans ?_) rfl⟩
    · obtain ⟨kept, count⟩ := discard_active active queue
      exact callForYield_eq p q _ _ _ holder kept count (by rw [active]; rfl)
    · obtain ⟨kept, count⟩ := discard_idle idle
      rw [callForYield_eq p q _ _ none holder kept count (by rw [idle]; rfl), ← idle]
  · refine exec_of_refused rfl h ?_ (by split <;> rfl)
    have notLockout : s.arb.auth ≠ .lockout := by rcases elsewhere with auth | auth | ⟨auth, -⟩ <;> simp [auth]
    have notManual : s.arb.auth ≠ .manual := by rcases elsewhere with auth | auth | ⟨auth, -⟩ <;> simp [auth]
    rw [claimAuthority_holder holder notLockout notManual]
    cases above : outranks p g with
    | false => exact claimAgainst_below other above
    | true =>
      unfold claimAgainst
      rw [if_neg other, above]
      rcases elsewhere with auth | auth | ⟨-, below⟩
      · rw [auth]
        rfl
      · rw [auth]
        rfl
      · rw [above] at below
        cases below

/-! ### WITHDRAW and RELEASE -/

/-- Settles O13. -/
theorem withdrawRemovesTheClaim : Obligations.WithdrawRemovesTheClaim := by
  intro p s h
  have refused : s.arb.claims.contains p = false → exec (.withdraw p) s = .next (answeredState p .withdraw .noClaim [] s) := by
    intro absent
    refine exec_of_refused rfl h ?_ rfl
    unfold withdrawClaim
    rw [absent]
    rfl
  refine ⟨fun claim => exec_of_done rfl h (if_pos ?_) rfl, fun absent => refused ?_, fun ⟨_, holders, _⟩ holder => refused (holders p holder)⟩
  · simpa using claim
  · simpa using absent

theorem mustWait_iff : mustWait s = true ↔ s.arb.claims ≠ [] ∧ ¬atRest s := by
  rw [mustWait, Bool.and_eq_true, Bool.not_eq_true', Bool.not_eq_true', confirm_false_iff, List.isEmpty_eq_false_iff]

theorem mustWait_false (ready : s.arb.claims = [] ∨ atRest s) : mustWait s = false := by
  rw [Bool.eq_false_iff, ne_eq, mustWait_iff]
  rintro ⟨claims, moves⟩
  exact ready.elim claims moves

/-- What RELEASE in MOVING leaves, and the number that it answers (R30, R64). -/
theorem releaseFrom_moving (p : Port) (kept : List Entry) (n : Nat) (marked : Option Active) (moving : s.arb.auth = .moving)
    (keeps : keptByDiscard s = kept) (count : discardCount s = n)
    (mark : s.exe.active.map (fun x => { x with yieldDue := true }) = marked) :
    releaseFrom p s =
      respond p .release .done [byteOf n]
        ((s.setExe { s.exe with queue := kept, active := marked }).setArb
          { s.arb with auth := .yielding, releaseMark := true }) := by
  subst keeps count mark
  unfold releaseFrom
  rw [moving]
  rfl

/-- A success outside HELD, or with a handover deferred, changes the sender's port alone. -/
theorem doneState_unheld {p : Port} {r : Request} {status : Status} {fields : List Byte}
    (other : s.arb.auth ≠ .held ∨ s.arb.holder ≠ some (.port p) ∨ s.arb.deferred ≠ none) :
    doneState p r status fields s = answeredState p r status fields s := by
  have stays : idleRestarted p s.settings.inForce.idleTimeout s.arb = s.arb := by
    refine if_neg ?_
    rintro ⟨holder, held, prompt⟩
    rcases other with auth | port | deferred
    · exact auth held
    · exact port holder
    · exact deferred prompt
  unfold doneState
  rw [stays]
  rfl

/-- A success answered while the idle timer has just started changes the sender's port alone. -/
theorem doneState_started {p : Port} {r : Request} {status : Status} {fields : List Byte}
    (started : s.arb.idle = some s.settings.inForce.idleTimeout) :
    doneState p r status fields s = answeredState p r status fields s := by
  have stays : idleRestarted p s.settings.inForce.idleTimeout s.arb = s.arb := by
    unfold idleRestarted
    rw [← started]
    split <;> rfl
  unfold doneState
  rw [stays]
  rfl

/-- A success answered when the sender does not idle in HELD (R36). -/
theorem exec_of_done_unheld {c : Instr} {p : Port} {r : Request} {f : State → State} {s t : State} {status : Status}
    {fields : List Byte} (arm : exec c s = .next (onRequest p r f s)) (h : takes p r s)
    (answers : f s = respond p r status fields t) (success : status.success = true)
    (other : t.arb.auth ≠ .held ∨ t.arb.holder ≠ some (.port p) ∨ t.arb.deferred ≠ none) :
    exec c s = .next (answeredState p r status fields t) := by
  rw [exec_of_done arm h answers success, doneState_unheld other]

/-- Settles O14. -/
theorem releaseGivesUpAuthority : Obligations.ReleaseGivesUpAuthority := by
  intro p s h
  refine ⟨fun other => exec_of_refused rfl h (if_neg other) rfl, fun holder => ?_⟩
  have released : releaseAuthority p s = releaseFrom p s := if_pos holder
  refine ⟨fun held none => ?_, fun q others held claims rested => ?_, fun held claims moves => ?_,
    fun x e rest moving active queue => ?_, fun moving idle => ?_, fun yielding => ?_, fun pending => ?_⟩
  · refine exec_of_done_unheld rfl h (released.trans ?_) rfl (Or.inl nofun)
    unfold releaseFrom passOn
    rw [held, mustWait_false (Or.inl none), none]
    rfl
  · rw [← doneState_started rfl]
    refine exec_of_done rfl h (released.trans ?_) rfl
    unfold releaseFrom passOn
    rw [held, mustWait_false (Or.inr rested), claims]
    rfl
  · refine exec_of_done_unheld rfl h (released.trans ?_) rfl (Or.inr (Or.inr nofun))
    unfold releaseFrom
    rw [held, mustWait_iff.mpr ⟨claims, moves⟩]
    rfl
  · refine exec_of_done_unheld rfl h (released.trans ?_) rfl (Or.inl nofun)
    obtain ⟨kept, count⟩ := discard_active active queue
    exact releaseFrom_moving p _ _ _ moving kept count (by rw [active]; rfl)
  · refine exec_of_done_unheld rfl h (released.trans ?_) rfl (Or.inl nofun)
    obtain ⟨kept, count⟩ := discard_idle idle
    rw [releaseFrom_moving p _ _ none moving kept count (by rw [idle]; rfl), ← idle]
  · refine exec_of_done_unheld rfl h (released.trans ?_) rfl (Or.inl (by simp [yielding]))
    unfold releaseFrom
    rw [yielding]
    rfl
  · refine exec_of_done_unheld rfl h (released.trans ?_) rfl (Or.inl (by simp [pending]))
    unfold releaseFrom
    rw [pending]
    rfl

end Sys2Proof.Machine
end

section
/-! Checks and verdicts: the holder check, the envelope, the class rule (R12 to R16, R21, R90). -/

namespace Sys2Proof.Machine

variable {s : State}

/-! ### The holder check -/

theorem asHolder_other {p : Port} {r : Request} {sub : Bool} {f : State → State} (other : s.arb.holder ≠ some (.port p)) :
    asHolder p r sub f s = respond p r .notHolder [] s := by
  unfold asHolder holderCheck
  rw [if_pos other]

theorem asHolder_waits {p : Port} {r : Request} {f : State → State} (holder : s.arb.holder = some (.port p))
    (waits : s.arb.deferred.isSome = true ∨ (s.arb.auth ≠ .held ∧ s.arb.auth ≠ .moving)) :
    asHolder p r true f s = respond p r .notPermitted [] s := by
  unfold asHolder holderCheck
  rw [if_neg (not_not_intro holder), if_pos ⟨rfl, waits⟩]

theorem asHolder_acts {p : Port} {r : Request} {f : State → State} (holder : s.arb.holder = some (.port p)) :
    asHolder p r false f s = f s := by
  unfold asHolder holderCheck
  rw [if_neg (not_not_intro holder), if_neg (by simp)]

theorem asHolder_submits {p : Port} {r : Request} {f : State → State} (may : maySubmit p s) : asHolder p r true f s = f s := by
  obtain ⟨holder, auth, prompt⟩ := may
  unfold asHolder holderCheck
  rw [if_neg (not_not_intro holder), if_neg]
  rintro ⟨-, waits | ⟨notHeld, notMoving⟩⟩
  · simp [prompt] at waits
  · exact auth.elim notHeld notMoving

/-- A request that submits, or acts on the mechanism, passes the holder check before its block sees it (R21). -/
theorem exec_asHolder {c : Instr} {p : Port} {r : Request} (brings : c.request? = some (p, r))
    (moves : submits r = true ∨ acts r = true) :
    ∃ f, ∀ s, exec c s = .next (onRequest p r (asHolder p r (submits r) f) s) := by
  cases c <;> cases brings
  case queueMoves | aim | stow | peak | halt | clearAxis => exact ⟨_, fun _ => rfl⟩
  all_goals rcases moves with submitted | acted <;> contradiction

/-- Settles O16. -/
theorem motionRequestsNeedTheHolder : Obligations.MotionRequestsNeedTheHolder := by
  intro c p r s brings h
  refine ⟨fun moves other => ?_, fun submitted holder waits => ?_⟩
  · obtain ⟨f, arm⟩ := exec_asHolder brings moves
    exact exec_of_refused (arm s) h (asHolder_other other) rfl
  · obtain ⟨f, arm⟩ := exec_asHolder brings (Or.inl submitted)
    refine exec_of_refused (arm s) h ?_ rfl
    rw [submitted]
    refine asHolder_waits holder ?_
    rcases waits with yielding | pending | deferred
    · exact Or.inr (by simp [yielding])
    · exact Or.inr (by simp [pending])
    · exact Or.inl deferred

/-! ### The envelope -/

theorem parked_pan_iff (v : Int) : parked .pan v = true ↔ -5 ≤ v ∧ v ≤ 5 := by
  unfold parked within
  rw [decide_eq_true_eq]
  show (v - 0).natAbs ≤ 5 ↔ _
  omega

theorem parked_tilt_iff (v : Int) : parked .tilt v = true ↔ -1005 ≤ v ∧ v ≤ -995 := by
  unfold parked within
  rw [decide_eq_true_eq]
  show (v - -1000).natAbs ≤ 5 ↔ _
  omega

theorem mastVerdict_raising {target : Int} (raising : s.pose.position.mast < target) :
    mastVerdict s target =
      if windCeiling s < target then some .wind
      else if s.pose.latch = true then some .obstructed
      else if 500 < s.pose.level.pitch.natAbs ∨ 500 < s.pose.level.roll.natAbs then some .outOfLevel
      else none := by
  unfold mastVerdict mastClassOf
  rw [if_pos raising]

theorem mastVerdict_lowering {target : Int} (lowering : target < s.pose.position.mast) :
    mastVerdict s target =
      if target < clearance ∧ ¬(parked .pan s.pose.position.pan = true ∧ parked .tilt s.pose.position.tilt = true) then
        some .envelope
      else none := by
  unfold mastVerdict mastClassOf
  rw [if_neg (by omega), if_pos lowering]

/-- Settles O21. -/
theorem envelopeVerdicts : Obligations.EnvelopeVerdicts := by
  intro s target ceiling parkedBelow ceilingIs parkedIs
  have top : windCeiling s = ceiling := by
    rw [ceilingIs]
    unfold windCeiling ceilingOf
    cases s.safe.windClass <;> rfl
  have below : (parked .pan s.pose.position.pan = true ∧ parked .tilt s.pose.position.tilt = true) ↔ parkedBelow := by
    rw [parkedIs, parked_pan_iff, parked_tilt_iff]
    exact and_assoc
  refine ⟨rfl, fun axis angle => ?_, fun raising => ⟨fun high => ?_, fun fits latched => ?_, fun fits clear => ⟨fun tilted => ?_, ?_⟩⟩,
    fun lowering => ⟨fun low exposed => ?_, fun safe => ?_⟩, fun holding => ?_⟩
  · rcases angle with rfl | rfl | rfl <;> rfl
  · exact (mastVerdict_raising raising).trans (if_pos (by rwa [top]))
  · exact (mastVerdict_raising raising).trans (by rw [if_neg (by rw [top]; omega), if_pos latched])
  · refine (mastVerdict_raising raising).trans ?_
    rw [if_neg (by rw [top]; omega), if_neg (by simp [clear]), if_pos (by omega)]
  · intro pitch0 pitch1 roll0 roll1
    refine (mastVerdict_raising raising).trans ?_
    rw [if_neg (by rw [top]; omega), if_neg (by simp [clear]), if_neg (by omega)]
  · refine (mastVerdict_lowering lowering).trans (if_pos ⟨low, ?_⟩)
    rwa [below]
  · refine (mastVerdict_lowering lowering).trans (if_neg ?_)
    rw [below]
    rintro ⟨low, exposed⟩
    rcases safe with high | stowed
    · exact absurd low (Int.not_lt.mpr high)
    · exact exposed stowed
  · subst holding
    show mastVerdict s _ = none
    simp [mastVerdict, mastClassOf]

end Sys2Proof.Machine
end

section
/-! The site table and the solution cache: staging, writes, the erase, and the removals (R105 to R118, R121, R130 to R132). -/

namespace Sys2Proof.Machine

variable {s : State}

/-! ### STAGE SITE -/

/-- The first field of STAGE SITE that lies outside its range, field by field (R106). -/
theorem siteFirstOutOfRange_eq (f : SiteFields) :
    siteFirstOutOfRange f =
      if fieldFits f 1 = false then some 1
      else if fieldFits f 2 = false then some 2
      else if fieldFits f 3 = false then some 3
      else if fieldFits f 4 = false then some 4
      else if fieldFits f 5 = false then some 5
      else if fieldFits f 6 = false then some 6
      else if fieldFits f 7 = false then some 7
      else if fieldFits f 9 = false then some 9
      else if fieldFits f 10 = false then some 10
      else if fieldFits f 11 = false then some 11
      else none := by
  have bearing : 35999 < siteBearing f ↔ fieldFits f 2 = false := by
    simp only [siteBearing, fieldFits, decide_eq_false_iff_not]
    omega
  have elevation : siteElevation f < -1000 ∨ 9000 < siteElevation f ↔ fieldFits f 3 = false := by
    simp only [siteElevation, fieldFits, Bool.and_eq_false_iff, decide_eq_false_iff_not]
    omega
  have polarisation : sitePolarisation f < -9000 ∨ 9000 < sitePolarisation f ↔ fieldFits f 4 = false := by
    simp only [sitePolarisation, fieldFits, Bool.and_eq_false_iff, decide_eq_false_iff_not]
    omega
  have height : siteHeight f < 1200 ∨ 15000 < siteHeight f ∨ siteHeight f % 10 ≠ 0 ↔ fieldFits f 5 = false := by
    simp only [siteHeight, fieldFits, Bool.and_eq_false_iff, decide_eq_false_iff_not, beq_eq_false_iff_ne]
    omega
  have pattern : 0x01 < f.pattern.toNat ↔ fieldFits f 6 = false := by
    simp only [fieldFits, decide_eq_false_iff_not, Nat.not_le]
  have stepSize : f.stepSize.toNat < 5 ∨ 200 < f.stepSize.toNat ↔ fieldFits f 7 = false := by
    simp only [fieldFits, Bool.and_eq_false_iff, decide_eq_false_iff_not, Nat.not_le]
  have row : f.rowLength.toNat < 2 ∨ 16 < f.rowLength.toNat ↔ fieldFits f 9 = false := by
    simp only [fieldFits, Bool.and_eq_false_iff, decide_eq_false_iff_not, Nat.not_le]
  have learn : 0x01 < f.learn.toNat ↔ fieldFits f 10 = false := by
    simp only [fieldFits, decide_eq_false_iff_not, Nat.not_le]
  have source : 0x02 < f.levelSource.toNat ↔ fieldFits f 11 = false := by
    simp only [fieldFits, decide_eq_false_iff_not, Nat.not_le]
  unfold siteFirstOutOfRange
  simp only [bearing, elevation, polarisation, height, pattern, stepSize, row, learn, source]
  rfl

/-- A position at which a field can be out of range (R106). -/
theorem position_of_unfit {f : SiteFields} {k : Nat} (unfit : fieldFits f k = false) : 1 ≤ k ∧ k ≤ 11 ∧ k ≠ 8 := by
  unfold fieldFits at unfit
  split at unfit
  case h_11 => cases unfit
  all_goals decide

theorem siteFirstOutOfRange_some {f : SiteFields} {k : Nat} (unfit : fieldFits f k = false)
    (first : ∀ j, j < k → fieldFits f j = true) : siteFirstOutOfRange f = some k := by
  obtain ⟨least, most, listed⟩ := position_of_unfit unfit
  rw [siteFirstOutOfRange_eq]
  have place : k = 1 ∨ k = 2 ∨ k = 3 ∨ k = 4 ∨ k = 5 ∨ k = 6 ∨ k = 7 ∨ k = 9 ∨ k = 10 ∨ k = 11 := by omega
  rcases place with rfl | rfl | rfl | rfl | rfl | rfl | rfl | rfl | rfl | rfl
  all_goals simp [unfit, first]

theorem siteFirstOutOfRange_none {f : SiteFields} (fit : fieldsFit f) : siteFirstOutOfRange f = none := by
  rw [siteFirstOutOfRange_eq]
  simp [fit 1, fit 2, fit 3, fit 4, fit 5, fit 6, fit 7, fit 9, fit 10, fit 11]

/-- Settles O46. -/
theorem stageSiteStagesACandidate : Obligations.StageSiteStagesACandidate := by
  rintro p slot f r s rfl h
  refine ⟨fun beyond => exec_of_refused rfl h (if_pos beyond) rfl, fun who n small erasing => ?_, fun small still =>
    ⟨fun unfit => ?_, fun k unfit first => ?_, fun fit => ?_⟩⟩
  · refine exec_of_refused rfl h ?_ rfl
    unfold stageSite answerBusy
    rw [if_neg (by omega), erasing]
    rfl
  · obtain ⟨k, out⟩ := Classical.not_forall.mp unfit
    rw [Bool.not_eq_true] at out
    obtain ⟨least, most, -⟩ := position_of_unfit out
    exact ⟨k, least, most, out⟩
  · refine exec_of_refused rfl h ?_ rfl
    unfold stageSite
    rw [if_neg (by omega), still, siteFirstOutOfRange_some unfit first]
    rfl
  · refine exec_of_done rfl h ?_ rfl
    unfold stageSite
    rw [if_neg (by omega), still, siteFirstOutOfRange_none fit]
    rfl

/-! ### COMMIT SITE and RETIRE SITE -/

theorem engine_writing {e : Engine} (busy : e ≠ .idle) (still : e.erasing = false) : e.writing = true ∧ e.tableByte = 0x01 := by
  cases e with
  | idle => exact absurd rfl busy
  | commit | retire => exact ⟨rfl, rfl⟩
  | erase => cases still

theorem cacheEntry_isSome (slot : Nat) (c : Cache) : (cacheEntry c slot).isSome = holds slot c := by
  rw [Bool.eq_iff_iff, cacheEntry, holds, List.find?_isSome, List.any_eq_true]

theorem without_eq (slot : Nat) (c : Cache) : c.without slot = cacheWithout slot c := rfl

theorem removeEntry_absent {slot : Nat} (cause : FlushCause) (requester : Option Port) (absent : holds slot s.cache = false) :
    removeEntry slot cause requester s = s := by
  have none : cacheEntry s.cache slot = none := by
    rw [← Option.not_isSome_iff_eq_none, cacheEntry_isSome, absent]
    exact Bool.false_ne_true
  unfold removeEntry
  rw [none]

theorem removeEntry_present {slot : Nat} (cause : FlushCause) (requester : Option Port) (present : holds slot s.cache = true) :
    removeEntry slot cause requester s =
      placeAll (.cacheFlushed cause (some slot) requester 1 (cacheWithout slot s.cache).entries.length)
        (s.setCache (cacheWithout slot s.cache)) := by
  obtain ⟨e, found⟩ : ∃ e, cacheEntry s.cache slot = some e := by
    rw [← Option.isSome_iff_exists, cacheEntry_isSome, present]
  unfold removeEntry
  rw [found]
  rfl

theorem committedSite_of_committed {t : Store} {n : Nat} {k : Contents} (still : t.engine.erasing = false)
    (state : (t.slotAt n).state = .committed) (contents : (t.slotAt n).contents = some k) : t.committedSite n = some k.site := by
  unfold Store.committedSite
  rw [if_pos ⟨still, state⟩, contents]
  rfl

theorem commitSite_checked {p : Port} {slot : Nat} {c : Candidate} (small : slot ≤ 47) (still : s.store.engine.erasing = false)
    (staged : s.store.staging.get p = some c) (same : c.slot = slot) :
    commitSite p slot c.check s = commitCandidate p (.commitSite slot c.check) slot c s := by
  unfold commitSite
  rw [if_neg (by omega), still, staged]
  simp [same]

theorem redirection_fits {slot : Nat} {redirection : Option Nat} (small : slot ≤ 47)
    (others : ∀ n, redirection = some n → n ≤ 47) : ¬(47 < slot ∨ redirection.any (fun n => 47 < n) = true) := by
  rintro (beyond | beyond)
  · omega
  · cases redirection with
    | none => cases beyond
    | some n => exact absurd (others n rfl) (by simpa using beyond)

theorem retireSite_checked {p : Port} {slot : Nat} {redirection : Option Nat} (small : slot ≤ 47)
    (others : ∀ n, redirection = some n → n ≤ 47) (still : s.store.engine.erasing = false) :
    retireSite p slot redirection s = retireSlot p (.retireSite slot redirection) slot redirection s := by
  unfold retireSite
  rw [if_neg (redirection_fits small others), still]
  rfl

theorem badRedirection_none {slot : Nat} {redirection : Option Nat} {t : Store}
    (good : ∀ n, redirection = some n → n ≠ slot ∧ (t.slotAt n).state = .committed) :
    badRedirection slot redirection t = none := by
  cases redirection with
  | none => rfl
  | some n =>
    obtain ⟨other, committed⟩ := good n rfl
    exact if_neg (by simp [other, committed])

/-- An accepted retire writes the slot behind the removal of its entry, which leaves the store as it stands (R115). -/
theorem beginRetire_eq (p : Port) (slot : Nat) (redirection : Option Nat) (site : SiteFields) (s : State) :
    beginRetire p slot redirection site s =
      (removeEntry slot .retire none s).setStore
        { (s.store.setSlot slot (writingSlot site (optionByte redirection))) with engine := .retire slot p } := by
  have store : (removeEntry slot .retire none s).store = s.store := by simp
  unfold beginRetire
  simp only [store]

/-- A removal of a held entry, as the notice placed before the entry leaves: the two do not meet (R132). -/
theorem removeEntry_setCache {slot : Nat} (cause : FlushCause) (requester : Option Port) (s : State) :
    ∃ u, onlyOutputs (fun _ => [10]) s u
      ∧ (holds slot s.cache = true →
          tellsAll (.cacheFlushed cause (some slot) requester 1 (cacheWithout slot s.cache).entries.length) s u)
      ∧ (holds slot s.cache = false → u = s)
      ∧ removeEntry slot cause requester s
          = u.setCache (if holds slot s.cache = true then cacheWithout slot s.cache else s.cache) := by
  cases present : holds slot s.cache with
  | false =>
    refine ⟨s, onlyOutputs_refl _ s, nofun, fun _ => rfl, ?_⟩
    rw [removeEntry_absent cause requester present]
    rfl
  | true =>
    have told := placeAll_tells (.cacheFlushed cause (some slot) requester 1 (cacheWithout slot s.cache).entries.length)
      (s.setCache (cacheWithout slot s.cache))
    have changed : onlyOutputs (fun _ => [10]) (s.setCache (cacheWithout slot s.cache)) (removeEntry slot cause requester s) := by
      rw [removeEntry_present cause requester present]
      exact placeAll_onlyOutputs (told := fun _ => [10]) _ (fun _ => List.mem_singleton.mpr rfl) _
    rw [← removeEntry_present cause requester present] at told
    obtain ⟨cab, rack, link, besideCab, besideRack, besideLink, same⟩ := changed
    rw [same] at told
    exact ⟨_, ⟨cab, rack, link, besideCab, besideRack, besideLink, rfl⟩, fun _ => told, nofun, same⟩

/-- Settles O47. -/
theorem siteWritesBegin : Obligations.SiteWritesBegin := by
  refine ⟨?_, ?_⟩
  · rintro p slot check r s rfl h
    refine ⟨fun beyond => exec_of_refused rfl h (if_pos beyond) rfl, fun who n small erasing => ?_,
      fun small still => ⟨fun unstaged => ?_, fun c staged same => ⟨fun differs => ?_, ?_, ?_, ?_⟩⟩⟩
    · refine exec_of_refused rfl h ?_ rfl
      unfold commitSite answerBusy
      rw [if_neg (by omega), erasing]
      rfl
    · refine exec_of_refused rfl h ?_ rfl
      unfold commitSite
      rw [if_neg (by omega), still]
      cases staged : s.store.staging.get p with
      | none => rfl
      | some c => simp [unstaged c staged]
    · refine exec_of_refused rfl h ?_ rfl
      unfold commitSite
      rw [if_neg (by omega), still, staged]
      simp [same, differs]
    · rintro rfl busy
      refine exec_of_refused rfl h ?_ rfl
      obtain ⟨writing, byte⟩ := engine_writing busy still
      rw [commitSite_checked small still staged same, commitCandidate, if_pos writing, answerBusy, byte]
    · rintro rfl idle taken
      refine exec_of_refused rfl h ?_ rfl
      rw [commitSite_checked small still staged same, commitCandidate, if_neg (by simp [idle, Engine.writing]), if_pos taken]
    · rintro rfl idle free
      refine exec_of_done rfl h ?_ rfl
      rw [commitSite_checked small still staged same, commitCandidate, if_neg (by simp [idle, Engine.writing]),
        if_neg (not_not_intro free)]
      rfl
  · rintro p slot redirection r s rfl h
    refine ⟨fun beyond => exec_of_refused rfl h (if_pos ?_) rfl, fun small others => ⟨fun who n erasing => ?_, fun busy still => ?_,
      fun idle uncommitted => ?_, fun k idle state contents => ⟨fun n named bad => ?_, fun good => ?_⟩⟩⟩
    · rcases beyond with slot | ⟨n, rfl, high⟩
      · exact Or.inl slot
      · exact Or.inr (by simpa using high)
    · refine exec_of_refused rfl h ?_ rfl
      have fits : ¬(47 < slot ∨ redirection.any (fun n => 47 < n) = true) := redirection_fits small others
      unfold retireSite answerBusy
      rw [if_neg fits, erasing]
      rfl
    · refine exec_of_refused rfl h ?_ rfl
      obtain ⟨writing, byte⟩ := engine_writing busy still
      rw [retireSite_checked small others still, retireSlot, if_pos writing, answerBusy, byte]
    · refine exec_of_refused rfl h ?_ rfl
      have none : s.store.committedSite slot = none := if_neg (by simp [uncommitted])
      rw [retireSite_checked small others (by rw [idle]; rfl), retireSlot, if_neg (by simp [idle, Engine.writing]), none]
    all_goals
      have site := committedSite_of_committed (by rw [idle]; rfl) state contents
      have checked := retireSite_checked (p := p) small others (show s.store.engine.erasing = false by rw [idle]; rfl)
      rw [retireSlot, if_neg (by simp [idle, Engine.writing]), site] at checked
    · refine exec_of_refused rfl h (checked.trans ?_) rfl
      have refused : badRedirection slot redirection s.store = some (s.store.slotAt n).state := by
        rw [named]
        exact if_pos bad
      simp only [refused]
    · rw [badRedirection_none good] at checked
      obtain ⟨u, changed, told, untold, removed⟩ := removeEntry_setCache (slot := slot) .retire none s
      refine ⟨u, changed, told, untold, exec_of_done rfl h (checked.trans ?_) rfl⟩
      simp only [beginRetire_eq, removed]
      rfl

end Sys2Proof.Machine
end

section
/-! The ends of the write engine's operations, the cache's removals, and the settings (R112 to R118, R126 to R132, R170). -/

namespace Sys2Proof.Machine

variable {s : State}

/-! ### The ends of writes and of the erase -/

theorem badCheck_ne (right error : Check) : badCheck right error ≠ right := by
  have changed : (if error = 0 then 0x0001 else error) ≠ (0 : Check) := by
    split
    · decide
    · assumption
  intro same
  refine changed ?_
  have cancels := congrArg (fun x => right ^^^ x) same
  simpa [badCheck, ← BitVec.xor_assoc] using cancels

theorem writtenSlot_good (retire : Bool) (x : Slot) :
    (writtenSlot retire .good x).state = (if retire = true then .retired else .committed)
      ∧ (writtenSlot retire .good x).contents = x.contents := ⟨rfl, rfl⟩

theorem writtenSlot_bad (retire : Bool) {back : ReadBack} (bad : back ≠ .good) (x : Slot) :
    (writtenSlot retire back x).state = .damaged
      ∧ ∃ found, (writtenSlot retire back x).contents = some found ∧ found.good = false := by
  cases back with
  | good => exact absurd rfl bad
  | bad site redirection error =>
    refine ⟨rfl, _, rfl, ?_⟩
    exact beq_eq_false_iff_ne.mpr (badCheck_ne _ _)

theorem writtenSlot_state (retire : Bool) (back : ReadBack) (x : Slot) :
    (writtenSlot retire back x).state =
      match back with
      | .good => if retire = true then .retired else .committed
      | .bad _ _ _ => .damaged := by
  cases back <;> rfl

/-- A notice of a store operation placed on one port: whatever its mask if it began the write (R121). -/
def placeStored (writer : Port) (body : NoticeBody) (p : Port) (s : State) : State :=
  if p = writer then placeAlways p body s else placeOn p body s

/-- The port that began the write is told, another port if its mask admits the kind (R121). -/
def toldStored (writer : Port) (body : NoticeBody) (p : Port) (s t : State) : Prop :=
  if p = writer then tells p body s t else tellsIf p body s t

theorem placeWritten_eq (writer : Port) (body : NoticeBody) (s : State) :
    placeWritten writer body s
      = placeStored writer body .link (placeStored writer body .rack (placeStored writer body .cab s)) := rfl

theorem placeStored_onlyOutputs (writer : Port) (body : NoticeBody) (p : Port) (s : State) :
    onlyOutputs (fun _ => [body.kind]) s (placeStored writer body p s) := by
  unfold placeStored
  split
  · exact placeAlways_onlyOutputs p body (List.mem_singleton.mpr rfl) s
  · exact placeOn_onlyOutputs p body (List.mem_singleton.mpr rfl) s

theorem placeWritten_onlyOutputs (writer : Port) (body : NoticeBody) (s : State) :
    onlyOutputs (fun _ => [body.kind]) s (placeWritten writer body s) :=
  onlyOutputs_trans
    (onlyOutputs_trans (placeStored_onlyOutputs writer body .cab s) (placeStored_onlyOutputs writer body .rack _))
    (placeStored_onlyOutputs writer body .link _)

theorem placeAlways_other (p q : Port) (body : NoticeBody) (s : State) (h : q ≠ p) :
    (placeAlways p body s).ports.get q = s.ports.get q := by
  simp [placeAlways, updatePort, Ports.get_set, h]

theorem placeStored_other (writer : Port) (body : NoticeBody) {p q : Port} (s : State) (h : q ≠ p) :
    (placeStored writer body p s).ports.get q = s.ports.get q := by
  unfold placeStored
  split
  · exact placeAlways_other p q body s h
  · exact placeOn_other p q body s h

theorem placeStored_told (writer : Port) (body : NoticeBody) (p : Port) (s : State) :
    toldStored writer body p s (placeStored writer body p s) := by
  unfold toldStored placeStored
  split
  · exact placeAlways_tells p body s
  · exact placeOn_tells p body s

/-- Whether a port is told depends on that port alone. -/
theorem tells_of_port {p : Port} {body : NoticeBody} {s s' t t' : State} (hs : s'.ports.get p = s.ports.get p)
    (ht : t'.ports.get p = t.ports.get p) (h : tells p body s t) : tells p body s' t' := by
  unfold tells at *
  rw [hs, ht]
  exact h

theorem toldStored_of_port {writer p : Port} {body : NoticeBody} {s s' t t' : State} (hs : s'.ports.get p = s.ports.get p)
    (ht : t'.ports.get p = t.ports.get p) (h : toldStored writer body p s t) : toldStored writer body p s' t' := by
  unfold toldStored at *
  split
  · next writes => exact tells_of_port hs ht (by simpa [writes] using h)
  · next others => exact tellsIf_of_port hs ht (by simpa [others] using h)

theorem placeWritten_told (writer : Port) (body : NoticeBody) (p : Port) (s : State) :
    toldStored writer body p s (placeWritten writer body s) := by
  rw [placeWritten_eq]
  cases p
  · refine toldStored_of_port rfl ?_ (placeStored_told writer body .cab s)
    rw [placeStored_other writer body _ (by decide), placeStored_other writer body _ (by decide)]
  · exact toldStored_of_port (placeStored_other writer body s (by decide)).symm (placeStored_other writer body _ (by decide))
      (placeStored_told writer body .rack _)
  · refine toldStored_of_port ?_ rfl (placeStored_told writer body .link _)
    rw [placeStored_other writer body _ (by decide), placeStored_other writer body _ (by decide)]

/-- The writer is told whatever its mask, the others under theirs (R121). -/
theorem placeWritten_tells (writer : Port) (body : NoticeBody) (s : State) :
    tells writer body s (placeWritten writer body s) ∧ ∀ q, q ≠ writer → tellsIf q body s (placeWritten writer body s) := by
  refine ⟨?_, fun q other => ?_⟩
  · simpa [toldStored] using placeWritten_told writer body writer s
  · simpa [toldStored, other] using placeWritten_told writer body q s

/-- Settles O48. -/
theorem aSlotWriteEnds : Obligations.ASlotWriteEnds := by
  intro back slot writer retire reached k s on
  refine ⟨fun idle => ?_, fun engine fits contents reaches => ?_⟩
  · rw [exec_of_powered rfl on]
    unfold endSlotWrite
    rw [idle]
  · have write : s.store.engine.write = some (slot, writer, retire) := by
      rw [engine]
      cases retire <;> rfl
    obtain ⟨count, holds⟩ := fits
    obtain ⟨small, -⟩ := holds slot writer retire write
    rw [← count] at small
    have written : (s.store.writeEnded slot retire back).slotAt slot = writtenSlot retire back (s.store.slotAt slot) :=
      slotAt_setSlot_same _ small
    have state : ((s.store.writeEnded slot retire back).slotAt slot).state = reached := by
      rw [written, reaches]
      cases back <;> rfl
    have ended : endSlotWrite back s =
        placeWritten writer (.siteWritten slot reached (if retire = true then .retire else .commit) writer k.redirection 1)
          (s.setStore (s.store.writeEnded slot retire back)) := by
      unfold endSlotWrite redirectionByte
      simp only [write, state, contents]
    have store : (endSlotWrite back s).store = s.store.writeEnded slot retire back := by rw [ended]; simp
    refine ⟨endSlotWrite back s, exec_of_powered rfl on, ?_, ?_, ?_, ?_, ?_, ?_, ?_, ?_⟩
    · rw [store, ended]
      exact placeWritten_onlyOutputs writer
        (.siteWritten slot reached (if retire = true then .retire else .commit) writer k.redirection 1) _
    · intro m other
      rw [store]
      exact writeEnded_slotAt_other retire back other
    · rw [store]
      rfl
    · rw [store]
      rfl
    · rw [store, state]
    · rintro rfl
      rw [store, written]
      exact contents
    · intro bad
      rw [store, written]
      exact (writtenSlot_bad retire bad _).2
    · rw [ended]
      exact placeWritten_tells writer _ _

/-- A flush empties the cache and tells it, with the number of entries that it removes (R131, R134). -/
theorem flushCache_told (cause : FlushCause) (requester : Option Port) (s : State) :
    onlyOutputs (fun _ => [10]) (s.setCache { entries := [], reference := none }) (flushCache cause requester s)
      ∧ tellsAll (.cacheFlushed cause none requester s.cache.entries.length 0) s (flushCache cause requester s) :=
  ⟨placeAll_onlyOutputs (told := fun _ => [10]) _ (fun _ => List.mem_singleton.mpr rfl) _,
    placeAll_tells (.cacheFlushed cause none requester s.cache.entries.length 0) (s.setCache Cache.start)⟩

/-- Settles O49. -/
theorem eraseTableFreesEverySlot : Obligations.EraseTableFreesEverySlot := by
  rintro p n s rfl
  refine ⟨fun h => ⟨fun other => exec_of_refused rfl h (if_pos other) rfl, ?_⟩, fun on => ⟨fun who k erase => ?_, fun still => ?_⟩⟩
  · rintro rfl
    have scans : s.exe.queue.any Entry.isScan = true ↔ ∃ e q, e ∈ s.exe.queue ∧ e.motion = .scan q := by
      simp only [List.any_eq_true, Entry.isScan, Motion.axis]
      refine exists_congr fun e => ?_
      cases e.motion <;> simp
    refine ⟨fun busy => ?_, fun idle none => ?_⟩
    · refine exec_of_refused rfl h ?_ rfl
      unfold eraseTable
      rw [if_neg (by simp), if_pos (busy.imp id scans.mpr)]
      rfl
    · have unscanned : ¬(s.store.engine ≠ .idle ∨ s.exe.queue.any Entry.isScan = true) := by
        rintro (busy | some)
        · exact busy idle
        · obtain ⟨e, q, member, motion⟩ := scans.mp some
          exact none e q member motion
      have begun : eraseTable .rack s = respond .rack .eraseTable .accepted [byteOf (notFreeCount s.store)]
          (flushCache .erase (some .rack)
            (s.setStore { s.store with engine := .erase .rack (notFreeCount s.store), staging := Ports.all Option.none })) := by
        unfold eraseTable
        rw [if_neg (by simp), if_neg unscanned]
      obtain ⟨changed, told⟩ := flushCache_told .erase (some .rack)
        (s.setStore { s.store with engine := .erase .rack (notFreeCount s.store), staging := Ports.all Option.none })
      exact ⟨_, exec_of_done rfl h begun rfl, changed, told⟩
  · have ended : endErase s = placeAll (.tableErased who k) (s.setStore s.store.erased) := by
      unfold endErase
      rw [erase]
    refine ⟨endErase s, exec_of_powered rfl on, ?_, ?_⟩
    · rw [ended]
      exact placeAll_onlyOutputs (told := fun _ => [9]) _ (fun _ => List.mem_singleton.mpr rfl) _
    · rw [ended]
      exact placeAll_tells (.tableErased who k) (s.setStore s.store.erased)
  · rw [exec_of_powered rfl on]
    unfold endErase
    split
    · next who n erase => simp [erase, Engine.erasing] at still
    · rfl

end Sys2Proof.Machine
end

section
/-! The cache's removals and the settings (R8, R126 to R132, R170). -/

namespace Sys2Proof.Machine

variable {s : State}

/-! ### Removals -/

theorem clamp_eq {least greatest : Int} (v : Int) (order : least ≤ greatest) :
    clamp least greatest v = max least (min greatest v) := by
  unfold clamp
  split
  · omega
  · split <;> omega

theorem recordLevel_eq (sample : Level) (s : State) :
    recordLevel sample s = s.setPose
      { s.pose with
        level := { pitch := max (-3000) (min 3000 sample.pitch), roll := max (-3000) (min 3000 sample.roll) } } := by
  unfold recordLevel limitLevel
  rw [clamp_eq _ (by omega), clamp_eq _ (by omega)]

theorem compareLevel_within (near : levelWithin s.settings.inForce.tolerance s) : compareLevel s = s := by
  unfold compareLevel
  split
  · rfl
  · next ref reference =>
    obtain ⟨pitch, roll⟩ := near ref reference
    exact if_neg (by omega)

theorem compareLevel_beyond (far : ¬levelWithin s.settings.inForce.tolerance s) : compareLevel s = flushCache .level none s := by
  unfold compareLevel
  split
  · next missing => exact absurd (fun ref reference => by rw [missing] at reference; cases reference) far
  · next ref reference =>
    refine if_pos ?_
    refine Classical.byContradiction fun near => ?_
    refine far fun other same => ?_
    obtain rfl := Option.some.inj (reference.symm.trans same)
    omega

/-- Settles O50. -/
theorem cacheRemovals : Obligations.CacheRemovals := by
  rintro p slot sample s u rfl
  refine ⟨fun h => ⟨fun cab => exec_of_refused rfl h (if_pos cab) rfl, fun other beyond => ?_, fun other small absent => ?_,
    fun other small present => ?_⟩, fun h => ?_, fun on => ?_⟩
  · refine exec_of_refused rfl h ?_ rfl
    unfold invalidateSite
    rw [if_neg other, if_pos beyond]
  · refine exec_of_done rfl h ?_ rfl
    unfold invalidateSite
    rw [if_neg other, if_neg (by omega), cacheEntry_isSome, absent, removeEntry_absent _ _ absent]
    rfl
  · have taken : invalidateSite p slot s =
        respond p (.invalidateSite slot) .done [0x01] (removeEntry slot .invalidate (some p) s) := by
      unfold invalidateSite
      rw [if_neg other, if_neg (by omega), cacheEntry_isSome, present]
      rfl
    refine ⟨_, exec_of_done rfl h taken rfl, ?_, ?_⟩
    · rw [removeEntry_present _ _ present]
      exact placeAll_onlyOutputs (told := fun _ => [10]) _ (fun _ => List.mem_singleton.mpr rfl) _
    · rw [removeEntry_present _ _ present]
      exact placeAll_tells (.cacheFlushed .invalidate (some slot) (some p) 1 (cacheWithout slot s.cache).entries.length)
        (s.setCache (cacheWithout slot s.cache))
  · obtain ⟨changed, told⟩ := flushCache_told .flush (some p) s
    exact ⟨_, exec_of_done rfl h rfl rfl, changed, told⟩
  · have taken : exec (.inclinometerSample sample) s = .next (compareLevel (recordLevel sample s)) :=
      exec_of_powered (f := fun s => compareLevel (recordLevel sample s)) rfl on
    rw [taken, recordLevel_eq]
    refine ⟨fun near => congrArg Host.Outcome.next (compareLevel_within near), fun far => ⟨_, rfl, ?_⟩⟩
    rw [compareLevel_beyond far]
    exact flushCache_told .level none _

/-! ### Settings -/

theorem featureValue_eq (v : SettingValues) (g : Byte) :
    featureValue v g =
      if g = 0x01 then some v.idleTimeout else if g = 0x02 then some v.levelSource else if g = 0x03 then some v.dwell
      else if g = 0x04 then some v.block else if g = 0x05 then some v.learnThreshold else if g = 0x06 then some v.pulses
      else if g = 0x07 then some v.ceiling else if g = 0x08 then some v.tolerance else if g = 0x09 then some v.suspension
      else none := by
  have same : ∀ k : Byte, g = k ↔ g.toNat = k.toNat := fun k => (BitVec.toNat_inj).symm
  simp only [same, featureValue]
  generalize g.toNat = n
  match n with
  | 0 | 1 | 2 | 3 | 4 | 5 | 6 | 7 | 8 | 9 => rfl
  | n + 10 => simp

/-- A configured set has the new value in its place and every other as it was (R170). -/
theorem configured_values {v w : SettingValues} {feature : Byte} {x : Int} (set : configured v feature x = some w) :
    featureValue w feature = some x ∧ ∀ g, g ≠ feature → featureValue w g = featureValue v g := by
  unfold configured at set
  repeat' split at set
  all_goals cases set
  all_goals
    rename_i named
    obtain ⟨rfl, -⟩ := named
    refine ⟨by rw [featureValue_eq]; rfl, fun g differs => ?_⟩
    simp only [featureValue_eq, if_neg differs]

theorem supported_of_configured {v w : SettingValues} {feature : Byte} {x : Int} (set : configured v feature x = some w) :
    supported feature x := by
  unfold configured at set
  repeat' split at set
  all_goals cases set
  all_goals
    rename_i named
    obtain ⟨rfl, least, most⟩ := named
  · exact ⟨⟨0, 255, by decide, least, most⟩, fun other => absurd other (by decide)⟩
  · exact ⟨⟨0, 1, by decide, least, most⟩, fun other => absurd other (by decide)⟩
  · exact ⟨⟨100, 2000, by decide, least, most⟩, fun other => absurd other (by decide)⟩
  · exact ⟨⟨0, 32, by decide, least, most⟩, fun other => absurd other (by decide)⟩
  · exact ⟨⟨-1200, 0, by decide, least, most⟩, fun other => absurd other (by decide)⟩
  · exact ⟨⟨2, 100, by decide, least, most⟩, fun other => absurd other (by decide)⟩
  · obtain ⟨most, tens⟩ := most
    exact ⟨⟨3000, 15000, by decide, least, most⟩, fun _ => tens⟩
  · exact ⟨⟨10, 100, by decide, least, most⟩, fun other => absurd other (by decide)⟩
  · exact ⟨⟨10, 600, by decide, least, most⟩, fun other => absurd other (by decide)⟩

theorem configured_of_supported {feature : Byte} {x : Int} (v : SettingValues) (fits : supported feature x) :
    ∃ w, configured v feature x = some w := by
  obtain ⟨⟨low, high, listed, least, most⟩, tens⟩ := fits
  have divides : feature = 0x07 → 10 ∣ x := fun named => Int.dvd_of_emod_eq_zero (tens named)
  simp only [featureRanges, List.mem_cons, Prod.mk.injEq, List.not_mem_nil, or_false] at listed
  rcases listed with h | h | h | h | h | h | h | h | h
  all_goals
    obtain ⟨rfl, rfl, rfl⟩ := h
    simp [configured, least, most, tens, divides]

theorem configured_unsupported {feature : Byte} {x : Int} (v : SettingValues) (unfit : ¬supported feature x) :
    configured v feature x = none := by
  cases set : configured v feature x with
  | none => rfl
  | some w => exact absurd (supported_of_configured set) unfit

theorem beginWrite_eq (values : SettingValues) (feature : Byte) (x : Int) (s : State) :
    beginWrite .rack values feature x s =
      withPort .rack { s.ports.rack with inHand := .working }
        (s.setSettings { s.settings with inForce := values, writing := some (feature, x) }) := rfl

/-- A comparison under a tolerance now in force: within it nothing changes, beyond it the cache is flushed (R130). -/
theorem compareLevel_written (s : State) (values : SettingValues) (feature : Byte) (x : Int) :
    (levelWithin values.tolerance s →
        compareLevel (beginWrite .rack values feature x s) = beginWrite .rack values feature x s)
      ∧ (¬levelWithin values.tolerance s →
          onlyOutputs (fun _ => [10])
              (withPort .rack { s.ports.rack with inHand := .working }
                ((s.setSettings { s.settings with inForce := values, writing := some (feature, x) }).setCache
                  { entries := [], reference := none }))
              (compareLevel (beginWrite .rack values feature x s))
            ∧ tellsAll (.cacheFlushed .level none none s.cache.entries.length 0) s
                (compareLevel (beginWrite .rack values feature x s))) := by
  refine ⟨fun near => compareLevel_within (s := beginWrite .rack values feature x s) near, fun far => ?_⟩
  rw [compareLevel_beyond (s := beginWrite .rack values feature x s) far]
  obtain ⟨changed, told⟩ := flushCache_told .level none (beginWrite .rack values feature x s)
  refine ⟨changed, tellsAll_after (fun p => ?_) told⟩
  cases p <;> exact ⟨rfl, rfl⟩

/-- Settles O51. -/
theorem settingsAreWritten : Obligations.SettingsAreWritten := by
  intro p feature x s
  refine ⟨fun h => ⟨fun other => exec_of_refused rfl h (if_pos other) rfl, ?_, ?_⟩,
    fun h => ⟨fun other => exec_of_refused rfl h (if_pos other) rfl, ?_, ?_⟩, fun on => ⟨fun idle => ?_, fun writing => ?_⟩⟩
  · rintro rfl - unfit
    refine exec_of_refused rfl h ?_ rfl
    unfold configure
    rw [if_neg (not_not_intro rfl), configured_unsupported _ unfit]
  · rintro rfl fits
    obtain ⟨v, set⟩ := configured_of_supported s.settings.inForce fits
    obtain ⟨value, others⟩ := configured_values set
    have begun : exec (.configure .rack feature x) s =
        .next (if feature = 0x08 then compareLevel (beginWrite .rack v feature x s) else beginWrite .rack v feature x s) := by
      refine (exec_of_takes rfl h).trans (congrArg Host.Outcome.next ?_)
      unfold configure
      rw [if_neg (not_not_intro rfl), set]
    have tolerance : feature = 0x08 → v.tolerance = x := by
      rintro rfl
      exact Option.some.inj value
    obtain ⟨near, far⟩ := compareLevel_written s v feature x
    refine ⟨v, value, others, fun still => ?_, fun named beyond => ?_⟩
    · rw [begun]
      by_cases named : feature = 0x08
      · rw [if_pos named]
        rcases still with other | within
        · exact absurd named other
        · rw [← tolerance named] at within
          rw [near within]
          rfl
      · rw [if_neg named]
        rfl
    · rw [begun, if_pos named]
      rw [← tolerance named] at beyond
      exact ⟨_, rfl, far beyond⟩
  · rintro rfl still
    refine (exec_of_takes rfl h).trans (congrArg Host.Outcome.next ?_)
    unfold revert toleranceTaken
    rw [if_neg (not_not_intro rfl)]
    obtain ⟨near, -⟩ := compareLevel_written s SettingValues.defaults 0x7F 0
    split
    · rfl
    · next changed =>
      rcases still with same | within
      · exact absurd same.symm changed
      · exact near within
  · rintro rfl changed beyond
    have begun : exec (.revert .rack) s = .next (compareLevel (beginWrite .rack SettingValues.defaults 0x7F 0 s)) := by
      refine (exec_of_takes rfl h).trans (congrArg Host.Outcome.next ?_)
      unfold revert toleranceTaken
      rw [if_neg (not_not_intro rfl), if_neg]
      exact fun same => changed same.symm
    obtain ⟨-, far⟩ := compareLevel_written s SettingValues.defaults 0x7F 0
    exact ⟨_, begun, far beyond⟩
  · rw [exec_of_powered rfl on]
    unfold endSettingsWrite
    rw [idle]
  · rw [exec_of_powered rfl on]
    unfold endSettingsWrite
    rw [writing]
    exact congrArg Host.Outcome.next (respond_done _ _ _ _ _ rfl)

end Sys2Proof.Machine
end

section
/-! What an operation does to the output lists: it places notices of the kinds named, and leaves the responses, the other notices
and the masks as they stand (R161 to R163). -/

namespace Sys2Proof.Machine

variable {s t u : State} {kinds : List Nat}

/-- The output lists and the masks are kept, but for the notices of some kinds. -/
def keepsLists (kinds : List Nat) (s t : State) : Prop :=
  ∀ p : Port, besides kinds (t.ports.get p).output = besides kinds (s.ports.get p).output
    ∧ (t.ports.get p).mask = (s.ports.get p).mask

theorem keepsLists_refl (kinds : List Nat) (s : State) : keepsLists kinds s s := fun _ => ⟨rfl, rfl⟩

theorem keepsLists_of_ports (ports : t.ports = s.ports) : keepsLists kinds s t := fun p => by rw [ports]; exact ⟨rfl, rfl⟩

theorem keepsLists_trans (first : keepsLists kinds s t) (second : keepsLists kinds t u) : keepsLists kinds s u := fun p =>
  ⟨(second p).1.trans (first p).1, (second p).2.trans (first p).2⟩

/-- A change of no port before, or after, an operation. -/
theorem keepsLists_before (ports : t.ports = s.ports) (h : keepsLists kinds t u) : keepsLists kinds s u :=
  keepsLists_trans (keepsLists_of_ports ports) h

theorem keepsLists_then (h : keepsLists kinds s t) (ports : u.ports = t.ports) : keepsLists kinds s u :=
  keepsLists_trans h (keepsLists_of_ports ports)

theorem sameBesides_of_keeps (h : keepsLists kinds s t) : sameBesides kinds s t := fun p => (h p).1

theorem besides_besides {few many : List Nat} (subset : few ⊆ many) (l : List OutItem) :
    besides many (besides few l) = besides many l := by
  unfold besides
  rw [List.filter_filter]
  refine List.filter_congr fun i _ => ?_
  cases i with
  | response r => rfl
  | notice body merged =>
    by_cases listed : body.kind ∈ few
    · simp [listed, subset listed]
    · simp [listed]

theorem keepsLists_mono {few many : List Nat} (subset : few ⊆ many) (h : keepsLists few s t) : keepsLists many s t := fun p => by
  obtain ⟨lists, mask⟩ := h p
  refine ⟨?_, mask⟩
  rw [← besides_besides subset, lists, besides_besides subset]

theorem noticeOf_besides {k : Nat} (other : k ∉ kinds) (l : List OutItem) : noticeOf k (besides kinds l) = noticeOf k l := by
  induction l with
  | nil => rfl
  | cons i rest ih =>
    cases i with
    | response r => simpa [besides, noticeOf] using ih
    | notice body merged =>
      by_cases listed : body.kind ∈ kinds
      · have differs : body.kind ≠ k := fun same => other (same ▸ listed)
        simpa [besides, noticeOf, listed, differs] using ih
      · have stands : besides kinds (.notice body merged :: rest) = .notice body merged :: besides kinds rest := by
          simp [besides, listed]
        rw [stands, noticeOf, noticeOf, ih]

/-- The notices of a kind not placed are as they were. -/
theorem sameNotices_of_keeps {k : Nat} (h : keepsLists kinds s t) (other : k ∉ kinds) : sameNotices k s t := fun p => by
  obtain ⟨lists, mask⟩ := h p
  refine ⟨?_, mask⟩
  rw [← noticeOf_besides other, lists, noticeOf_besides other]

/-! ### Notices placed -/

theorem placeAlways_keeps (p : Port) (body : NoticeBody) (s : State) (listed : body.kind ∈ kinds) :
    keepsLists kinds s (placeAlways p body s) := by
  intro q
  simp only [placeAlways, updatePort, State.setPorts_ports, Ports.get_set]
  split
  · next same =>
    subst same
    exact ⟨besides_placeItem listed _, rfl⟩
  · exact ⟨rfl, rfl⟩

theorem placeOn_keeps (p : Port) (body : NoticeBody) (s : State) (listed : body.kind ∈ kinds) :
    keepsLists kinds s (placeOn p body s) := by
  unfold placeOn
  split
  · exact placeAlways_keeps p body s listed
  · exact keepsLists_refl kinds s

theorem placeAll_keeps (body : NoticeBody) (s : State) (listed : body.kind ∈ kinds) : keepsLists kinds s (placeAll body s) :=
  keepsLists_trans (keepsLists_trans (placeOn_keeps .cab body s listed) (placeOn_keeps .rack body _ listed))
    (placeOn_keeps .link body _ listed)

theorem placeOrigin_keeps (origin : Party) (body : NoticeBody) (s : State) (listed : body.kind ∈ kinds) :
    keepsLists kinds s (placeOrigin origin body s) := by
  unfold placeOrigin
  split
  · exact placeOn_keeps _ body s listed
  · exact keepsLists_refl kinds s

theorem placeCondition_keeps (event : ConditionEvent) (s : State) (twelve : 12 ∈ kinds) :
    keepsLists kinds s (placeCondition event s) := placeAll_keeps (conditionBody event s) s twelve

theorem placeAuthority_keeps (h : Option Party) (event : AuthEvent) (reason : Option AuthReason) (halted discarded : Nat)
    (s : State) (two : 2 ∈ kinds) : keepsLists kinds s (placeAuthority h event reason halted discarded s) := by
  unfold placeAuthority
  split
  · exact placeAlways_keeps _ (.authority event reason halted discarded) s two
  · exact keepsLists_refl kinds s

theorem setAlarmCauses_keeps (park wind : Bool) (s : State) (twelve : 12 ∈ kinds) :
    keepsLists kinds s (setAlarmCauses park wind s) := by
  unfold setAlarmCauses
  dsimp only
  split
  · exact keepsLists_of_ports rfl
  · exact keepsLists_before (State.setSafe_ports s _) (placeCondition_keeps .alarm _ twelve)

/-! ### The executor -/

theorem finishScan_keeps (why : EndReason) (learned : Bool) (s : State) (seven : 7 ∈ kinds) :
    keepsLists kinds s (finishScan why learned s) := by
  unfold finishScan
  split
  · exact keepsLists_before (State.setScan_ports s _) (placeOrigin_keeps _ (.scanEnd _) _ seven)
  · exact keepsLists_refl kinds s

theorem dropActive_keeps (e : Entry) (s : State) : keepsLists kinds s (dropActive e s) := keepsLists_of_ports rfl

theorem completeActive_keeps (s : State) (four : 4 ∈ kinds) : keepsLists kinds s (completeActive s) := by
  unfold completeActive
  split
  · exact keepsLists_refl kinds s
  · next e _ =>
    dsimp only
    exact keepsLists_trans (dropActive_keeps e s)
      (keepsLists_before (State.setExe_ports _ _) (placeOrigin_keeps _ (.segmentDone _ _ _) _ four))

theorem tellSafety_keeps (origin : Party) (s : State) (twelve : 12 ∈ kinds) : keepsLists kinds s (tellSafety origin s) := by
  unfold tellSafety
  split
  · exact keepsLists_before (State.setSafe_ports s _) (setAlarmCauses_keeps _ _ _ twelve)
  · exact keepsLists_of_ports rfl
  · exact keepsLists_refl kinds s

theorem haltAll_keeps (why : EndReason) (s : State) (seven : 7 ∈ kinds) : keepsLists kinds s (haltAll why s) := by
  have scanned : keepsLists kinds s (finishScan why false s) := finishScan_keeps why false s seven
  unfold haltAll
  cases activeEntry s with
  | none => exact keepsLists_then scanned (State.setExe_ports _ _)
  | some e => exact keepsLists_then (keepsLists_then scanned (stopAxes_frame e.motion.axes _).2.2.1) (State.setExe_ports _ _)

theorem haltByOrder_keeps (why : EndReason) (s : State) (seven : 7 ∈ kinds) : keepsLists kinds s (haltByOrder why s) :=
  keepsLists_then (haltAll_keeps why s seven) rfl

theorem suspendActive_keeps (s : State) (fourteen : 14 ∈ kinds) : keepsLists kinds s (suspendActive s) := by
  unfold suspendActive
  split
  · exact keepsLists_refl kinds s
  · refine keepsLists_before ?_ (placeAll_keeps (.supplySuspended _ _ _ _) _ fourteen)
    simp

/-! ### The arbiter -/

theorem giveTo_keeps (p : Port) (reason : AuthReason) (s : State) (two : 2 ∈ kinds) : keepsLists kinds s (giveTo p reason s) :=
  keepsLists_before (s := s) rfl (placeAuthority_keeps _ _ _ _ _ (toHeld p s) two)

theorem passOn_keeps (reason : AuthReason) (s : State) (two : 2 ∈ kinds) : keepsLists kinds s (passOn reason s) := by
  unfold passOn
  split
  · exact giveTo_keeps _ reason s two
  · exact keepsLists_of_ports rfl

theorem retain_keeps (s : State) (two : 2 ∈ kinds) : keepsLists kinds s (retain s) :=
  keepsLists_before (s := s) rfl (placeAuthority_keeps s.arb.holder .retained none 0 0
    (startIdle (s.setArb { s.arb with auth := .held, releaseMark := false, deferred := none })) two)

theorem refuseClaims_keeps (ps : List Port) (s : State) (three : 3 ∈ kinds) : keepsLists kinds s (refuseClaims ps s) := by
  induction ps generalizing s with
  | nil => exact keepsLists_refl kinds s
  | cons p ps ih => exact keepsLists_trans (placeAlways_keeps p .claimRefused s three) (ih _)

theorem enterLockout_keeps (s : State) (three : 3 ∈ kinds) : keepsLists kinds s (enterLockout s) :=
  keepsLists_then (refuseClaims_keeps s.arb.claims s three) rfl

theorem groupCut_keeps (s : State) (twelve : 12 ∈ kinds) : keepsLists kinds s (groupCut s) := by
  unfold groupCut
  split
  · exact keepsLists_before (State.setSafe_ports s _) (setAlarmCauses_keeps _ _ _ twelve)
  · exact keepsLists_of_ports rfl

theorem grantCrank_keeps (lh ld bh bd : Nat) (s : State) (two : 2 ∈ kinds) (thirteen : 13 ∈ kinds) :
    keepsLists kinds s (grantCrank lh ld bh bd s) := by
  unfold grantCrank
  dsimp only
  refine keepsLists_trans (keepsLists_then ?_ rfl) (placeAll_keeps (.manualBegun s.arb.auth s.arb.holder bh bd) _ thirteen)
  split
  · exact keepsLists_refl kinds s
  · exact placeAuthority_keeps _ _ _ _ _ s two

theorem abandonForCrank_keeps (s : State) (two : 2 ∈ kinds) (seven : 7 ∈ kinds) (twelve : 12 ∈ kinds) (thirteen : 13 ∈ kinds) :
    keepsLists kinds s (abandonForCrank s) := by
  unfold abandonForCrank
  split
  · exact keepsLists_refl kinds s
  · dsimp only
    refine keepsLists_trans (keepsLists_trans (keepsLists_then (finishScan_keeps .endedManual false s seven) ?_)
      (groupCut_keeps _ twelve)) (grantCrank_keeps _ _ _ _ _ two thirteen)
    rfl

theorem enlistReason_keeps (r : LockReason) (s : State) (twelve : 12 ∈ kinds) : keepsLists kinds s (enlistReason r s) :=
  keepsLists_before (State.setArb_ports s _) (placeCondition_keeps _ _ twelve)

theorem dropReason_keeps (r : LockReason) (s : State) (twelve : 12 ∈ kinds) : keepsLists kinds s (dropReason r s) := by
  unfold dropReason
  split
  · exact keepsLists_before (State.setArb_ports s _) (placeCondition_keeps _ _ twelve)
  · exact keepsLists_refl kinds s

theorem takeOutstanding_keeps (s : State) (twelve : 12 ∈ kinds) : keepsLists kinds s (takeOutstanding s) := by
  unfold takeOutstanding
  split
  · exact enlistReason_keeps _ s twelve
  · exact keepsLists_refl kinds s

theorem lockOut_keeps (r : LockReason) (s : State) (two : 2 ∈ kinds) (three : 3 ∈ kinds) (seven : 7 ∈ kinds)
    (twelve : 12 ∈ kinds) (thirteen : 13 ∈ kinds) : keepsLists kinds s (lockOut r s) := by
  have halted := keepsLists_trans (takeOutstanding_keeps s twelve) (haltByOrder_keeps (haltReason r) (takeOutstanding s) seven)
  have told := keepsLists_trans halted (placeAuthority_keeps s.arb.holder .lost (some (lostReason r)) (activeTag s)
    (waitingCount s) (haltByOrder (haltReason r) (takeOutstanding s)) two)
  have locked := keepsLists_trans (keepsLists_trans told (groupCut_keeps _ twelve)) (enterLockout_keeps _ three)
  unfold lockOut
  dsimp only
  split
  · exact keepsLists_trans locked (grantCrank_keeps _ _ _ _ _ two thirteen)
  · exact locked

theorem addReason_keeps (r : LockReason) (s : State) (two : 2 ∈ kinds) (three : 3 ∈ kinds) (seven : 7 ∈ kinds)
    (twelve : 12 ∈ kinds) (thirteen : 13 ∈ kinds) : keepsLists kinds s (addReason r s) := by
  have enlisted : keepsLists kinds s (enlistReason r s) := enlistReason_keeps r s twelve
  unfold addReason
  split
  · exact keepsLists_refl kinds s
  dsimp only
  split
  · exact keepsLists_trans enlisted (enterLockout_keeps _ three)
  · exact enlisted
  · exact enlisted
  · exact keepsLists_trans enlisted (lockOut_keeps _ _ two three seven twelve thirteen)
  · exact enlisted
  · exact keepsLists_trans enlisted (lockOut_keeps _ _ two three seven twelve thirteen)

theorem yieldOutcome_keeps (s : State) (two : 2 ∈ kinds) : keepsLists kinds s (yieldOutcome s) := by
  unfold yieldOutcome
  dsimp only
  split
  · exact keepsLists_trans (placeAuthority_keeps _ _ _ _ _ s two) (giveTo_keeps _ _ _ two)
  · split
    · exact keepsLists_then (placeAuthority_keeps s.arb.holder .lost (some .released) 0 0 s two) rfl
    · exact retain_keeps s two

theorem safetyGivesBack_keeps (s : State) (two : 2 ∈ kinds) (three : 3 ∈ kinds) : keepsLists kinds s (safetyGivesBack s) := by
  unfold safetyGivesBack
  split
  · exact passOn_keeps _ s two
  · exact enterLockout_keeps s three

theorem makeHandover_keeps (d : Deferral) (s : State) (two : 2 ∈ kinds) (three : 3 ∈ kinds) :
    keepsLists kinds s (makeHandover d s) := by
  unfold makeHandover
  split
  · split
    · split
      · exact keepsLists_trans (placeAuthority_keeps _ _ _ _ _ s two) (giveTo_keeps _ _ _ two)
      · exact keepsLists_of_ports rfl
    · exact keepsLists_of_ports rfl
  · exact keepsLists_trans (placeAuthority_keeps _ _ _ _ _ s two) (passOn_keeps _ _ two)
  · exact yieldOutcome_keeps s two
  · exact keepsLists_trans (placeAuthority_keeps _ _ _ _ _ s two) (passOn_keeps _ _ two)
  · exact safetyGivesBack_keeps s two three

theorem handOn_keeps (d : Deferral) (s : State) (two : 2 ∈ kinds) (three : 3 ∈ kinds) : keepsLists kinds s (handOn d s) := by
  unfold handOn
  split
  · exact keepsLists_of_ports rfl
  · exact makeHandover_keeps d s two three

/-- A reason that SAFETY's own group leaves halts nothing: it joins the set, and in FREE locks out (R41, R42). -/
theorem addReason_safety_keeps (r : LockReason) (s : State) (holder : s.arb.holder = some .safety) (other : r ≠ .estop)
    (three : 3 ∈ kinds) (twelve : 12 ∈ kinds) : keepsLists kinds s (addReason r s) := by
  have enlisted : keepsLists kinds s (enlistReason r s) := enlistReason_keeps r s twelve
  unfold addReason
  split
  · exact keepsLists_refl kinds s
  dsimp only
  split
  · exact keepsLists_trans enlisted (enterLockout_keeps _ three)
  · exact enlisted
  · exact enlisted
  · exact absurd rfl other
  · exact enlisted
  · next notSafety _ _ => exact absurd holder notSafety

theorem groupEnded_keeps (ending : Ending) (s : State) (holder : s.arb.holder = some .safety) (three : 3 ∈ kinds)
    (twelve : 12 ∈ kinds) : keepsLists kinds s (groupEnded ending s) := by
  unfold groupEnded
  dsimp only
  split
  · split
    · exact keepsLists_of_ports rfl
    · exact keepsLists_before (State.setSafe_ports s _) (addReason_safety_keeps _ _ holder (by decide) three twelve)
  · exact keepsLists_before (State.setSafe_ports s _) (setAlarmCauses_keeps _ _ _ twelve)
  · split
    · exact addReason_safety_keeps _ s holder (by decide) three twelve
    · exact keepsLists_refl kinds s

/-- A boundary places notices of authority, refused claims, conditions and the crank alone (R32, R33, R41, R82). -/
theorem takeBoundary_keeps (ending : Ending) (s : State) (two : 2 ∈ kinds) (three : 3 ∈ kinds) (twelve : 12 ∈ kinds)
    (thirteen : 13 ∈ kinds) : keepsLists kinds s (takeBoundary ending s) := by
  unfold takeBoundary
  split
  · exact keepsLists_of_ports rfl
  · exact handOn_keeps _ s two three
  · exact grantCrank_keeps _ _ _ _ s two thirteen
  · next holder _ =>
    have ended := groupEnded_keeps (kinds := kinds) ending s holder three twelve
    unfold safetyBoundary
    dsimp only
    split
    · split
      · exact keepsLists_trans ended (grantCrank_keeps _ _ _ _ _ two thirteen)
      · exact keepsLists_trans (keepsLists_trans ended (enterLockout_keeps _ three)) (grantCrank_keeps _ _ _ _ _ two thirteen)
    · split
      · exact keepsLists_trans ended (handOn_keeps _ _ two three)
      · exact keepsLists_trans ended (enterLockout_keeps _ three)
    · exact ended
  · exact keepsLists_refl kinds s

end Sys2Proof.Machine
end

section
/-! The class of the wind, rule by rule (R90). -/

namespace Sys2Proof.Machine

variable {s t u : State}

/-! ### The class rule -/

/-- The wind monitor's record of its class and counts. -/
def windState (s : State) : WindState := ⟨s.safe.windClass, s.safe.calm, s.safe.ease⟩

/-- The class of the wind is the class rule's verdict on the speed of the sample (R89, R90). -/
theorem windState_sampleWind (s : State) : windState (sampleWind s) = classRule (windState s) (sampleWind s).safe.speed := by
  simp only [sampleWind, windState]
  split <;> simp

/-- Settles O33. -/
theorem windClassRule : Obligations.WindClassRule := by
  refine ⟨fun s on => ⟨sampleWind s, exec_of_powered rfl on, ?_⟩, fun calm ease speed => ?_⟩
  · exact windState_sampleWind s
  · refine ⟨fun high => ?_, fun low high => ?_, fun low => ?_, fun high => ?_, fun low high => ?_, fun low few => ?_, fun low many => ?_,
      fun high => ?_, fun low few => ?_, fun low many => ?_⟩
    · exact if_pos high
    · simp [classRule, WindState.entered, low, show ¬65 ≤ speed by omega]
    · simp [classRule, show ¬65 ≤ speed by omega, show ¬40 ≤ speed by omega]
    · exact if_pos high
    · simp [classRule, low, show ¬65 ≤ speed by omega]
    · simp [classRule, show ¬65 ≤ speed by omega, show ¬32 ≤ speed by omega, show ¬30 ≤ calm + 1 by omega]
    · simp [classRule, WindState.entered, show ¬65 ≤ speed by omega, show ¬32 ≤ speed by omega, many]
    · exact if_pos high
    · simp [classRule, show ¬55 ≤ speed by omega, show ¬60 ≤ ease + 1 by omega]
    · simp [classRule, WindState.entered, show ¬55 ≤ speed by omega, many]

end Sys2Proof.Machine
end

section
/-! Power: what a loss leaves, and what a controller without power takes (R113, R122, R171). -/

namespace Sys2Proof.Machine

variable {s t u : State}

/-! ### What a loss leaves -/

theorem slotsLeft_write {t : Store} {n : Nat} {who : Port} {retire : Bool} (l : PowerLoss)
    (writes : t.engine.write = some (n, who, retire)) : slotsLeft l t = (t.setSlot n (cutWrite l)).slots := by
  unfold slotsLeft
  cases engine : t.engine with
  | idle => exact absurd (engine ▸ writes) (by simp [Engine.write])
  | erase who k => exact absurd (engine ▸ writes) (by simp [Engine.write])
  | commit slot writer =>
    obtain ⟨rfl, -, -⟩ : slot = n ∧ writer = who ∧ false = retire := by simpa [engine, Engine.write] using writes
    rfl
  | retire slot writer =>
    obtain ⟨rfl, -, -⟩ : slot = n ∧ writer = who ∧ true = retire := by simpa [engine, Engine.write] using writes
    rfl

/-- An erase cut short has freed the slots before the one that it was at (R113). -/
theorem slotsLeft_erase_reached {t : Store} {who : Port} {k n : Nat} {l : PowerLoss} (erases : t.engine = .erase who k)
    (reached : n < l.erased) (small : n < t.slots.length) : (slotsLeft l t)[n]? = some Slot.free := by
  have within : n < min l.erased t.slots.length := Nat.lt_min.mpr ⟨reached, small⟩
  unfold slotsLeft
  simp only [erases]
  rw [List.append_assoc, List.getElem?_append_left (by simpa using within)]
  rw [List.getElem?_replicate, if_pos within]

/-- An erase cut short has left the slots behind the one that it was at (R113). -/
theorem slotsLeft_erase_beyond {t : Store} {who : Port} {k n : Nat} {l : PowerLoss} (erases : t.engine = .erase who k)
    (beyond : l.erased < n) : (slotsLeft l t)[n]? = t.slots[n]? := by
  unfold slotsLeft
  simp only [erases]
  by_cases small : l.erased < t.slots.length
  · have front : (List.replicate (min l.erased t.slots.length) Slot.free
        ++ ((t.slots.drop l.erased).take 1).map (cutErase l.edge)).length = l.erased + 1 := by
      simp only [List.length_append, List.length_replicate, List.length_map, List.length_take, List.length_drop]
      omega
    rw [List.getElem?_append_right (by omega), front, List.getElem?_drop]
    congr 1
    omega
  · have count : (List.replicate (min l.erased t.slots.length) Slot.free
        ++ ((t.slots.drop l.erased).take 1).map (cutErase l.edge) ++ t.slots.drop (l.erased + 1)).length = t.slots.length := by
      simp only [List.length_append, List.length_replicate, List.length_map, List.length_take, List.length_drop]
      omega
    rw [List.getElem?_eq_none (by omega), List.getElem?_eq_none (by omega)]

theorem storedLeft_kept {t : Settings} {l : PowerLoss} (kept : t.writing = none ∨ l.settings = none) :
    storedLeft l t = t.stored := by
  unfold storedLeft
  rcases kept with idle | whole
  · simp [idle]
  · cases t.writing <;> simp [whole]

theorem storedLeft_cut {t : Settings} {l : PowerLoss} {v : SettingValues} {error : Check} (writing : t.writing.isSome = true)
    (cut : l.settings = some (v, error)) : storedLeft l t = { values := v, check := badCheck (settingsCheck v) error } := by
  obtain ⟨w, held⟩ := Option.isSome_iff_exists.mp writing
  simp [storedLeft, held, cut]

/-! ### The examination of the slots -/

theorem coldStart_store (i : StartInputs) (s : State) :
    (coldStart i s).store = { slots := s.store.slots.map examined, staging := Ports.all none, engine := .idle } := by
  simp [coldStart, coldState]

theorem coldStart_slotAt (i : StartInputs) (s : State) (n : Nat) :
    (coldStart i s).store.slotAt n = examined (s.store.slotAt n) := by
  rw [coldStart_store]
  show (s.store.slots.map examined).getD n Slot.free = examined (s.store.slots.getD n Slot.free)
  rw [List.getD_eq_getElem?_getD, List.getD_eq_getElem?_getD, List.getElem?_map]
  cases s.store.slots[n]? <;> rfl

/-- A slot recorded as WRITING is found DAMAGED (R122). -/
theorem examined_writing {x : Slot} (recorded : x.recorded = .writing) : (examined x).state = .damaged := by
  simp [examined, recorded]

/-! ### Without power -/

theorem onRequest_off (p : Port) (r : Request) (f : State → State) (off : s.powered = false) : onRequest p r f s = s :=
  onRequest_idle f fun ⟨on, _⟩ => absurd on (by simp [off])

/-- Without power nothing but POWER_APPLIED has an effect: every other command is an event or a request. -/
theorem exec_off (c : Instr) (off : s.powered = false) (other : ∀ i, c ≠ .powerApplied i) : exec c s = .next s := by
  have event : ∀ f, (Host.Outcome.next (whenPowered f s) : Host.Outcome State Fault Refusal) = .next s := fun f => by
    rw [whenPowered_off f off]
  have request : ∀ p r f, (Host.Outcome.next (onRequest p r f s) : Host.Outcome State Fault Refusal) = .next s :=
    fun p r f => by rw [onRequest_off p r f off]
  cases c
  case powerApplied i => exact absurd rfl (other i)
  case claim | withdraw | release | queueMoves | aim | stow | peak | halt | clearAxis | setHeading | readSite | stageSite
    | commitSite | retireSite | eraseTable | invalidateSite | flushCache | readCache | levelReport | status | identify
    | scanResult | clearLatches | clearLockout | setNotices | configure | revert | restart => exact request _ _ _
  case reset | powerLoss | frameReceived | frameByteTimeout | takeFrame | readyChange | transmitBegin | frameSent | byteReceived
    | slotWriteEnd | eraseEnd | settingsWriteEnd | estopAsserted | estopNegated | parkNegated | parkAsserted | supplyOkNegated
    | supplyOkAsserted | settleTimerExpiry | suspensionLimitExpiry | manualReqAsserted | manualReqNegated | faultLineAsserted
    | faultLineNegated | obstructionEdge | poseReading | stallWindowExpiry | settlingTimeout | restWatchExpiry
    | idleTimerExpiry | inclinometerSample | anemometerPulse | windSample | dwellEnd | levelWaitExpiry | resetNegated =>
    exact event _

/-- Settles O54, operation in flight by operation in flight. -/
theorem powerLossStopsTheController : Obligations.PowerLossStopsTheController := by
  intro left s
  refine ⟨fun on => ⟨losePower left s, exec_of_powered rfl on, rfl, rfl, fun idle => ?_, fun n who retire writes fits => ?_,
    fun who k n erases count => ?_, storedLeft_kept, fun v error writing cut => ?_⟩, fun off c => exec_off c off⟩
  · simp [losePower, State.off, slotsLeft, idle]
  · obtain ⟨length, holds⟩ := fits
    obtain ⟨small, -⟩ := holds n who retire writes
    rw [← length] at small
    have slots : (losePower left s).store.slots = (s.store.setSlot n (cutWrite left)).slots := slotsLeft_write left writes
    have slotAt : ∀ m, (losePower left s).store.slotAt m = (s.store.setSlot n (cutWrite left)).slotAt m := fun m => by
      rw [Store.slotAt, slots, ← Store.slotAt]
    have cut : (losePower left s).store.slotAt n = cutWrite left := by rw [slotAt, slotAt_setSlot_same _ small]
    refine ⟨fun m other => ?_, ?_, fun i _ => ⟨coldStart i (losePower left s), rfl, ?_⟩⟩
    · rw [slotAt, slotAt_setSlot_other _ other]
    · rw [cut]
      rfl
    · rw [coldStart_slotAt, cut]
      exact examined_writing rfl
  · exact ⟨fun reached small => slotsLeft_erase_reached erases reached (count ▸ small),
      fun beyond => slotsLeft_erase_beyond erases beyond⟩
  · have stored : (losePower left s).settings.stored = { values := v, check := badCheck (settingsCheck v) error } :=
      storedLeft_cut writing cut
    rw [stored]
    exact ⟨rfl, badCheck_ne _ _⟩

end Sys2Proof.Machine
end

section
/-! The alarm output told, and the end of a start: what it leaves before its lines are read, and the lines read (R100, R167,
R168). -/

namespace Sys2Proof.Machine

variable {s t u : State}

/-! ### The alarm output -/

/-- The state with the alarm causes replaced, the output following them (R100). -/
def withAlarm (park wind : Bool) (s : State) : State :=
  s.setSafe { s.safe with alarmPark := park, alarmWind := wind, alarm := park || wind }

/-- Changed causes place the condition notice of a changed output alone (R100). -/
theorem setAlarmCauses_leaves (park wind : Bool) (ports : t.ports = s.ports) (arb : t.arb = s.arb)
    (latch : t.pose.latch = s.pose.latch) (settings : t.settings = s.settings) (alarm : t.safe.alarm = s.safe.alarm) :
    leaves (withAlarm park wind t) s (setAlarmCauses park wind t) := by
  have same : sameNotices 12 s (withAlarm park wind t) := sameNotices_of_ports ports
  unfold setAlarmCauses leaves
  by_cases stands : s.safe.alarm = (park || wind)
  · refine ⟨?_, fun changed => absurd stands changed⟩
    simp only [alarm, stands, if_true]
    exact onlyOutputs_refl _ _
  · have placed : (if t.safe.alarm = (park || wind) then withAlarm park wind t
        else placeCondition .alarm (withAlarm park wind t)) = placeCondition .alarm (withAlarm park wind t) :=
      if_neg (alarm ▸ stands)
    refine ⟨?_, fun _ => ?_⟩
    · show onlyOutputs _ _ (if t.safe.alarm = (park || wind) then withAlarm park wind t
        else placeCondition .alarm (withAlarm park wind t))
      rw [placed]
      refine placeAll_onlyOutputs _ (fun _ => ?_) _
      show 12 ∈ if s.safe.alarm = (park || wind) then [] else [12]
      simp [stands]
    · show tellsAll _ _ (if t.safe.alarm = (park || wind) then withAlarm park wind t
        else placeCondition .alarm (withAlarm park wind t))
      rw [placed, ← arb, ← latch, ← settings]
      exact tellsAll_after same (placeAll_tells (conditionBody .alarm (withAlarm park wind t)) (withAlarm park wind t))

/-! ### The lines of a start -/

theorem setEstop_same {asserted : Bool} (stands : s.safe.estop = asserted) : setEstop asserted s = s := by
  subst stands
  rfl

theorem setPark_same {asserted : Bool} (stands : s.safe.park = asserted) : setPark asserted s = s := by
  subst stands
  rfl

theorem setManualReq_same {asserted : Bool} (stands : s.safe.manualReq = asserted) : setManualReq asserted s = s := by
  subst stands
  rfl

/-- The lines as found are taken one after the other, as the commands that bring them take them (R88, R168). -/
theorem linesRead_of_quiet (i : StartInputs) (seen : Bool) (on : t.powered = true) (estop : t.safe.estop = false)
    (park : t.safe.park = true) (manual : t.safe.manualReq = false) :
    linesRead i seen t (foundManual i.manualReq (foundWind (foundPark i.park seen (foundEstop i.estop t)))) := by
  refine ⟨foundEstop i.estop t, foundPark i.park seen (foundEstop i.estop t),
    foundWind (foundPark i.park seen (foundEstop i.estop t)), ?_, ?_, ?_, ?_⟩
  · unfold foundEstop
    split
    · rw [exec_of_powered rfl on]
      simp [estop]
    · exact setEstop_same estop
  · generalize stopped_eq : foundEstop i.estop t = stopped
    have still : stopped.powered = true := by simp [← stopped_eq, on]
    have parked : stopped.safe.park = true := by simp [← stopped_eq, park]
    unfold foundPark
    cases i.park with
    | false =>
      simp only [Bool.false_eq_true, if_true, if_false]
      rw [exec_of_powered rfl still]
      simp [parked]
    | true =>
      simp only [Bool.true_eq_false, if_true, if_false, setPark_same parked]
      cases seen with
      | false => rfl
      | true => exact flushCache_told .park none stopped
  · unfold foundWind
    split
    · have raised := setAlarmCauses_leaves (t := foundPark i.park seen (foundEstop i.estop t))
        (foundPark i.park seen (foundEstop i.estop t)).safe.alarmPark true rfl rfl rfl rfl rfl
      simpa [withAlarm, raiseWindAlarm] using raised
    · rfl
  · generalize sounded_eq : foundWind (foundPark i.park seen (foundEstop i.estop t)) = sounded
    have still : sounded.powered = true := by simp [← sounded_eq, on]
    have quiet : sounded.safe.manualReq = false := by simp [← sounded_eq, manual]
    unfold foundManual
    split
    · rw [exec_of_powered rfl still]
      simp [quiet]
    · exact setManualReq_same quiet

/-! ### The end of a start -/

/-- A start before its lines are read: the fault lines, the supply, STARTED, the SETTINGS notice and a kept reason (R168). -/
def startBegun (cause : StartCause) (i : StartInputs) (s : State) : State :=
  keptLockout (noteDefaulted
    (announce cause i.ready (foundSupply i.supplyOk (foundFaults i.faultLine (setResetLine i.resetLine s)))))

theorem endOfStart_eq (cause : StartCause) (seen : Bool) (i : StartInputs) (s : State) :
    endOfStart cause seen i s =
      foundManual i.manualReq (foundWind (foundPark i.park seen (foundEstop i.estop (startBegun cause i s)))) := rfl

/-- What a start has reset before it ends: authority but for the reasons, the work, what was sensed with PARK and SUPPLY, and
what a start clears (R167, R169). -/
structure Reset (reasons : Reasons) (i : StartInputs) (s : State) : Prop where
  on : s.powered = true
  authority : s.arb = { Arbiter.start with reasons := reasons }
  queue : s.exe.queue = [] ∧ s.exe.active = none ∧ s.exe.closing = none ∧ s.exe.nextTag = 1 ∧ s.exe.suspension = none
  drives : ∀ a : Axis, (s.exe.drives.get a).enable = false ∧ (s.exe.drives.get a).rate = .stop
    ∧ (s.exe.drives.get a).brake = true
  reading : s.pose.counts = i.reading.counts ∧ s.pose.position = positionsOf i.reading.counts
    ∧ s.pose.atRest = i.reading.atRest ∧ s.pose.lamp = lampOf s.pose.position
  lines : s.safe.estop = false ∧ s.safe.park = true ∧ s.safe.manualReq = false ∧ s.safe.group = none
  alarm : s.safe.alarmPark = false ∧ s.safe.alarmWind = false
  cleared : s.heading = none ∧ s.scan = { scan := none, result := none, report := none } ∧ s.store.engine = .idle
    ∧ s.store.staging = Ports.all none ∧ s.settings.writing = none

theorem isEmpty_iff (r : Reasons) : r.isEmpty = true ↔ r = Reasons.empty := by
  obtain ⟨estop, interlock, blocked, failed⟩ := r
  simp only [Reasons.isEmpty, Reasons.empty, Reasons.mk.injEq]
  simp [and_assoc]

theorem keptLockout_arb (s : State) :
    (keptLockout s).arb = if s.arb.reasons = Reasons.empty then s.arb else { s.arb with auth := .lockout } := by
  unfold keptLockout
  by_cases empty : s.arb.reasons = Reasons.empty
  · simp [empty, isEmpty_iff]
  · have kept : ¬s.arb.reasons.isEmpty = true := fun h => empty ((isEmpty_iff _).mp h)
    simp [empty, kept]

theorem placeOn_get (p : Port) (body : NoticeBody) (s : State) :
    (placeOn p body s).ports.get p =
      if admits (s.ports.get p).mask body.kind = true then
        { s.ports.get p with output := placeItem body (s.ports.get p).output }
      else s.ports.get p := by
  unfold placeOn placeAlways updatePort
  split <;> simp

theorem placeAll_get (body : NoticeBody) (s : State) (p : Port) :
    (placeAll body s).ports.get p =
      if admits (s.ports.get p).mask body.kind = true then
        { s.ports.get p with output := placeItem body (s.ports.get p).output }
      else s.ports.get p := by
  unfold placeAll
  cases p
  · rw [placeOn_other .link .cab _ _ (by decide), placeOn_other .rack .cab _ _ (by decide), placeOn_get]
  · rw [placeOn_other .link .rack _ _ (by decide), placeOn_get, placeOn_other .cab .rack _ _ (by decide)]
  · rw [placeOn_get, placeOn_other .rack .link _ _ (by decide), placeOn_other .cab .link _ _ (by decide)]

theorem announce_get (cause : StartCause) (ready : Ports Bool) (s : State) (p : Port) :
    (announce cause ready s).ports.get p = startedPort (startedBody cause s) (ready.get p) := by
  cases p <;> rfl

/-- The SETTINGS notice stands behind STARTED, which is of another kind. -/
theorem noteDefaulted_ports (ready : Ports Bool) (body : NoticeBody) (other : body.kind ≠ 12)
    (ports : ∀ p, s.ports.get p = startedPort body (ready.get p)) (p : Port) :
    (noteDefaulted s).ports.get p =
      startedWith (ready.get p)
        (.notice body 0 :: if s.settings.defaulted = true then [.notice (conditionBody .settings s) 0] else []) := by
  unfold noteDefaulted
  split
  · have placed := placeAll_get (conditionBody .settings s) s p
    rw [ports] at placed
    refine placed.trans ((if_pos (show admits allKinds 12 = true by decide)).trans ?_)
    have behind : placeItem (conditionBody .settings s) [.notice body 0] = [.notice body 0, .notice (conditionBody .settings s) 0] := by
      simp only [placeItem]
      exact if_neg other
    simp only [startedPort, behind]
    rfl
  · rw [ports]
    rfl

theorem startBegun_arb {cause : StartCause} {reasons : Reasons} {i : StartInputs} (h : Reset reasons i s) :
    (startBegun cause i s).arb =
      { Arbiter.start with auth := if reasons = Reasons.empty then .free else .lockout, reasons := reasons } := by
  unfold startBegun
  rw [keptLockout_arb]
  simp only [noteDefaulted_frame, announce_frame, foundSupply_frame, foundFaults_frame, setResetLine_frame, h.authority]
  split <;> rfl

theorem startBegun_ports (cause : StartCause) (i : StartInputs) (s : State) (p : Port) :
    (startBegun cause i s).ports.get p =
      startedWith (i.ready.get p)
        (.notice (.started cause (!mastStowed s.pose.position) (damagedCount s.store) s.arb.reasons) 0
          :: if s.settings.defaulted = true then
              [.notice (.condition .settings s.arb.reasons s.pose.latch s.safe.alarmPark s.safe.alarmWind true) 0]
            else []) := by
  generalize found_eq : foundSupply i.supplyOk (foundFaults i.faultLine (setResetLine i.resetLine s)) = found
  have noted := noteDefaulted_ports (s := announce cause i.ready found) i.ready (startedBody cause found)
    (by simp [startedBody, NoticeBody.kind]) (announce_get cause i.ready found) p
  unfold startBegun
  rw [found_eq, (keptLockout_frame _).2.2.1, noted]
  have settings : (announce cause i.ready found).settings = s.settings := by simp [← found_eq]
  have body : startedBody cause found =
      .started cause (!mastStowed s.pose.position) (damagedCount s.store) s.arb.reasons := by
    simp [startedBody, ← found_eq, foundFaults]
  rw [settings, body]
  congr 2
  split
  · next defaulted =>
    have told : conditionBody .settings (announce cause i.ready found) =
        .condition .settings s.arb.reasons s.pose.latch s.safe.alarmPark s.safe.alarmWind true := by
      simp [conditionBody, ← found_eq, defaulted, foundFaults]
    rw [told]
  · rfl

theorem startBegun_exe (cause : StartCause) (i : StartInputs) (s : State) :
    (startBegun cause i s).exe = { s.exe with supply := if i.supplyOk then .available else .absent, settle := false } := by
  simp [startBegun, foundSupply, foundFaults, setResetLine]

theorem startBegun_pose (cause : StartCause) (i : StartInputs) (s : State) :
    (startBegun cause i s).pose = (foundFaults i.faultLine s).pose := by
  simp [startBegun, foundFaults]

theorem startBegun_safe (cause : StartCause) (i : StartInputs) (s : State) :
    (startBegun cause i s).safe = { s.safe with resetLine := i.resetLine, supplyOk := i.supplyOk } := by
  simp [startBegun, foundFaults]

theorem startBegun_rest (cause : StartCause) (i : StartInputs) (s : State) :
    (startBegun cause i s).pending = s.pending ∧ (startBegun cause i s).powered = s.powered
      ∧ (startBegun cause i s).store = s.store ∧ (startBegun cause i s).cache = s.cache
      ∧ (startBegun cause i s).heading = s.heading ∧ (startBegun cause i s).scan = s.scan
      ∧ (startBegun cause i s).settings = s.settings := by
  simp [startBegun]

theorem startBegun_started {cause : StartCause} {reasons : Reasons} {i : StartInputs} (h : Reset reasons i s) :
    Started cause reasons i (startBegun cause i s) := by
  have arb := startBegun_arb (cause := cause) h
  obtain ⟨on, authority, ⟨queue, active, closing, tag, suspension⟩, drives, ⟨counts, position, rest, lamp⟩,
    ⟨estop, park, manual, group⟩, ⟨alarmPark, alarmWind⟩, ⟨heading, scan, engine, staging, writing⟩⟩ := h
  obtain ⟨-, poweredKept, store, -, headingKept, scanKept, settings⟩ := startBegun_rest cause i s
  have exe := startBegun_exe cause i s
  have pose := startBegun_pose cause i s
  have safe := startBegun_safe cause i s
  have reasonsKept : s.arb.reasons = reasons := by rw [authority]
  have high : (!mastStowed s.pose.position) = decide (20 < s.pose.position.mast) := by
    rw [mastStowed, ← decide_not]
    simp only [Int.not_le]
  refine ⟨poweredKept.trans on, fun p => ?_, arb, ?_, ?_, fun a => ?_, ?_, ?_, ?_⟩
  · rw [startBegun_ports, pose, store, settings, high, reasonsKept, alarmPark, alarmWind]
    rfl
  · simp [exe, queue, active, closing, tag, suspension]
  · simp [exe]
  · simpa [exe] using drives a
  · simp [pose, foundFaults, counts, position, rest, lamp]
  · simp [safe, pose, foundFaults, estop, park, manual, group]
  · simp [store, headingKept, scanKept, settings, heading, scan, engine, staging, writing]

/-! ### The cold start -/

theorem coldState_reset (i : StartInputs) (s : State) : Reset Reasons.empty i (coldState i s) :=
  ⟨rfl, rfl, ⟨rfl, rfl, rfl, rfl, rfl⟩, fun a => by cases a <;> exact ⟨rfl, rfl, rfl⟩, ⟨rfl, rfl, rfl, rfl⟩,
    ⟨rfl, rfl, rfl, rfl⟩, ⟨rfl, rfl⟩, ⟨rfl, rfl, rfl, rfl, rfl⟩⟩

/-- What the examination makes of a slot (R122). -/
theorem examined_spec (x : Slot) :
    (x.recorded = .free → examined x = { state := .free, recorded := .free, contents := none })
      ∧ (x.recorded ≠ .free → (examined x).recorded = x.recorded ∧ (examined x).contents = x.contents)
      ∧ (∀ k, x.contents = some k → k.check = recordCheck k.site k.redirection →
          (x.recorded = .committed → (examined x).state = .committed) ∧ (x.recorded = .retired → (examined x).state = .retired))
      ∧ (∀ k, x.contents = some k → k.check ≠ recordCheck k.site k.redirection → x.recorded ≠ .free →
          (examined x).state = .damaged)
      ∧ (x.recorded = .writing ∨ x.recorded = .other → (examined x).state = .damaged) := by
  obtain ⟨state, recorded, contents⟩ := x
  cases recorded <;> cases contents <;> simp +contextual [examined, Slot.free, Contents.good]

/-- Settles O52, block by block. -/
theorem aColdStartStartsAfresh : Obligations.AColdStartStartsAfresh := by
  intro i s
  have begun := startBegun_started (cause := .cold) (coldState_reset i s)
  obtain ⟨-, -, store, cache, -, -, settings⟩ := startBegun_rest .cold i (coldState i s)
  have pose := startBegun_pose .cold i (coldState i s)
  have safe := startBegun_safe .cold i (coldState i s)
  obtain ⟨estop, park, manual, -⟩ := begun.lines
  refine ⟨startBegun .cold i (coldState i s), coldStart i s, rfl, linesRead_of_quiet i false begun.on estop park manual, begun,
    ?_, ?_, ?_, cache, ?_⟩
  · rw [pose]
    simp [foundFaults, coldState, limitLevel, clamp_eq]
  · rw [pose]
    rfl
  · rw [pose]
    simp [foundFaults, coldState, Axes.all]
  · rw [safe, settings, store]
    refine ⟨rfl, rfl, rfl, rfl, rfl, rfl, rfl, rfl, rfl, fun check range => ?_, fun bad => ?_, fun n x listed => ?_⟩
    · have good : s.settings.stored.good = true := by simp [StoredSettings.good, check, range]
      simp [coldState, settingsLoaded, good]
    · have unfit : s.settings.stored.good = false := by
        rcases bad with check | range <;> simp [StoredSettings.good, *]
      simp [coldState, settingsLoaded, unfit]
    · exact ⟨examined x, by simp [coldState, listed], examined_spec x⟩

end Sys2Proof.Machine
end

section
/-! Submissions: the checks of QUEUE MOVES, and entries that wait behind an active one (R46 to R53). -/

namespace Sys2Proof.Machine

variable {s t u : State}

/-! ### Positions in a list -/

theorem firstPosition_none {α : Type} {good : α → Bool} {items : List α} (fit : items.all good = true) :
    firstPosition good items = none := by
  unfold firstPosition
  rw [List.findIdx?_eq_none_iff.mpr]
  · rfl
  · intro x member
    simp [List.all_eq_true.mp fit x member]

theorem firstPosition_front {α : Type} {good : α → Bool} {front : List α} {x : α} (rest : List α)
    (fit : front.all good = true) (unfit : good x = false) : firstPosition good (front ++ x :: rest) = some (front.length + 1) := by
  have passed : front.findIdx? (fun y => !good y) = none :=
    List.findIdx?_eq_none_iff.mpr fun y member => by simp [List.all_eq_true.mp fit y member]
  unfold firstPosition
  rw [List.findIdx?_append, passed, List.findIdx?_cons]
  simp [unfit]

/-- A filter that keeps every item keeps each in its place. -/
theorem map_some_filterMap {α β : Type} {f : α → Option β} {items : List α} (kept : ∀ x, x ∈ items → (f x).isSome = true) :
    (items.filterMap f).map some = items.map f := by
  induction items with
  | nil => rfl
  | cons x rest ih =>
    obtain ⟨y, found⟩ := Option.isSome_iff_exists.mp (kept x List.mem_cons_self)
    rw [List.filterMap_cons_some found, List.map_cons, List.map_cons, found,
      ih fun z member => kept z (List.mem_cons_of_mem x member)]

/-! ### The form and the range of a move -/

theorem axisOf?_some_iff (b : Byte) (a : Axis) : axisOf? b = some a ↔ b = axisCode a := by
  unfold axisOf?
  constructor
  · intro found
    repeat' split at found
    all_goals cases found <;> assumption
  · rintro rfl
    cases a <;> rfl

theorem axisOf?_isSome (b : Byte) : (axisOf? b).isSome = decide (b.toNat ≤ 3) := by
  revert b
  decide

theorem rate_isSome (b : Byte) : (Rate.ofByte? b).isSome = decide (b.toNat ≤ 2) := by
  revert b
  decide

theorem motion_isSome (m : RawMove) :
    (RawMove.motion m).isSome = ((m.kind == 0x00 || m.kind == 0x01) && decide (m.axis.toNat ≤ 3)) := by
  rw [← axisOf?_isSome]
  unfold RawMove.motion
  cases axisOf? m.axis with
  | none => simp
  | some a =>
    dsimp only
    by_cases absolute : m.kind = 0x00
    · simp [absolute]
    rw [if_neg absolute, beq_eq_false_iff_ne.mpr absolute]
    by_cases relative : m.kind = 0x01
    · simp [relative]
    · rw [if_neg relative, beq_eq_false_iff_ne.mpr relative]
      rfl

theorem draft_isSome (locked : Bool) (m : RawMove) : (RawMove.draft locked m).isSome = goodForm m := by
  have parts : (RawMove.draft locked m).isSome = ((RawMove.motion m).isSome && (Rate.ofByte? m.rate).isSome) := by
    unfold RawMove.draft
    cases RawMove.motion m <;> cases Rate.ofByte? m.rate <;> rfl
  rw [parts, motion_isSome, rate_isSome]
  rfl

theorem draft_some {locked : Bool} {m : RawMove} {d : Draft} (drafted : RawMove.draft locked m = some d) :
    RawMove.motion m = some d.motion ∧ Rate.ofByte? m.rate = some d.rate ∧ d.purpose = .plain ∧ d.slot = none
      ∧ d.locked = locked := by
  unfold RawMove.draft at drafted
  split at drafted
  · next motion rate =>
    cases drafted
    exact ⟨motion, rate, rfl, rfl, rfl⟩
  · cases drafted

theorem motion_some {m : RawMove} {motion : Motion} (known : RawMove.motion m = some motion) :
    ∃ a, m.axis = axisCode a
      ∧ ((m.kind = 0x00 ∧ motion = .moveTo a m.value) ∨ (m.kind = 0x01 ∧ motion = .moveBy a m.value)) := by
  unfold RawMove.motion at known
  split at known
  · cases known
  · next a axis =>
    refine ⟨a, (axisOf?_some_iff _ _).mp axis, ?_⟩
    split at known
    · next absolute => exact Or.inl ⟨absolute, (Option.some.inj known).symm⟩
    split at known
    · next relative => exact Or.inr ⟨relative, (Option.some.inj known).symm⟩
    · cases known

theorem natAbs_le_eq (v : Int) (n : Nat) : decide (v.natAbs ≤ n) = (decide (-(n : Int) ≤ v) && decide (v ≤ n)) := by
  rw [← Bool.decide_and, decide_eq_decide]
  omega

/-- The value of a move on the mast alone is a whole number of tens (R50). -/
theorem coarse_other {a : Axis} (other : a ≠ .mast) (v : Int) : (a != .mast || v % 10 == 0) = true := by
  simp [bne_iff_ne.mpr other]

theorem valueFits_of_motion {m : RawMove} {motion : Motion} (known : RawMove.motion m = some motion) :
    moveInRange motion = valueFits m := by
  obtain ⟨a, axis, ⟨kind, rfl⟩ | ⟨kind, rfl⟩⟩ := motion_some known
  · cases a <;> simp [valueFits, moveInRange, inRange, leastOf, greatestOf, axis, kind, axisCode, coarse_other] <;> rfl
  · cases a <;> simp [valueFits, moveInRange, leastOf, greatestOf, axis, kind, axisCode, coarse_other]
    case mast => exact congrArg (· && m.value % 10 == 0) (natAbs_le_eq m.value 15000)
    all_goals exact natAbs_le_eq m.value _

/-! ### QUEUE MOVES -/

/-- The drafts of moves of good form stand in their places. -/
theorem drafts_of_goodForm (locked : Bool) {moves : List RawMove} (good : moves.all goodForm = true) :
    (moves.filterMap (RawMove.draft locked)).map some = moves.map (RawMove.draft locked) :=
  map_some_filterMap fun m member => (draft_isSome locked m).trans (List.all_eq_true.mp good m member)

theorem drafts_length (locked : Bool) {moves : List RawMove} (good : moves.all goodForm = true) :
    (moves.filterMap (RawMove.draft locked)).length = moves.length := by
  simpa using congrArg List.length (drafts_of_goodForm locked good)

theorem drafts_inRange (locked : Bool) {moves : List RawMove} (fits : moves.all valueFits = true) :
    (moves.filterMap (RawMove.draft locked)).all (fun d => moveInRange d.motion) = true := by
  rw [List.all_eq_true]
  intro d member
  obtain ⟨m, listed, drafted⟩ := List.mem_filterMap.mp member
  obtain ⟨motion, -⟩ := draft_some drafted
  rw [valueFits_of_motion motion]
  exact List.all_eq_true.mp fits m listed

theorem fits_iff {n : Nat} : fits n s = true ↔ s.exe.queue.length + n ≤ 16 := decide_eq_true_iff

theorem queueMoves_badForm (p : Port) {lock : Byte} {moves : List RawMove}
    (bad : moves.length = 0 ∨ 8 < moves.length ∨ (lock ≠ 0x00 ∧ lock ≠ 0x01)) :
    queueMoves p lock moves s = respond p (.queueMoves lock moves) .badRequest [0x00] s := by
  unfold queueMoves
  exact if_pos bad

theorem queueMoves_badMove (p : Port) {lock : Byte} {moves : List RawMove} {k : Nat}
    (form : ¬(moves.length = 0 ∨ 8 < moves.length ∨ (lock ≠ 0x00 ∧ lock ≠ 0x01)))
    (bad : firstPosition goodForm moves = some k) :
    queueMoves p lock moves s = respond p (.queueMoves lock moves) .badRequest [byteOf k] s := by
  have bad' : firstPosition (fun m => (RawMove.draft false m).isSome) moves = some k := by
    simpa only [draft_isSome] using bad
  unfold queueMoves
  refine (if_neg form).trans ?_
  rw [bad']

/-- Moves of good form are drafted, and checked for range, then for room. -/
theorem queueMoves_goodForm (p : Port) {lock : Byte} {moves : List RawMove}
    (form : ¬(moves.length = 0 ∨ 8 < moves.length ∨ (lock ≠ 0x00 ∧ lock ≠ 0x01))) (good : moves.all goodForm = true) :
    queueMoves p lock moves s =
      match firstPosition (fun d => moveInRange d.motion) (moves.filterMap (RawMove.draft (lock == 0x01))) with
      | some k => respond p (.queueMoves lock moves) .outOfRange [byteOf k] s
      | none =>
        if s.exe.queue.length + moves.length ≤ 16 then
          submit p (moves.filterMap (RawMove.draft (lock == 0x01)))
            (respond p (.queueMoves lock moves) .accepted
              [byteOf s.exe.nextTag, byteOf moves.length, byteOf (s.exe.queue.length + moves.length)]) s
        else respond p (.queueMoves lock moves) .queueFull [byteOf (16 - s.exe.queue.length)] s := by
  have formed : firstPosition (fun m => (RawMove.draft false m).isSome) moves = none := by
    simpa only [draft_isSome] using firstPosition_none good
  unfold queueMoves
  refine (if_neg form).trans ?_
  rw [formed]
  dsimp only
  rw [drafts_length _ good]
  cases firstPosition (fun d : Draft => moveInRange d.motion) (moves.filterMap (RawMove.draft (lock == 0x01))) with
  | some k => rfl
  | none =>
    dsimp only
    by_cases room : s.exe.queue.length + moves.length ≤ 16
    · rw [if_pos room, if_pos (fits_iff.mpr room)]
    · rw [if_neg room, if_neg (mt fits_iff.mp room)]
      rfl

/-- The range of moves of good form is checked in their order. -/
theorem queueMoves_badRange (p : Port) {lock : Byte} {front rest : List RawMove} {m : RawMove}
    (form : ¬((front ++ m :: rest).length = 0 ∨ 8 < (front ++ m :: rest).length ∨ (lock ≠ 0x00 ∧ lock ≠ 0x01)))
    (good : (front ++ m :: rest).all goodForm = true) (fits : front.all valueFits = true) (unfit : valueFits m = false) :
    queueMoves p lock (front ++ m :: rest) s =
      respond p (.queueMoves lock (front ++ m :: rest)) .outOfRange [byteOf (front.length + 1)] s := by
  have goods := List.all_eq_true.mp good
  have frontGood : front.all goodForm = true :=
    List.all_eq_true.mpr fun x member => goods x (List.mem_append_left _ member)
  obtain ⟨d, drafted⟩ := Option.isSome_iff_exists.mp
    ((draft_isSome (lock == 0x01) m).trans (goods m (List.mem_append_right _ List.mem_cons_self)))
  obtain ⟨motion, -⟩ := draft_some drafted
  have out : moveInRange d.motion = false := (valueFits_of_motion motion).trans unfit
  have position := firstPosition_front (good := fun d : Draft => moveInRange d.motion)
    (rest.filterMap (RawMove.draft (lock == 0x01))) (drafts_inRange (lock == 0x01) fits) out
  rw [queueMoves_goodForm p form good, List.filterMap_append, List.filterMap_cons_some drafted, position]
  dsimp only
  rw [drafts_length _ frontGood]

theorem form_of {lock : Byte} {moves : List RawMove} (locks : lock = 0x00 ∨ lock = 0x01) (few : moves.length ≤ 8)
    (some_ : moves ≠ []) : ¬(moves.length = 0 ∨ 8 < moves.length ∨ (lock ≠ 0x00 ∧ lock ≠ 0x01)) := by
  rintro (empty | many | ⟨notFree, notLocked⟩)
  · exact some_ (List.length_eq_zero_iff.mp empty)
  · omega
  · exact locks.elim notFree notLocked

/-- Settles O18, check by check. -/
theorem queueMovesIsChecked : Obligations.QueueMovesIsChecked := by
  rintro p lock moves r s rfl h may
  have arm : exec (.queueMoves p lock moves) s = .next (onRequest p (.queueMoves lock moves)
    (asHolder p (.queueMoves lock moves) true (queueMoves p lock moves)) s) := rfl
  refine ⟨fun bad => ?_, fun locks few => ⟨?_, ?_, fun present good fits full => ?_⟩⟩
  · exact exec_of_refused arm h ((asHolder_submits may).trans (queueMoves_badForm p bad)) rfl
  · rintro front m rest rfl good bad
    exact exec_of_refused arm h ((asHolder_submits may).trans
      (queueMoves_badMove p (form_of locks few (by simp)) (firstPosition_front rest good bad))) rfl
  · rintro front m rest rfl good fits unfit
    exact exec_of_refused arm h ((asHolder_submits may).trans
      (queueMoves_badRange p (form_of locks few (by simp)) good fits unfit)) rfl
  · refine exec_of_refused arm h ((asHolder_submits may).trans ?_) rfl
    rw [queueMoves_goodForm p (form_of locks few present) good, firstPosition_none (drafts_inRange _ fits)]
    dsimp only
    rw [if_neg (by omega)]

end Sys2Proof.Machine
end

section
/-! Entries with consecutive tags, and a submission that waits behind an active entry (R46 to R48, R51 to R53). -/

namespace Sys2Proof.Machine

variable {s t u : State}

/-! ### Tags -/

theorem tagPlus_tagAfter {tag : Nat} (least : 1 ≤ tag) (greatest : tag ≤ 255) {n : Nat} (few : n + 1 ≤ 255) :
    tagPlus (tagAfter tag) n = tagPlus tag (n + 1) := by
  unfold tagPlus tagAfter
  repeat' split
  all_goals omega

theorem tagAfter_range {tag : Nat} (least : 1 ≤ tag) (greatest : tag ≤ 255) : 1 ≤ tagAfter tag ∧ tagAfter tag ≤ 255 := by
  unfold tagAfter
  repeat' split
  all_goals omega

theorem tagsAfter_eq {tag n : Nat} (least : 1 ≤ tag) (greatest : tag ≤ 255) (few : n ≤ 255) :
    tagsAfter tag n = tagPlus tag n := by
  induction n generalizing tag with
  | zero => simp [tagsAfter, tagPlus, greatest]
  | succ n ih =>
    obtain ⟨lower, upper⟩ := tagAfter_range least greatest
    rw [tagsAfter, ih lower upper (by omega), tagPlus_tagAfter least greatest few]

theorem tagsAfter_add (tag m n : Nat) : tagsAfter tag (m + n) = tagsAfter (tagsAfter tag m) n := by
  induction m generalizing tag with
  | zero => simp [tagsAfter]
  | succ m ih => rw [Nat.succ_add, tagsAfter, tagsAfter, ih]

/-! ### Entries -/

/-- A draft as the entry that it becomes with a tag (R47, R48, R52). -/
def Draft.entry (group : Nat) (origin : Party) (tag : Nat) (d : Draft) : Entry :=
  { tag := tag, group := if d.locked then some group else none, motion := d.motion, rate := d.rate, origin := origin,
    purpose := d.purpose, slot := d.slot, target := none }

theorem entriesOf_getElem? (group : Nat) (origin : Party) (tag : Nat) (ds : List Draft) (i : Nat) :
    (entriesOf group origin tag ds)[i]? = ds[i]?.map (Draft.entry group origin (tagsAfter tag i)) := by
  induction ds generalizing tag i with
  | nil => simp [entriesOf]
  | cons d ds ih =>
    cases i with
    | zero => rfl
    | succ i => simp [entriesOf, ih, tagsAfter]

theorem entriesOf_append (group : Nat) (origin : Party) (tag : Nat) (front back : List Draft) :
    entriesOf group origin tag (front ++ back) =
      entriesOf group origin tag front ++ entriesOf group origin (tagsAfter tag front.length) back := by
  induction front generalizing tag with
  | nil => rfl
  | cons d front ih => simp [entriesOf, ih, tagsAfter]

theorem entriesOf_motion (group : Nat) (origin : Party) (tag : Nat) (ds : List Draft) :
    (entriesOf group origin tag ds).map Entry.motion = ds.map Draft.motion := by
  induction ds generalizing tag with
  | nil => rfl
  | cons d ds ih => simp [entriesOf, ih]

theorem mem_entriesOf {group : Nat} {origin : Party} {tag : Nat} {ds : List Draft} {e : Entry}
    (member : e ∈ entriesOf group origin tag ds) : ∃ n, ∃ d, d ∈ ds ∧ e = Draft.entry group origin n d := by
  induction ds generalizing tag with
  | nil => simp [entriesOf] at member
  | cons d ds ih =>
    rcases List.mem_cons.mp member with rfl | later
    · exact ⟨tag, d, List.mem_cons_self, rfl⟩
    · obtain ⟨n, d', listed, rfl⟩ := ih later
      exact ⟨n, d', List.mem_cons_of_mem d listed, rfl⟩

theorem entriesOf_tagged (group : Nat) (origin : Party) (counter : Nat) {ds : List Draft} (few : ds.length ≤ 255) :
    tagged (entriesOf group origin counter ds) counter := by
  intro least greatest
  rw [entriesOf_length]
  refine ⟨fun i e listed => ?_, tagsAfter_eq least greatest few⟩
  rw [entriesOf_getElem?] at listed
  obtain ⟨d, found, rfl⟩ := Option.map_eq_some_iff.mp listed
  have small : i < ds.length := (List.getElem?_eq_some_iff.mp found).1
  exact tagsAfter_eq least greatest (by omega)

/-! ### A submission behind an active entry -/

theorem activate_busy (busy : s.exe.active.isSome = true) : activate s = s := by simp [activate, busy]

theorem advance_still (still : s.exe.closing = none) : advance s = s := by simp [advance, runQueue, still]

/-- Behind an active entry a submission is appended and answered, and nothing more (R51, R53). -/
theorem submit_waits (p : Port) (ds : List Draft) (r : Request) (status : Status) (fields : List Byte)
    (busy : s.exe.active.isSome = true) (still : s.exe.closing = none) :
    submit p ds (respond p r status fields) s = respond p r status fields (append (.port p) ds s) := by
  have exe : (respond p r status fields (append (.port p) ds s)).exe = (append (.port p) ds s).exe := by simp
  unfold submit goAhead
  rw [activate_busy (by rw [exe]; exact busy), advance_still (by rw [exe]; exact still)]

theorem submit_waits_done (p : Port) (ds : List Draft) (r : Request) {status : Status} (fields : List Byte)
    (success : status.success = true) (busy : s.exe.active.isSome = true) (still : s.exe.closing = none) :
    submit p ds (respond p r status fields) s =
      doneState p r status fields
        (s.setExe
          { s.exe with
            queue := s.exe.queue ++ entriesOf s.exe.nextTag (.port p) s.exe.nextTag ds
            nextTag := tagsAfter s.exe.nextTag ds.length }) := by
  rw [submit_waits p ds r status fields busy still, respond_done _ _ _ _ _ success]
  rfl

/-- Settles O19. -/
theorem acceptedMovesWaitTheirTurn : Obligations.AcceptedMovesWaitTheirTurn := by
  rintro p lock moves r s rfl h may locks present good fits few room least greatest busy still
  refine ⟨entriesOf s.exe.nextTag (.port p) s.exe.nextTag (moves.filterMap (RawMove.draft (lock == 0x01))), ?_, ?_, ?_⟩
  · have arm : exec (.queueMoves p lock moves) s = .next (onRequest p (.queueMoves lock moves)
      (asHolder p (.queueMoves lock moves) true (queueMoves p lock moves)) s) := rfl
    rw [exec_of_takes arm h, asHolder_submits may, queueMoves_goodForm p (form_of locks few present) good,
      firstPosition_none (drafts_inRange _ fits)]
    dsimp only
    rw [if_pos room, submit_waits_done p _ _ _ rfl busy still, drafts_length _ good, tagsAfter_eq least greatest (by omega)]
  · rw [entriesOf_length, drafts_length _ good]
  · intro i m e listed added
    rw [entriesOf_getElem?] at added
    obtain ⟨d, found, rfl⟩ := Option.map_eq_some_iff.mp added
    have drafted : RawMove.draft (lock == 0x01) m = some d := by
      have places := congrArg (fun l => l[i]?) (drafts_of_goodForm (lock == 0x01) good)
      rw [List.getElem?_map, List.getElem?_map, found, listed] at places
      exact (Option.some.inj places).symm
    have small : i < moves.length := (List.getElem?_eq_some_iff.mp listed).1
    obtain ⟨motion, rate, purpose, slot, locked⟩ := draft_some drafted
    refine ⟨motion, rate, tagsAfter_eq least greatest (by omega), ?_, rfl, purpose, slot, rfl⟩
    rcases locks with rfl | rfl <;> simp [Draft.entry, locked]

end Sys2Proof.Machine
end

section
/-! The checks of SET HEADING, AIM and PEAK (R135 to R137, R143). -/

namespace Sys2Proof.Machine

variable {s t u : State}

/-! ### AIM -/

theorem aim_badFlag (p : Port) {slot : Nat} {heading : Option Int} {flag : Byte} (bad : 2 < flag.toNat) :
    aim p slot heading flag s = respond p (.aim slot heading flag) .badRequest [] s := if_pos bad

theorem aim_badSlot (p : Port) {slot : Nat} {heading : Option Int} {flag : Byte} (good : flag.toNat ≤ 2) (bad : 47 < slot) :
    aim p slot heading flag s = respond p (.aim slot heading flag) .outOfRange [0x01] s :=
  (if_neg (Nat.not_lt.mpr good)).trans (if_pos bad)

theorem aim_badHeading (p : Port) {slot : Nat} {v : Int} {flag : Byte} (good : flag.toNat ≤ 2) (small : slot ≤ 47)
    (bad : v < 0 ∨ 35999 < v) : aim p slot (some v) flag s = respond p (.aim slot (some v) flag) .outOfRange [0x02] s :=
  (if_neg (Nat.not_lt.mpr good)).trans ((if_neg (Nat.not_lt.mpr small)).trans (if_neg (by omega)))

/-- A good AIM is resolved with the heading that it carries, or else the one that is known (R136). -/
theorem aim_good (p : Port) {slot : Nat} {heading : Option Int} {flag : Byte} (good : flag.toNat ≤ 2) (small : slot ≤ 47)
    (fits : ∀ v, heading = some v → 0 ≤ v ∧ v ≤ 35999) :
    aim p slot heading flag s = resolveAim p (.aim slot heading flag) slot flag (s.setHeading (heading.or s.heading)) := by
  refine (if_neg (Nat.not_lt.mpr good)).trans ((if_neg (Nat.not_lt.mpr small)).trans ?_)
  cases heading with
  | none => rfl
  | some v => exact if_pos (fits v rfl)

/-! ### PEAK -/

theorem pattern_known (b : Byte) : (ScanPattern.ofByte? b).isNone = true ↔ b ≠ 0x00 ∧ b ≠ 0x01 := by
  revert b
  decide

theorem source_known (b : Byte) : (LevelSource.ofByte? b).isNone = true ↔ b ≠ 0x00 ∧ b ≠ 0x01 := by
  revert b
  decide

theorem peakBadValue_pattern {q : PeakParams} {x : Byte × Nat} (given : q.pattern = some x) (notSpiral : x.1 ≠ 0x00)
    (notRaster : x.1 ≠ 0x01) : peakBadValue q = some 2 := by
  have bad : q.pattern.any (fun x => (ScanPattern.ofByte? x.1).isNone) = true := by
    rw [given]
    exact (pattern_known x.1).mpr ⟨notSpiral, notRaster⟩
  exact if_pos bad

theorem pattern_good {q : PeakParams} (good : ∀ x, q.pattern = some x → x.1 = 0x00 ∨ x.1 = 0x01) :
    ¬q.pattern.any (fun x => (ScanPattern.ofByte? x.1).isNone) = true := by
  rw [Option.any_eq_true]
  rintro ⟨x, given, unknown⟩
  obtain ⟨notSpiral, notRaster⟩ := (pattern_known x.1).mp unknown
  exact (good x given).elim notSpiral notRaster

theorem peakBadValue_source {q : PeakParams} (pattern : ∀ x, q.pattern = some x → x.1 = 0x00 ∨ x.1 = 0x01) {b : Byte}
    (given : q.source = some b) (notAnalog : b ≠ 0x00) (notLink : b ≠ 0x01) : peakBadValue q = some 5 := by
  have bad : q.source.any (fun b => (LevelSource.ofByte? b).isNone) = true := by
    rw [given]
    exact (source_known b).mpr ⟨notAnalog, notLink⟩
  exact (if_neg (pattern_good pattern)).trans (if_pos bad)

theorem peakBadValue_none {q : PeakParams} (pattern : ∀ x, q.pattern = some x → x.1 = 0x00 ∨ x.1 = 0x01)
    (source : ∀ b, q.source = some b → b = 0x00 ∨ b = 0x01) : peakBadValue q = none := by
  have known : ¬q.source.any (fun b => (LevelSource.ofByte? b).isNone) = true := by
    rw [Option.any_eq_true]
    rintro ⟨b, given, unknown⟩
    obtain ⟨notAnalog, notLink⟩ := (source_known b).mp unknown
    exact (source b given).elim notAnalog notLink
  exact (if_neg (pattern_good pattern)).trans (if_neg known)

theorem peakMissing_none {q : PeakParams}
    (given : q.slot.isSome = true ∨ (q.pattern.isSome = true ∧ q.stepSize.isSome = true ∧ q.steps.isSome = true)) :
    peakMissing q = none := by
  unfold peakMissing
  rcases given with slot | ⟨pattern, size, steps⟩
  · exact if_pos slot
  · simp [Option.isSome_iff_ne_none.mp pattern, Option.isSome_iff_ne_none.mp size, Option.isSome_iff_ne_none.mp steps]

theorem any_iff_all {α : Type} {bad good : α → Bool} (opposite : ∀ x, bad x = !good x) (o : Option α) :
    o.any bad = true ↔ o.all good = false := by
  cases o with
  | none => simp
  | some x => simp [opposite x]

/-- The first parameter of PEAK that lies outside its range, position by position (R143). -/
theorem peakOutOfRange_eq (q : PeakParams) :
    peakOutOfRange q =
      if peakParamFits q 1 = false then some 1
      else if peakParamFits q 2 = false then some 2
      else if peakParamFits q 3 = false then some 3
      else if peakParamFits q 4 = false then some 4
      else if peakParamFits q 6 = false then some 6
      else if peakParamFits q 7 = false then some 7
      else none := by
  have slot : q.slot.any (fun n => 47 < n) = true ↔ peakParamFits q 1 = false :=
    any_iff_all (fun n => by rw [← decide_not, decide_eq_decide]; omega) q.slot
  have pattern : q.pattern.any (fun x => x.1 == 0x01 && (x.2 < 2 || 16 < x.2)) = true ↔ peakParamFits q 2 = false :=
    any_iff_all (fun x => by
      have outside : (decide (x.2 < 2) || decide (16 < x.2)) = !(decide (2 ≤ x.2) && decide (x.2 ≤ 16)) := by
        rw [← Bool.decide_or, ← Bool.decide_and, ← decide_not, decide_eq_decide]
        omega
      rw [outside, Bool.not_or, bne, Bool.not_not]) q.pattern
  have size : q.stepSize.any (fun n => n < 5 || 200 < n) = true ↔ peakParamFits q 3 = false :=
    any_iff_all (fun n => by rw [← Bool.decide_or, ← Bool.decide_and, ← decide_not, decide_eq_decide]; omega) q.stepSize
  have steps : q.steps.any (fun n => 256 < n) = true ↔ peakParamFits q 4 = false :=
    any_iff_all (fun n => by rw [← decide_not, decide_eq_decide]; omega) q.steps
  have dwell : q.dwell.any (fun n => n < 100 || 2000 < n) = true ↔ peakParamFits q 6 = false :=
    any_iff_all (fun n => by rw [← Bool.decide_or, ← Bool.decide_and, ← decide_not, decide_eq_decide]; omega) q.dwell
  have block : q.block.any (fun n => 32 < n) = true ↔ peakParamFits q 7 = false :=
    any_iff_all (fun n => by rw [← decide_not, decide_eq_decide]; omega) q.block
  unfold peakOutOfRange
  simp only [slot, pattern, size, steps, dwell, block]

/-- A position at which a parameter can be out of range (R143). -/
theorem position_of_unfitParam {q : PeakParams} {k : Nat} (unfit : peakParamFits q k = false) : 1 ≤ k ∧ k ≤ 7 ∧ k ≠ 5 := by
  unfold peakParamFits at unfit
  split at unfit
  case h_7 => cases unfit
  all_goals decide

theorem peakOutOfRange_first {q : PeakParams} {k : Nat} (unfit : peakParamFits q k = false)
    (first : ∀ j, j < k → peakParamFits q j = true) : peakOutOfRange q = some k := by
  obtain ⟨least, most, listed⟩ := position_of_unfitParam unfit
  rw [peakOutOfRange_eq]
  have place : k = 1 ∨ k = 2 ∨ k = 3 ∨ k = 4 ∨ k = 6 ∨ k = 7 := by omega
  rcases place with rfl | rfl | rfl | rfl | rfl | rfl
  all_goals simp [unfit, first]

/-- PEAK's parameters fit if no position lies outside its range, and those without a default are given (R143). -/
theorem peakFits_of_params {q : PeakParams} (pattern : ∀ x, q.pattern = some x → x.1 = 0x00 ∨ x.1 = 0x01)
    (source : ∀ b, q.source = some b → b = 0x00 ∨ b = 0x01)
    (given : q.slot.isSome = true ∨ (q.pattern.isSome = true ∧ q.stepSize.isSome = true ∧ q.steps.isSome = true))
    (fits : ∀ k, peakParamFits q k = true) : peakFits q := by
  refine ⟨fun x held => ?_, source, fun absent => ?_, fun n held => ?_, fun n held => ?_, fun n held => ?_,
    fun n held => ?_, fun n held => ?_⟩
  · have fit := fits 2
    simp only [peakParamFits, held, Option.all_some, Bool.or_eq_true, Bool.and_eq_true, decide_eq_true_eq] at fit
    rcases pattern x held with spiral | raster
    · exact Or.inl spiral
    · exact Or.inr ⟨raster, fit.resolve_left (by simp [raster])⟩
  · exact given.resolve_left (by simp [absent])
  · simpa [peakParamFits, held] using fits 1
  · simpa [peakParamFits, held] using fits 3
  · simpa [peakParamFits, held] using fits 4
  · simpa [peakParamFits, held] using fits 6
  · simpa [peakParamFits, held] using fits 7

theorem unfitParam_of_not_peakFits {q : PeakParams} (pattern : ∀ x, q.pattern = some x → x.1 = 0x00 ∨ x.1 = 0x01)
    (source : ∀ b, q.source = some b → b = 0x00 ∨ b = 0x01)
    (given : q.slot.isSome = true ∨ (q.pattern.isSome = true ∧ q.stepSize.isSome = true ∧ q.steps.isSome = true))
    (unfit : ¬peakFits q) : ∃ k, 1 ≤ k ∧ k ≤ 7 ∧ peakParamFits q k = false := by
  refine Classical.byContradiction fun none_ => ?_
  refine unfit (peakFits_of_params pattern source given fun k => ?_)
  refine Classical.byContradiction fun bad => ?_
  have out : peakParamFits q k = false := by simpa using bad
  obtain ⟨least, most, -⟩ := position_of_unfitParam out
  exact none_ ⟨k, least, most, out⟩

/-- Parameters that fit pass the three orders of R143. -/
theorem peakFits_passes {q : PeakParams} (fits : peakFits q) :
    peakBadValue q = none ∧ peakMissing q = none ∧ peakOutOfRange q = none := by
  obtain ⟨pattern, source, needs, slot, size, steps, dwell, block⟩ := fits
  have known : ∀ x, q.pattern = some x → x.1 = 0x00 ∨ x.1 = 0x01 := fun x held =>
    (pattern x held).imp id (fun ⟨raster, _⟩ => raster)
  refine ⟨peakBadValue_none known source, peakMissing_none ?_, ?_⟩
  · cases held : q.slot with
    | none => exact Or.inr (needs held)
    | some n => exact Or.inl rfl
  · have all {good : Nat → Bool} {o : Option Nat} (fit : ∀ n, o = some n → good n = true) : o.all good = true := by
      cases held : o with
      | none => rfl
      | some n => exact fit n held
    have first : peakParamFits q 1 = true := all fun n held => decide_eq_true (slot n held)
    have second : peakParamFits q 2 = true := by
      cases held : q.pattern with
      | none => simp [peakParamFits, held]
      | some x =>
        rcases pattern x held with spiral | ⟨raster, row⟩
        · simp [peakParamFits, held, spiral]
        · simp [peakParamFits, held, row]
    have third : peakParamFits q 3 = true := all fun n held => by simpa using size n held
    have fourth : peakParamFits q 4 = true := all fun n held => decide_eq_true (steps n held)
    have sixth : peakParamFits q 6 = true := all fun n held => by simpa using dwell n held
    have seventh : peakParamFits q 7 = true := all fun n held => decide_eq_true (block n held)
    rw [peakOutOfRange_eq]
    simp [first, second, third, fourth, sixth, seventh]

theorem peak_badValue (p : Port) {q : PeakParams} {k : Nat} (bad : peakBadValue q = some k) :
    peak p q s = respond p (.peak q) .badRequest [byteOf k] s := by
  unfold peak
  rw [bad]

theorem peak_missing (p : Port) {q : PeakParams} {k : Nat} (good : peakBadValue q = none) (bad : peakMissing q = some k) :
    peak p q s = respond p (.peak q) .badRequest [byteOf k] s := by
  unfold peak
  rw [good, bad]

theorem peak_badRange (p : Port) {q : PeakParams} {k : Nat} (good : peakBadValue q = none) (whole : peakMissing q = none)
    (bad : peakOutOfRange q = some k) : peak p q s = respond p (.peak q) .outOfRange [byteOf k] s := by
  unfold peak
  rw [good, whole, bad]

theorem peak_good (p : Port) {q : PeakParams} (fits : peakFits q) : peak p q s = buildPeak p q s := by
  obtain ⟨good, whole, range⟩ := peakFits_passes fits
  unfold peak
  rw [good, whole, range]

/-- Settles O35, request by request and check by check. -/
theorem aimAndPeakAreChecked : Obligations.AimAndPeakAreChecked := by
  refine ⟨fun p v s h => ⟨fun least most => ?_, fun out => ?_⟩, ?_, fun p q s h may => ?_⟩
  · exact exec_of_done rfl h (if_pos ⟨least, most⟩) rfl
  · exact exec_of_refused rfl h (if_neg (by omega)) rfl
  · rintro p slot heading flag r s rfl h may
    have arm : exec (.aim p slot heading flag) s = .next (onRequest p (.aim slot heading flag)
      (asHolder p (.aim slot heading flag) true (aim p slot heading flag)) s) := rfl
    refine ⟨fun bad => ?_, fun good bad => ?_, ?_⟩
    · exact exec_of_refused arm h ((asHolder_submits may).trans (aim_badFlag p bad)) rfl
    · exact exec_of_refused arm h ((asHolder_submits may).trans (aim_badSlot p good bad)) rfl
    · rintro v good small rfl bad
      exact exec_of_refused arm h ((asHolder_submits may).trans (aim_badHeading p good small bad)) rfl
  · have refused {status : Status} {fields : List Byte} (answers : peak p q s = respond p (.peak q) status fields s)
        (refusal : status.success = false) : exec (.peak p q) s = .next (answeredState p (.peak q) status fields s) :=
      exec_of_refused rfl h ((asHolder_submits may).trans answers) refusal
    refine ⟨fun x given notSpiral notRaster => refused (peak_badValue p (peakBadValue_pattern given notSpiral notRaster)) rfl,
      fun pattern => ⟨fun b given notAnalog notLink =>
        refused (peak_badValue p (peakBadValue_source pattern given notAnalog notLink)) rfl, fun source => ?_⟩⟩
    have good := peakBadValue_none pattern source
    refine ⟨fun noSlot => ⟨fun noPattern => ?_, fun held noSize => ?_, fun held sized noSteps => ?_⟩, fun n given big => ?_,
      fun given => ⟨unfitParam_of_not_peakFits pattern source given, fun k unfit first => ?_⟩⟩
    · exact refused (peak_missing p good (k := 2) (by simp [peakMissing, noSlot, noPattern])) rfl
    · exact refused (peak_missing p good (k := 3)
        (by simp [peakMissing, noSlot, noSize, Option.isSome_iff_ne_none.mp held])) rfl
    · exact refused (peak_missing p good (k := 4)
        (by simp [peakMissing, noSlot, noSteps, Option.isSome_iff_ne_none.mp held, Option.isSome_iff_ne_none.mp sized])) rfl
    · exact refused (peak_badRange p good (peakMissing_none (Or.inl (by rw [given]; rfl))) (k := 1)
        (by simp [peakOutOfRange, given, big])) rfl
    · exact refused (peak_badRange p good (peakMissing_none given) (peakOutOfRange_first unfit first)) rfl

end Sys2Proof.Machine
end

section
/-! Slots that cannot be aimed at (R120, R136, R137, R143). -/

namespace Sys2Proof.Machine

variable {s t u : State}

/-! ### The Store's answer about a slot -/

theorem slotRefusal_erasing {slot : Nat} {t : Store} {who : Port} {n : Nat} (erases : t.engine = .erase who n) :
    slotRefusal slot t = some (.tableBusy, [0x02]) := by
  simp [slotRefusal, erases, Engine.erasing, Engine.tableByte]

theorem slotRefusal_free {slot : Nat} {t : Store} (still : t.engine.erasing = false) (free : (t.slotAt slot).state = .free) :
    slotRefusal slot t = some (.noSite, []) := by
  simp [slotRefusal, still, free]

theorem slotRefusal_writing {slot : Nat} {t : Store} (still : t.engine.erasing = false) (busy : t.engine ≠ .idle)
    (writing : (t.slotAt slot).state = .writing) : slotRefusal slot t = some (.tableBusy, [0x01]) := by
  obtain ⟨-, byte⟩ := engine_writing busy still
  simp [slotRefusal, still, writing, byte]

theorem slotRefusal_damaged {slot : Nat} {t : Store} (still : t.engine.erasing = false)
    (damaged : (t.slotAt slot).state = .damaged) : slotRefusal slot t = some (.gone, [0x04]) := by
  simp [slotRefusal, still, damaged, SlotState.code]

theorem slotRefusal_retired {slot : Nat} {t : Store} {k : Contents} (still : t.engine.erasing = false)
    (retired : (t.slotAt slot).state = .retired) (contents : (t.slotAt slot).contents = some k) :
    slotRefusal slot t = if k.redirection = 0xFF then some (.gone, [0x03]) else some (.redirected, [k.redirection]) := by
  simp [slotRefusal, still, retired, contents, SlotState.code]

theorem slotRefusal_committed {slot : Nat} {t : Store} (still : t.engine.erasing = false)
    (committed : (t.slotAt slot).state = .committed) : slotRefusal slot t = none := by
  simp [slotRefusal, still, committed]

theorem slotRefusal_fails {slot : Nat} {t : Store} {status : Status} {fields : List Byte}
    (refuses : slotRefusal slot t = some (status, fields)) : status.success = false := by
  unfold slotRefusal at refuses
  repeat' split at refuses
  all_goals cases refuses
  all_goals rfl

/-- Settles O36: AIM and PEAK ask the Store alike. -/
theorem slotsThatCannotBeAimedAt : Obligations.SlotsThatCannotBeAimedAt := by
  intro p slot c r s u h may small asked
  have refused {status : Status} {fields : List Byte} (refuses : slotRefusal slot s.store = some (status, fields)) :
      exec c s = .next (answeredState p r status fields u) := by
    have fails := slotRefusal_fails refuses
    rcases asked with ⟨heading, flag, rfl, rfl, good, fits, rfl⟩ | ⟨q, rfl, rfl, fits, slotGiven, rfl⟩
    · refine exec_of_refused rfl h ((asHolder_submits may).trans ((aim_good p good small fits).trans ?_)) fails
      unfold resolveAim
      rw [State.setHeading_store, refuses]
    · refine exec_of_refused rfl h ((asHolder_submits may).trans ((peak_good p fits).trans ?_)) fails
      unfold buildPeak
      rw [slotGiven]
      dsimp only
      rw [refuses]
  refine ⟨fun who n erases => refused (slotRefusal_erasing erases), fun still =>
    ⟨fun free => refused (slotRefusal_free still free), fun writing busy => refused (slotRefusal_writing still busy writing),
      fun damaged => refused (slotRefusal_damaged still damaged), fun k retired contents => ?_,
      fun k flag committed contents aims unknown => ?_⟩⟩
  · have refuses := slotRefusal_retired still retired contents
    split
    · next unredirected => exact refused (refuses.trans (if_pos unredirected))
    · next redirected => exact refused (refuses.trans (if_neg redirected))
  · rcases asked with ⟨heading, flag', rfl, rfl, good, fits, rfl⟩ | ⟨q, rfl, -⟩
    · cases aims
      refine exec_of_refused rfl h ((asHolder_submits may).trans ((aim_good p good small fits).trans ?_)) rfl
      unfold resolveAim
      rw [State.setHeading_store, slotRefusal_committed still committed, committedSite_of_committed still committed contents]
      simp [unknown]
    · cases aims

end Sys2Proof.Machine
end

section
/-! Notices placed one after the other, and reasons that leave the set (R43, R45, R99, R100). -/

namespace Sys2Proof.Machine

variable {s t u : State} {told more : Port → List Nat}

/-! ### Output lists alone -/

theorem onlyOutputs_setArb (h : onlyOutputs told s t) (a : Arbiter) : onlyOutputs told (s.setArb a) (t.setArb a) := by
  obtain ⟨cab, rack, link, hc, hr, hl, rfl⟩ := h
  exact ⟨cab, rack, link, hc, hr, hl, rfl⟩

theorem onlyOutputs_setSafe (h : onlyOutputs told s t) (m : SafetyMonitor) : onlyOutputs told (s.setSafe m) (t.setSafe m) := by
  obtain ⟨cab, rack, link, hc, hr, hl, rfl⟩ := h
  exact ⟨cab, rack, link, hc, hr, hl, rfl⟩

theorem onlyOutputs_setExe (h : onlyOutputs told s t) (e : Executor) : onlyOutputs told (s.setExe e) (t.setExe e) := by
  obtain ⟨cab, rack, link, hc, hr, hl, rfl⟩ := h
  exact ⟨cab, rack, link, hc, hr, hl, rfl⟩

theorem onlyOutputs_setScan (h : onlyOutputs told s t) (e : ScanEngine) : onlyOutputs told (s.setScan e) (t.setScan e) := by
  obtain ⟨cab, rack, link, hc, hr, hl, rfl⟩ := h
  exact ⟨cab, rack, link, hc, hr, hl, rfl⟩

theorem onlyOutputs_mono (subset : ∀ p, told p ⊆ more p) (h : onlyOutputs told s t) : onlyOutputs more s t := by
  obtain ⟨cab, rack, link, hc, hr, hl, rfl⟩ := h
  refine ⟨cab, rack, link, ?_, ?_, ?_, rfl⟩
  · rw [← besides_besides (subset .cab), hc, besides_besides (subset .cab)]
  · rw [← besides_besides (subset .rack), hr, besides_besides (subset .rack)]
  · rw [← besides_besides (subset .link), hl, besides_besides (subset .link)]

/-- Everything but the output lists is as it was. -/
theorem onlyOutputs_frame (h : onlyOutputs told s t) :
    t.pending = s.pending ∧ t.powered = s.powered ∧ t.arb = s.arb ∧ t.exe = s.exe ∧ t.pose = s.pose ∧ t.safe = s.safe
      ∧ t.store = s.store ∧ t.cache = s.cache ∧ t.heading = s.heading ∧ t.scan = s.scan ∧ t.settings = s.settings := by
  obtain ⟨cab, rack, link, -, -, -, rfl⟩ := h
  exact ⟨rfl, rfl, rfl, rfl, rfl, rfl, rfl, rfl, rfl, rfl, rfl⟩

theorem onlyOutputs_mask (h : onlyOutputs told s t) (p : Port) : (t.ports.get p).mask = (s.ports.get p).mask := by
  obtain ⟨cab, rack, link, -, -, -, rfl⟩ := h
  cases p <;> rfl

theorem onlyOutputs_nil (h : onlyOutputs (fun _ => []) s t) : t = s := by
  have whole (l : List OutItem) : besides [] l = l := by
    refine List.filter_eq_self.mpr fun i _ => ?_
    cases i <;> rfl
  obtain ⟨cab, rack, link, hc, hr, hl, rfl⟩ := h
  rw [whole, whole] at hc hr hl
  rw [hc, hr, hl]
  rfl

theorem setAlarmCauses_silent {park wind : Bool} (stands : s.safe.alarm = (park || wind)) :
    setAlarmCauses park wind s = withAlarm park wind s := if_pos stands

/-! ### Notices of one kind after another -/

/-- A notice that takes nothing over from a pending one of its kind (R161). -/
def plain (body : NoticeBody) : Prop := ∀ old, mergeBody old body = body

theorem plain_condition (event : ConditionEvent) (reasons : Reasons) (latch park wind defaulted : Bool) :
    plain (.condition event reasons latch park wind defaulted) := fun old => by cases old <;> rfl

theorem noticed_plain {body : NoticeBody} (h : plain body) (before : List OutItem) : noticed body before = body := by
  unfold noticed
  split
  · exact h _
  · rfl

/-- The later of two notices of a kind is the one that stands, if it takes nothing over. -/
theorem tellsAll_again {first second : NoticeBody} (before : tellsAll first s t) (later : tellsAll second t u)
    (kinds : first.kind = second.kind) (new : plain second) (masks : ∀ p, (t.ports.get p).mask = (s.ports.get p).mask) :
    tellsAll second s u := by
  intro p
  have placed := before p
  have placedLater := later p
  unfold tellsIf tells at *
  rw [noticed_plain new] at placedLater ⊢
  rw [masks p] at placedLater
  rw [kinds] at placed
  split
  · next admitted => simpa [admitted] using placedLater
  · next hidden =>
    simp only [hidden] at placed placedLater
    exact placedLater.trans placed

theorem tellsAll_of_ports {body : NoticeBody} {s' t' : State} (hs : s'.ports = s.ports) (ht : t'.ports = t.ports)
    (h : tellsAll body s t) : tellsAll body s' t' := fun p => tellsIf_of_port (by rw [hs]) (by rw [ht]) (h p)

/-! ### Reasons that an assertion of PARK removes -/

/-- The set with the three reasons of PARK removed, told if it changed (R43, R99). -/
theorem dropParkReasons_told (s : State) :
    onlyOutputs (fun _ => if s.arb.reasons.withoutPark = s.arb.reasons then [] else [12])
        (s.setArb { s.arb with reasons := s.arb.reasons.withoutPark }) (dropParkReasons s)
      ∧ (s.arb.reasons.withoutPark ≠ s.arb.reasons →
          tellsAll
            (.condition .lockout s.arb.reasons.withoutPark s.pose.latch s.safe.alarmPark s.safe.alarmWind
              s.settings.defaulted) s (dropParkReasons s)) := by
  unfold dropParkReasons
  by_cases same : s.arb.reasons.withoutPark = s.arb.reasons
  · rw [if_pos same]
    simp only [same, if_true]
    exact ⟨onlyOutputs_refl _ s, fun changed => absurd rfl changed⟩
  · rw [if_neg same]
    simp only [same, if_false]
    refine ⟨placeAll_onlyOutputs (told := fun _ => [12]) _ (fun _ => List.mem_singleton.mpr rfl) _, fun _ => ?_⟩
    exact tellsAll_of_ports rfl rfl (placeAll_tells (conditionBody .lockout (s.setArb
      { s.arb with reasons := s.arb.reasons.withoutPark })) (s.setArb { s.arb with reasons := s.arb.reasons.withoutPark }))

/-- With PARK asserted, a set emptied in LOCKOUT gives FREE (R43). -/
theorem afterRemoval_parked (park : s.safe.park = true) :
    afterRemoval s = s.setArb (if s.arb.auth = .lockout ∧ s.arb.reasons = Reasons.empty then freed s else s.arb) := by
  unfold afterRemoval
  simp only [isEmpty_iff]
  by_cases emptied : s.arb.auth = .lockout ∧ s.arb.reasons = Reasons.empty
  · rw [if_pos emptied, if_pos emptied]
    simp only [toFree_eq, State.setArb_safe, park, if_true]
  · rw [if_neg emptied, if_neg emptied]
    rfl

/-- The arbiter once reasons have left the set, with PARK asserted (R43). -/
def arbWith (left : Reasons) (s : State) : Arbiter :=
  if s.arb.auth = .lockout ∧ left = Reasons.empty then { freed s with reasons := left } else { s.arb with reasons := left }

/-- The removals and what follows them, before the alarm (R43, R99). -/
theorem removed_told {left : Reasons} (left_eq : s.arb.reasons.withoutPark = left) :
    onlyOutputs (fun _ => if left = s.arb.reasons then [] else [12]) ((setPark true s).setArb (arbWith left s))
        (afterRemoval (dropParkReasons (setPark true s)))
      ∧ (left ≠ s.arb.reasons →
          tellsAll (.condition .lockout left s.pose.latch s.safe.alarmPark s.safe.alarmWind s.settings.defaulted) s
            (afterRemoval (dropParkReasons (setPark true s)))) := by
  obtain ⟨dropped, told⟩ := dropParkReasons_told (setPark true s)
  simp only [setPark_frame, left_eq] at dropped told
  have arb : (dropParkReasons (setPark true s)).arb = { s.arb with reasons := left } :=
    (onlyOutputs_frame dropped).2.2.1.trans (State.setArb_arb _ _)
  rw [afterRemoval_parked (by simp [setPark]), freed, arb]
  exact ⟨onlyOutputs_setArb dropped (arbWith left s), fun changed => tellsAll_of_ports rfl rfl (told changed)⟩

theorem listed_mono {P Q : Prop} [Decidable P] [Decidable Q] {l : List Nat} (weaker : Q → P) :
    (if P then [] else l) ⊆ (if Q then [] else l) := by
  by_cases q : Q
  · rw [if_pos (weaker q)]
    exact List.nil_subset _
  · rw [if_neg q]
    split
    · exact List.nil_subset _
    · exact List.Subset.refl _

/-- Settles O32: the removals, then the alarm. -/
theorem parkAssertionRemovesReasons : Obligations.ParkAssertionRemovesReasons := by
  intro left s on left_eq
  refine ⟨fun asserted => ?_, fun negated => ⟨takeParkAssertion s, ?_, ?_⟩⟩
  · rw [exec_of_powered rfl on, if_pos asserted]
  · rw [exec_of_powered rfl on, if_neg (by simp [negated])]
  obtain ⟨removed, told⟩ := removed_told (s := s) left_eq.symm
  generalize removed_eq : afterRemoval (dropParkReasons (setPark true s)) = r at removed told
  have taken : takeParkAssertion s = setAlarmCauses false r.safe.alarmWind r := by
    rw [takeParkAssertion, removed_eq, clearParkAlarm]
  obtain ⟨-, -, arb, -, pose, safe, -, -, -, -, settings⟩ := onlyOutputs_frame removed
  have sensed : r.safe = { s.safe with park := true } := safe
  have alarmed : setAlarmCauses false r.safe.alarmWind r = setAlarmCauses false s.safe.alarmWind r := by rw [sensed]
  have causes : withAlarm false s.safe.alarmWind r =
      r.setSafe { s.safe with park := true, alarmPark := false, alarm := s.safe.alarmWind } := by
    unfold withAlarm
    rw [sensed]
    rfl
  have output : r.safe.alarm = s.safe.alarm := by rw [sensed]
  have reasons : r.arb.reasons = left := by
    rw [arb]
    show (arbWith left s).reasons = left
    unfold arbWith
    split <;> rfl
  obtain ⟨alarm, sounds⟩ := setAlarmCauses_leaves (s := r) (t := r) false s.safe.alarmWind rfl rfl rfl rfl rfl
  rw [causes] at alarm sounds
  have stands : r.safe.alarm = (r.setSafe
      { s.safe with park := true, alarmPark := false, alarm := s.safe.alarmWind }).safe.alarm ↔
      s.safe.alarm = s.safe.alarmWind := by rw [output]; rfl
  rw [taken, alarmed]
  refine ⟨?_, fun changed same => ?_, fun changed => ?_⟩
  · exact onlyOutputs_trans
      (onlyOutputs_mono (fun _ => listed_mono fun ⟨same, _⟩ => same)
        (onlyOutputs_setSafe removed { s.safe with park := true, alarmPark := false, alarm := s.safe.alarmWind }))
      (onlyOutputs_mono (fun _ => listed_mono fun ⟨_, same⟩ => stands.mpr same) alarm)
  · have silent : (setAlarmCauses false s.safe.alarmWind r).ports = r.ports := by
      rw [setAlarmCauses_silent (park := false) (output.trans same)]
      rfl
    exact tellsAll_of_ports rfl silent (told changed)
  · have sounded := sounds (mt stands.mp changed)
    rw [reasons, pose, settings] at sounded
    by_cases same : left = s.arb.reasons
    · simp only [same, if_true] at removed
      have ports : r.ports = s.ports := by
        rw [onlyOutputs_nil removed]
        rfl
      exact tellsAll_of_ports ports.symm rfl sounded
    · exact tellsAll_again (told same) sounded rfl (plain_condition _ _ _ _ _ _) fun p => onlyOutputs_mask removed p

end Sys2Proof.Machine
end

section
/-! Activation: the oldest entry becomes active, and a move that passes its start checks is driven, settles, completes or is
suspended (R54, R55, R73). -/

namespace Sys2Proof.Machine

variable {s t u : State} {e : Entry} {rest : List Entry} {a : Axis} {target : Int}

/-- The arbiter told of an activation: HELD becomes MOVING and the idle timer stops (R20, R36). -/
def activatedArb (s : State) : Arbiter := if s.arb.auth = .held then { s.arb with auth := .moving, idle := none } else s.arb

/-- What the executor holds of an entry that has just become active (R13, R54). -/
def freshOn (e : Entry) (s : State) : Active :=
  { execution := .running, mastClass := classAtStart e s, phases := Axes.all .idle, yieldDue := false, crankDue := false }

/-- The oldest entry has become active, and the arbiter is told (R54). -/
def activated (e : Entry) (rest : List Entry) (s : State) : State :=
  (s.setExe { s.exe with queue := e :: rest, active := some (freshOn e s) }).setArb (activatedArb s)

/-- The active entry with its start checks made: it starts, is suspended, or fails (R54, R55, R73). -/
def begun (e : Entry) (s : State) : State :=
  match startCheck e s with
  | some why => failActive why false s
  | none => if s.exe.supply = .available then startEntry e s else suspendOrAbandon s

theorem reportActivation_eq (s : State) : reportActivation s = s.setArb (activatedArb s) := by
  unfold reportActivation activatedArb
  split <;> rfl

theorem activate_cons (active : s.exe.active = none) (closing : s.exe.closing = none) (queue : s.exe.queue = e :: rest) :
    activate s =
      begun { e with target := resolve e.motion s } (activated { e with target := resolve e.motion s } rest s) := by
  unfold activate
  rw [active, closing, queue]
  dsimp only
  rw [reportActivation_eq]
  rfl

theorem activate_nil (queue : s.exe.queue = []) : activate s = s := by
  unfold activate
  rw [queue]
  split <;> rfl

/-! ### A move that passes its start checks -/

theorem resolve_of_passes (h : passes e a target s) : resolve e.motion s = some target := by
  obtain ⟨motion | ⟨motion, -⟩, -⟩ := h
  · rw [motion]
    rfl
  · rw [motion]
    show some (s.pose.position.get a + (target - s.pose.position.get a)) = some target
    exact congrArg some (by omega)

theorem axis_of_passes (h : passes e a target s) : e.motion.axis = some a := by
  obtain ⟨motion | ⟨motion, -⟩, -⟩ := h <;> rw [motion] <;> rfl

theorem axes_of_passes (h : passes e a target s) : e.motion.axes = onlyAxis a := by
  obtain ⟨motion | ⟨motion, -⟩, -⟩ := h <;> rw [motion] <;> rfl

theorem startCheck_of_passes (h : passes e a target s) : startCheck { e with target := some target } s = none := by
  have axis := axis_of_passes h
  obtain ⟨motion, sound, verdict, parked⟩ := h
  have unfaulted : axisFaulted e.motion s = false := by
    rcases motion with motion | ⟨motion, -⟩ <;> rw [motion] <;> exact sound
  have inside : beyondLimit e.motion (some target) = false := by
    rcases motion with motion | ⟨motion, fits⟩
    · rw [motion]
      rfl
    · rw [motion]
      show (!inRange a target) = false
      rw [fits]
      rfl
  unfold startCheck
  dsimp only
  rw [unfaulted, inside, axis]
  simp only [Option.getD_some, verdict, Bool.false_eq_true, if_false]
  refine if_neg fun ⟨negated, other⟩ => ?_
  rcases parked with asserted | safety
  · simp [asserted] at negated
  · exact other safety

theorem classAtStart_move (axis : e.motion.axis = some a) (held : e.target = some target) :
    classAtStart e s = if a = .mast then some (mastClassOf s.pose.position.mast target) else none := by
  unfold classAtStart
  rw [axis, held]
  cases a <;> rfl

theorem startEntry_move (axis : e.motion.axis = some a) (held : e.target = some target) :
    startEntry e s = startMove a target e.rate s := by
  unfold startEntry
  cases motion : e.motion with
  | moveTo b v =>
    rw [motion] at axis
    cases axis
    rw [held]
    rfl
  | moveBy b v =>
    rw [motion] at axis
    cases axis
    rw [held]
    rfl
  | scan q =>
    rw [motion] at axis
    cases axis

/-- A move that passes its start checks starts, or is suspended for want of supply (R55, R73). -/
theorem activate_passes (active : s.exe.active = none) (closing : s.exe.closing = none) (queue : s.exe.queue = e :: rest)
    (h : passes e a target s) :
    activate s =
      if s.exe.supply = .available then
        startMove a target e.rate (activated { e with target := some target } rest s)
      else suspendOrAbandon (activated { e with target := some target } rest s) := by
  have check : startCheck { e with target := some target } (activated { e with target := some target } rest s) = none :=
    startCheck_of_passes h
  rw [activate_cons active closing queue, resolve_of_passes h]
  unfold begun
  rw [check]
  dsimp only
  rw [startEntry_move (e := { e with target := some target }) (axis_of_passes h) rfl]
  rfl

/-- The executor when a move has become active and is driven toward its target (R3, R54, R56, R58). -/
def drivenEntry (a : Axis) (target : Int) (e : Entry) (rest : List Entry) (s : State) : Executor :=
  { s.exe with
    queue := { e with target := some target } :: rest
    active := some (activeOn a target .running (drivingOn a s) s)
    drives := s.exe.drives.set a (drivenToward target e.rate a s) }

/-- The executor when a move has become active within tolerance of its target and settles (R3, R55, R56). -/
def settlingEntry (a : Axis) (target : Int) (e : Entry) (rest : List Entry) (s : State) : Executor :=
  { s.exe with
    queue := { e with target := some target } :: rest
    active := some (activeOn a target .running ((Axes.all .idle).set a .settling) s)
    drives := s.exe.drives.set a (settlingToward target a s) }

theorem freshOn_move (axis : e.motion.axis = some a) :
    freshOn { e with target := some target } s = activeOn a target .running (Axes.all .idle) s := by
  unfold freshOn activeOn
  rw [classAtStart_move (e := { e with target := some target }) axis rfl]

theorem activate_drives (active : s.exe.active = none) (closing : s.exe.closing = none) (queue : s.exe.queue = e :: rest)
    (h : passes e a target s) (supply : s.exe.supply = .available) (far : within a (s.pose.position.get a) target = false) :
    activate s = (s.setExe (drivenEntry a target e rest s)).setArb (activatedArb s) := by
  rw [activate_passes active closing queue h, if_pos supply]
  unfold activated startMove
  rw [freshOn_move (axis_of_passes h)]
  refine (if_neg (by simp [far])).trans ?_
  rfl

theorem activate_settles (active : s.exe.active = none) (closing : s.exe.closing = none) (queue : s.exe.queue = e :: rest)
    (h : passes e a target s) (supply : s.exe.supply = .available) (near : within a (s.pose.position.get a) target = true)
    (moves : s.pose.atRest.get a = false) :
    activate s = (s.setExe (settlingEntry a target e rest s)).setArb (activatedArb s) := by
  rw [activate_passes active closing queue h, if_pos supply]
  unfold activated startMove
  rw [freshOn_move (axis_of_passes h)]
  refine (if_pos near).trans ((if_neg (show ¬s.pose.atRest.get a = true by simp [moves])).trans ?_)
  cases a <;> rfl

/-- Within tolerance and at rest the entry is complete, its direction line set (R3, R55). -/
theorem activate_arrives (active : s.exe.active = none) (closing : s.exe.closing = none) (queue : s.exe.queue = e :: rest)
    (h : passes e a target s) (supply : s.exe.supply = .available) (near : within a (s.pose.position.get a) target = true)
    (stands : s.pose.atRest.get a = true) :
    activate s = completeActive (setDirection a target (activated { e with target := some target } rest s)) := by
  rw [activate_passes active closing queue h, if_pos supply]
  unfold startMove
  exact (if_pos near).trans (if_pos stands)

theorem activate_suspends (active : s.exe.active = none) (closing : s.exe.closing = none) (queue : s.exe.queue = e :: rest)
    (h : passes e a target s) (supply : s.exe.supply ≠ .available) :
    activate s = suspendOrAbandon (activated { e with target := some target } rest s) := by
  rw [activate_passes active closing queue h, if_neg supply]

end Sys2Proof.Machine
end

section
/-! Boundaries: how authority passes on when an ending is taken, and what each change of holder tells (R29, R32 to R34, R41, R82). -/

namespace Sys2Proof.Machine

variable {s t u : State} {p q : Port}

/-! ### Outside -/

theorem sensed_of {m n : SafetyMonitor} (pulses : n.pulses = m.pulses) (speed : n.speed = m.speed)
    (windClass : n.windClass = m.windClass) (calm : n.calm = m.calm) (ease : n.ease = m.ease) (park : n.park = m.park)
    (estop : n.estop = m.estop) (supplyOk : n.supplyOk = m.supplyOk) (manualReq : n.manualReq = m.manualReq)
    (resetLine : n.resetLine = m.resetLine) :
    n = { m with group := n.group, alarmPark := n.alarmPark, alarmWind := n.alarmWind, alarm := n.alarm } := by
  cases m
  cases n
  subst pulses speed windClass calm ease park estop supplyOk manualReq resetLine
  rfl

theorem outside_refl (s : State) : Outside s s := ⟨rfl, rfl, rfl, rfl, rfl, rfl, rfl⟩

theorem outside_trans (first : Outside s t) (second : Outside t u) : Outside s u := by
  refine ⟨second.pending.trans first.pending, second.powered.trans first.powered, second.pose.trans first.pose,
    second.store.trans first.store, second.heading.trans first.heading, second.settings.trans first.settings, ?_⟩
  rw [second.sensed, first.sensed]

/-! ### A change of holder -/

theorem placed_tells {body : NoticeBody} (port : t.ports.get q = s.ports.get q) : tells q body s (placeAlways q body t) :=
  tells_of_port port.symm rfl (placeAlways_tells q body t)

/-- A notice placed on a port stands there whatever is placed on another. -/
theorem placed_tells_first {body other : NoticeBody} (differs : p ≠ q) (port : t.ports.get p = s.ports.get p)
    (ports : u.ports = (placeAlways p body t).ports) : tells p body s (placeAlways q other u) := by
  refine tells_of_port (t := placeAlways p body t) port.symm ?_ (placeAlways_tells p body t)
  rw [placeAlways_other q p other u differs, ports]

theorem giveTo_eq (q : Port) (reason : AuthReason) (s : State) :
    giveTo q reason s = placeAlways q (.authority .granted (some reason) 0 0) (s.setArb (heldBy q s)) := rfl

/-- The boundary in YIELDING of a port (R33). -/
theorem yieldOutcome_made (holder : s.arb.holder = some (.port p)) : YieldMade p s (yieldOutcome s) := by
  refine ⟨fun q others why claims differs reason => ?_, fun claims marked => ?_, fun claims unmarked => ?_⟩
  · have made : yieldOutcome s = placeAlways q (.authority .granted (some why) 0 0)
        ((placeAlways p (.authority .lost (some why) 0 0) s).setArb (heldBy q s)) := by
      unfold yieldOutcome
      rw [claims, holder, ← reason]
      rfl
    rw [made]
    exact ⟨rfl, placed_tells (placeAlways_other p q _ s differs.symm), placed_tells_first differs rfl rfl⟩
  · have made : yieldOutcome s = (placeAlways p (.authority .lost (some .released) 0 0) s).setArb (freed s) := by
      unfold yieldOutcome
      rw [claims, holder, marked]
      rfl
    rw [made]
    exact ⟨rfl, tells_of_port rfl rfl (placeAlways_tells p _ s)⟩
  · have made : yieldOutcome s = retain s := by
      unfold yieldOutcome
      rw [claims, unmarked]
      rfl
    have arb : (retain s).arb = heldBy p s := by
      unfold retain
      rw [holder]
      simp [placeAuthority, startIdle, heldBy, holder, claims]
    rw [made]
    refine ⟨arb, ?_⟩
    unfold retain
    rw [holder]
    exact placed_tells rfl

/-! ### The grant of the crank -/

theorem grantCrank_arb (lh ld bh bd : Nat) (s : State) : (grantCrank lh ld bh bd s).arb = crankGranted s := by
  unfold grantCrank
  dsimp only
  split <;> simp [crankGranted]

theorem grantCrank_begun (lh ld bh bd : Nat) (s : State) :
    tellsAll (.manualBegun s.arb.auth s.arb.holder bh bd) s (grantCrank lh ld bh bd s) := by
  unfold grantCrank
  dsimp only
  refine tellsAll_after ?_ (placeAll_tells (.manualBegun s.arb.auth s.arb.holder bh bd) _)
  refine sameNotices_then _ _ (State.setArb_ports _ _) ?_
  split
  · exact sameNotices_refl _ s
  · exact placeAuthority_same _ _ _ _ _ 13 (by decide) s

theorem grantCrank_lost {lh ld bh bd : Nat} (holder : s.arb.holder = some (.port p)) (unreleased : s.arb.releaseMark = false) :
    tells p (.authority .lost (some .manual) lh ld) s (grantCrank lh ld bh bd s) := by
  unfold grantCrank
  dsimp only
  rw [unreleased, holder]
  refine tells_same ?_ (placeAll_same (.manualBegun s.arb.auth (some (.port p)) bh bd) 2 (show 13 ≠ 2 by decide) _)
  exact tells_of_port rfl rfl (placeAlways_tells p (.authority .lost (some .manual) lh ld) s)

/-- The grant of the crank changes nothing but the arbiter and the output lists (R80). -/
theorem grantCrank_onlyOutputs (lh ld bh bd : Nat) (s : State) :
    onlyOutputs (fun p => if s.arb.holder = some (.port p) ∧ s.arb.releaseMark = false then [2, 13] else [13])
      (s.setArb (crankGranted s)) (grantCrank lh ld bh bd s) := by
  have lost : onlyOutputs (fun p => if s.arb.holder = some (.port p) ∧ s.arb.releaseMark = false then [2, 13] else [13]) s
      (if s.arb.releaseMark then s else placeAuthority s.arb.holder .lost (some .manual) lh ld s) := by
    cases mark : s.arb.releaseMark with
    | true => exact onlyOutputs_refl _ s
    | false =>
      rw [if_neg (by simp)]
      unfold placeAuthority
      split
      · next p held =>
        refine placeAlways_onlyOutputs (p := p) (.authority .lost (some .manual) lh ld) ?_ s
        rw [if_pos ⟨held, rfl⟩]
        exact List.mem_cons_self
      · exact onlyOutputs_refl _ s
  have granted := onlyOutputs_setArb lost (crankGranted s)
  unfold grantCrank
  dsimp only
  refine onlyOutputs_trans ?_ (placeAll_onlyOutputs (.manualBegun s.arb.auth s.arb.holder bh bd) (fun p => ?_) _)
  · have kept : (if s.arb.releaseMark then s else placeAuthority s.arb.holder .lost (some .manual) lh ld s).arb = s.arb := by
      split <;> simp
    rw [kept]
    exact granted
  · show 13 ∈ _
    split <;> simp

/-! ### LOCKOUT -/

/-- Every port of a list of claims is told, and those told stay so. -/
theorem refuseClaims_tells (claims : List Port) (s : State) (listed : q ∈ claims) :
    tells q .claimRefused s (refuseClaims claims s) := by
  have new : plain .claimRefused := fun old => by cases old <;> rfl
  have stays : ∀ (claims : List Port) (s : State), noticeOf 3 (s.ports.get q).output = some .claimRefused →
      noticeOf 3 ((refuseClaims claims s).ports.get q).output = some .claimRefused := by
    intro claims
    induction claims with
    | nil => exact fun s told => told
    | cons p claims ih =>
      refine fun s told => ih _ ?_
      by_cases same : q = p
      · subst same
        have placed := placeAlways_tells q .claimRefused s
        unfold tells at placed
        rw [noticed_plain new] at placed
        exact placed
      · rw [placeAlways_other p q _ s same]
        exact told
  unfold tells
  rw [noticed_plain new]
  induction claims generalizing s with
  | nil => cases listed
  | cons p claims ih =>
    rcases List.mem_cons.mp listed with rfl | later
    · refine stays claims _ ?_
      have placed := placeAlways_tells q .claimRefused s
      unfold tells at placed
      rw [noticed_plain new] at placed
      exact placed
    · exact ih _ later

theorem enterLockout_arb (s : State) : (enterLockout s).arb = lockedOut s.arb.reasons s := by
  simp [enterLockout, lockedOut]

theorem enterLockout_tells (s : State) (listed : q ∈ s.arb.claims) : tells q .claimRefused s (enterLockout s) :=
  tells_of_port rfl rfl (refuseClaims_tells s.arb.claims s listed)

theorem enterLockout_exe (s : State) : (enterLockout s).exe = { s.exe with closing := none } := by
  simp [enterLockout]

end Sys2Proof.Machine
end

section
/-! The boundary of a safety group, and of a port, taken by the arbiter (R32 to R34, R41, R82, R94, R98). -/

namespace Sys2Proof.Machine

variable {s t u : State} {p q : Port} {ending : Ending} {left : Reasons}

/-! ### Reasons that join the set -/

theorem put_of_has {r : Reasons} {k : LockReason} (held : r.has k = true) : r.put k true = r := by
  obtain ⟨estop, interlock, blocked, failed⟩ := r
  cases k <;> simp_all [Reasons.has, Reasons.put]

theorem enlistReason_told (k : LockReason) (s : State) :
    onlyOutputs (fun _ => [12]) (s.setArb { s.arb with reasons := s.arb.reasons.put k true }) (enlistReason k s)
      ∧ tellsAll
          (.condition .lockout (s.arb.reasons.put k true) s.pose.latch s.safe.alarmPark s.safe.alarmWind
            s.settings.defaulted) s (enlistReason k s) :=
  ⟨placeAll_onlyOutputs (told := fun _ => [12]) _ (fun _ => List.mem_singleton.mpr rfl) _,
    tellsAll_of_ports rfl rfl (placeAll_tells (conditionBody .lockout
      (s.setArb { s.arb with reasons := s.arb.reasons.put k true }))
      (s.setArb { s.arb with reasons := s.arb.reasons.put k true }))⟩

/-- A reason that leaves SAFETY at work joins the set, told if it is new (R42, R45). -/
theorem addReason_safety_told {k : LockReason} (other : k ≠ .estop) (holder : s.arb.holder = some .safety)
    (auth : s.arb.auth = .moving ∨ s.arb.auth = .manualPending) :
    onlyOutputs (fun _ => [12]) (s.setArb { s.arb with reasons := s.arb.reasons.put k true }) (addReason k s)
      ∧ (s.arb.reasons.put k true ≠ s.arb.reasons →
          tellsAll
            (.condition .lockout (s.arb.reasons.put k true) s.pose.latch s.safe.alarmPark s.safe.alarmWind
              s.settings.defaulted) s (addReason k s)) := by
  rw [addReason_safety other holder auth]
  split
  · next held =>
    rw [put_of_has held]
    exact ⟨onlyOutputs_refl _ s, fun changed => absurd rfl changed⟩
  · obtain ⟨lists, told⟩ := enlistReason_told k s
    exact ⟨lists, fun _ => told⟩

/-- The alarm causes are set as given, and the output follows them (R100). -/
@[simp] theorem setAlarmCauses_causes (park wind : Bool) (s : State) :
    (setAlarmCauses park wind s).safe.alarmPark = park ∧ (setAlarmCauses park wind s).safe.alarmWind = wind
      ∧ (setAlarmCauses park wind s).safe.alarm = (park || wind) := by
  unfold setAlarmCauses
  dsimp only
  split <;> simp

/-! ### The end of a safety group -/

/-- The reasons that the end of SAFETY's group leaves: of a group that still runs, which has completed, or of one that has
failed before (R94, R98). -/
def reasonsLeft (ending : Ending) (s : State) : Reasons :=
  match s.safe.group with
  | some g => reasonsAfter (some g) true s
  | none => reasonsAfter ending.failed false s

/-- The Safety Monitor's end of a group: the reasons that it leaves join the set, a completed lowering clears the WIND cause,
and no group runs (R41, R94, R98). -/
structure GroupEnded (left : Reasons) (s t : State) : Prop where
  arb : t.arb = { s.arb with reasons := left }
  group : t.safe.group = none
  told : left ≠ s.arb.reasons →
    tellsAll (.condition .lockout left s.pose.latch t.safe.alarmPark t.safe.alarmWind s.settings.defaulted) s t
  lists : keepsLists [12] s t
  exe : t.exe = s.exe
  scan : t.scan = s.scan
  lowered : s.safe.group = some .windLowering → t.safe.alarmWind = false
  alarm : s.safe.group ≠ some .windLowering →
    t.safe.alarmPark = s.safe.alarmPark ∧ t.safe.alarmWind = s.safe.alarmWind ∧ t.safe.alarm = s.safe.alarm

theorem keepsLists_of_onlyOutputs {kinds : List Nat} (h : onlyOutputs (fun _ => kinds) s t) : keepsLists kinds s t := by
  obtain ⟨cab, rack, link, hc, hr, hl, rfl⟩ := h
  intro p
  cases p
  · exact ⟨hc, rfl⟩
  · exact ⟨hr, rfl⟩
  · exact ⟨hl, rfl⟩

theorem reasonsAfter_other {group : Option SafetyGroup} {completed : Bool} (other : ¬(group = some .parkStow ∧ s.safe.park = false)) :
    reasonsAfter group completed s = s.arb.reasons := if_neg other

theorem groupEnded_of_added {k : LockReason} (other : k ≠ .estop) (holder : s.arb.holder = some .safety)
    (auth : s.arb.auth = .moving ∨ s.arb.auth = .manualPending) (group : s.safe.group ≠ some .windLowering) :
    GroupEnded (s.arb.reasons.put k true) s (addReason k (s.setSafe { s.safe with group := none })) := by
  obtain ⟨lists, told⟩ := addReason_safety_told (s := s.setSafe { s.safe with group := none }) other holder auth
  obtain ⟨-, -, arb, exe, -, safe, -, -, -, scan, -⟩ := onlyOutputs_frame lists
  refine ⟨arb, ?_, fun changed => ?_, fun p => keepsLists_of_onlyOutputs lists p, exe, scan,
    fun lowering => absurd lowering group, fun _ => ?_⟩
  · rw [safe]
    rfl
  · rw [safe]
    exact tellsAll_of_ports rfl rfl (told changed)
  · rw [safe]
    exact ⟨rfl, rfl, rfl⟩

theorem setSafe_group_none (group : s.safe.group = none) : s.setSafe { s.safe with group := none } = s := by
  rw [← group]
  rfl

theorem groupEnded_ended (holder : s.arb.holder = some .safety) (auth : s.arb.auth = .moving ∨ s.arb.auth = .manualPending) :
    GroupEnded (reasonsLeft ending s) s (groupEnded ending s) := by
  unfold groupEnded reasonsLeft
  cases group : s.safe.group with
  | some g =>
    cases g with
    | parkStow =>
      dsimp only
      by_cases park : s.safe.park = true
      · rw [if_pos park, reasonsAfter_other (by simp [park])]
        exact ⟨rfl, rfl, fun changed => absurd rfl changed, keepsLists_of_ports rfl, rfl, rfl, fun h => absurd (group.symm.trans h) (by decide),
          fun _ => ⟨rfl, rfl, rfl⟩⟩
      · rw [if_neg park]
        have reasons : reasonsAfter (some .parkStow) true s = s.arb.reasons.put .interlock true := by
          simp [reasonsAfter, park, Reasons.put]
        rw [reasons]
        exact groupEnded_of_added (k := .interlock) (by decide) holder auth (by simp [group])
    | windLowering =>
      dsimp only
      rw [reasonsAfter_other (by simp)]
      have cleared := setAlarmCauses_keeps (kinds := [12]) s.safe.alarmPark false (s.setSafe { s.safe with group := none })
        List.mem_cons_self
      refine ⟨?_, ?_, fun changed => absurd rfl changed, fun p => cleared p, ?_, ?_, fun _ => ?_,
        fun other => absurd group other⟩ <;> simp [clearWindAlarm]
  | none =>
    dsimp only
    by_cases failed : ending.failed = some .parkStow ∧ s.safe.park = false
    · rw [if_pos failed]
      obtain ⟨stow, park⟩ := failed
      have reasons : reasonsAfter ending.failed false s = s.arb.reasons.put .stowFailed true := by
        simp [reasonsAfter, stow, park, Reasons.put]
      rw [reasons]
      have added := groupEnded_of_added (s := s) (k := .stowFailed) (by decide) holder auth (by simp [group])
      rwa [setSafe_group_none group] at added
    · rw [if_neg failed, reasonsAfter_other failed]
      exact ⟨rfl, group, fun changed => absurd rfl changed, keepsLists_refl _ s, rfl, rfl, fun h => absurd (group.symm.trans h) (by decide),
        fun _ => ⟨rfl, rfl, rfl⟩⟩

theorem reasonsLeft_empty (empty : reasonsLeft ending s = Reasons.empty) : s.arb.reasons = Reasons.empty := by
  have after {group : Option SafetyGroup} {completed : Bool} (empty : reasonsAfter group completed s = Reasons.empty) :
      s.arb.reasons = Reasons.empty := by
    unfold reasonsAfter at empty
    split at empty
    · split at empty <;> simp [Reasons.empty] at empty
    · exact empty
  unfold reasonsLeft at empty
  split at empty <;> exact after empty

/-! ### What the arbiter does once a group has ended -/

/-- Authority after the end of a safety group (R41, R82). -/
def afterGroup (s : State) : State :=
  match s.arb.auth with
  | .manualPending =>
    if s.arb.reasons.isEmpty then grantCrank 0 0 0 0 s else grantCrank 0 0 0 0 (enterLockout s)
  | .moving => if s.arb.reasons.isEmpty then handOn .safetyEnd s else enterLockout s
  | _ => s

theorem takeBoundary_of_safety (holder : s.arb.holder = some .safety) (auth : s.arb.auth = .moving ∨ s.arb.auth = .manualPending) :
    takeBoundary ending s = afterGroup (groupEnded ending s) := by
  unfold takeBoundary
  rw [holder]
  rcases auth with auth | auth <;> rw [auth] <;> rfl

/-- SAFETY gives authority back (R34, R41). -/
theorem handOn_givenBack (empty : s.arb.reasons = Reasons.empty) : GivenBack s (handOn .safetyEnd s) := by
  have makes (ready : s.arb.claims = [] ∨ atRest s) : handOn .safetyEnd s = passOn .safety s := by
    unfold handOn
    rw [mustWait_false ready]
    exact if_pos ((isEmpty_iff _).mpr empty)
  refine ⟨fun q others claims rested => ?_, fun claims moves => ?_, fun claims => ?_⟩
  · rw [makes (Or.inr rested)]
    unfold passOn
    rw [claims]
    exact ⟨rfl, placed_tells rfl⟩
  · unfold handOn
    rw [mustWait_iff.mpr ⟨claims, moves⟩]
    rfl
  · rw [makes (Or.inl claims)]
    unfold passOn
    rw [claims]
    rfl

theorem afterGroup_keeps (s : State) : keepsLists [2, 3, 13] s (afterGroup s) := by
  have locks : keepsLists [2, 3, 13] s (enterLockout s) := enterLockout_keeps s (by decide)
  unfold afterGroup
  split
  · split
    · exact grantCrank_keeps _ _ _ _ s (by decide) (by decide)
    · exact keepsLists_trans locks (grantCrank_keeps _ _ _ _ _ (by decide) (by decide))
  · split
    · exact handOn_keeps _ s (by decide) (by decide)
    · exact locks
  · exact keepsLists_refl _ s

@[simp] theorem afterGroup_frame (s : State) :
    (afterGroup s).pending = s.pending ∧ (afterGroup s).powered = s.powered ∧ (afterGroup s).pose = s.pose
      ∧ (afterGroup s).safe = s.safe ∧ (afterGroup s).store = s.store ∧ (afterGroup s).cache = s.cache
      ∧ (afterGroup s).heading = s.heading ∧ (afterGroup s).scan = s.scan ∧ (afterGroup s).settings = s.settings := by
  unfold afterGroup
  repeat' split
  all_goals simp

theorem atRest_of_pose (pose : t.pose = s.pose) : atRest t ↔ atRest s := by
  unfold atRest
  rw [pose]

theorem heldBy_of_arb (arb : t.arb = s.arb) (settings : t.settings = s.settings) (p : Port) : heldBy p t = heldBy p s := by
  unfold heldBy
  rw [arb, settings]

theorem freed_of_arb (arb : t.arb = s.arb) : freed t = freed s := by
  unfold freed
  rw [arb]

theorem crankGranted_of_arb (arb : t.arb = s.arb) : crankGranted t = crankGranted s := by
  unfold crankGranted
  rw [arb]

theorem lockedOut_of_arb (arb : t.arb = s.arb) (reasons : Reasons) : lockedOut reasons t = lockedOut reasons s := by
  unfold lockedOut
  rw [arb]

/-- Authority given back, seen from a state before that differs in nothing that it looks at. -/
theorem givenBack_before (arb : t.arb = s.arb) (pose : t.pose = s.pose) (settings : t.settings = s.settings)
    (same : sameNotices 2 s t) (h : GivenBack t u) : GivenBack s u := by
  obtain ⟨given, waits, freed⟩ := h
  rw [arb] at waits freed
  refine ⟨fun q others claims rested => ?_, fun claims moves => ?_, fun claims => ?_⟩
  · obtain ⟨held, told⟩ := given q others (by rw [arb]; exact claims) ((atRest_of_pose pose).mpr rested)
    exact ⟨held.trans (heldBy_of_arb arb settings q), tells_after same told⟩
  · exact waits claims (fun rested => moves ((atRest_of_pose pose).mp rested))
  · exact (freed claims).trans (freed_of_arb arb)

theorem passOn_reasons (why : AuthReason) (s : State) : (passOn why s).arb.reasons = s.arb.reasons := by
  unfold passOn
  split
  · rfl
  · rfl

theorem handOn_safetyEnd_reasons (s : State) : (handOn .safetyEnd s).arb.reasons = s.arb.reasons := by
  have given : (safetyGivesBack s).arb.reasons = s.arb.reasons := by
    unfold safetyGivesBack
    split
    · exact passOn_reasons .safety s
    · rw [enterLockout_arb]
      rfl
  exact ite_keeps (P := fun t => t.arb.reasons = s.arb.reasons) rfl given

theorem afterGroup_reasons (s : State) : (afterGroup s).arb.reasons = s.arb.reasons := by
  have locked : (enterLockout s).arb.reasons = s.arb.reasons := by
    rw [enterLockout_arb]
    rfl
  unfold afterGroup
  split
  · split
    · rw [grantCrank_arb]
      rfl
    · rw [grantCrank_arb]
      exact locked
  · split
    · exact handOn_safetyEnd_reasons s
    · exact locked
  · rfl

/-- The boundary of a safety group whose end left these reasons (R41, R45, R82). -/
theorem afterGroup_boundary {e : State} (ended : GroupEnded left s e) (pose : e.pose = s.pose) (settings : e.settings = s.settings)
    (holder : s.arb.holder = some .safety) (sub : left = Reasons.empty → s.arb.reasons = Reasons.empty) :
    SafetyBoundary left s (afterGroup e) := by
  obtain ⟨arb, group, told, lists, -, -, -, -⟩ := ended
  have auth : e.arb.auth = s.arb.auth := by rw [arb]
  have reasons : e.arb.reasons = left := by rw [arb]
  have claims : e.arb.claims = s.arb.claims := by rw [arb]
  have party : e.arb.holder = some .safety := by rw [arb]; exact holder
  have after : (afterGroup e).safe = e.safe := (afterGroup_frame e).2.2.2.1
  have still (empty : left = Reasons.empty) : e.arb = s.arb := by
    rw [arb, empty, ← sub empty]
  have full (some_ : left ≠ Reasons.empty) : ¬e.arb.reasons.isEmpty = true := by
    rw [reasons, isEmpty_iff]
    exact some_
  have locked : lockedOut e.arb.reasons e = lockedOut left s := by
    rw [reasons]
    unfold lockedOut
    rw [arb]
  have moves (moving : s.arb.auth = .moving) :
      afterGroup e = if e.arb.reasons.isEmpty then handOn .safetyEnd e else enterLockout e := by
    unfold afterGroup
    rw [auth, moving]
  have pends (pending : s.arb.auth = .manualPending) :
      afterGroup e = if e.arb.reasons.isEmpty then grantCrank 0 0 0 0 e else grantCrank 0 0 0 0 (enterLockout e) := by
    unfold afterGroup
    rw [auth, pending]
  refine ⟨?_, ?_, fun changed => ?_, fun moving some_ => ?_, fun moving empty => ?_, fun pending empty => ?_,
    fun pending some_ => ?_, fun some_ atWork q listed => ?_⟩
  · rw [afterGroup_reasons, reasons]
  · rw [after, group]
  · rw [after]
    exact tellsAll_same (told changed) (sameNotices_of_keeps (afterGroup_keeps e) (by decide : 12 ∉ [2, 3, 13]))
  · rw [moves moving, if_neg (full some_), enterLockout_arb, locked]
  · rw [moves moving, if_pos ((isEmpty_iff _).mpr (reasons.trans empty))]
    exact givenBack_before (still empty) pose settings (sameNotices_of_keeps lists (by decide : 2 ∉ [12]))
      (handOn_givenBack (reasons.trans empty))
  · rw [pends pending, if_pos (by rw [reasons, empty]; rfl)]
    refine ⟨?_, ?_⟩
    · rw [grantCrank_arb]
      unfold crankGranted
      rw [still empty]
    · have begun := grantCrank_begun 0 0 0 0 e
      rw [auth, pending, party] at begun
      exact tellsAll_after (sameNotices_of_keeps lists (by decide : 13 ∉ [12])) begun
  · rw [pends pending, if_neg (full some_)]
    refine ⟨?_, ?_⟩
    · rw [grantCrank_arb]
      unfold crankGranted
      rw [enterLockout_arb, locked]
      rfl
    · have begun := grantCrank_begun 0 0 0 0 (enterLockout e)
      rw [enterLockout_arb] at begun
      exact tellsAll_after (sameNotices_trans (sameNotices_of_keeps lists (by decide : 13 ∉ [12]))
        (enterLockout_same 13 (by decide) e)) begun
  · have refused : tells q .claimRefused s (enterLockout e) :=
      tells_after (sameNotices_of_keeps lists (by decide : 3 ∉ [12])) (enterLockout_tells e (claims ▸ listed))
    rcases atWork with moving | pending
    · rw [moves moving, if_neg (full some_)]
      exact refused
    · rw [pends pending, if_neg (full some_)]
      exact tells_same refused (sameNotices_of_keeps (grantCrank_keeps (kinds := [2, 13]) _ _ _ _ _ (by decide) (by decide))
        (by decide : 3 ∉ [2, 13]))

/-- The arbiter takes the boundary of a safety group (R41). -/
theorem takeBoundary_safety (holder : s.arb.holder = some .safety) (auth : s.arb.auth = .moving ∨ s.arb.auth = .manualPending) :
    SafetyBoundary (reasonsLeft ending s) s (takeBoundary ending s) := by
  rw [takeBoundary_of_safety holder auth]
  exact afterGroup_boundary (groupEnded_ended holder auth) (by simp) (by simp) holder reasonsLeft_empty

/-! ### The boundary of a port -/

theorem takeBoundary_moving (moving : s.arb.auth = .moving) (holder : s.arb.holder = some (.port p)) :
    takeBoundary ending s = s.setArb (heldBy p s) := by
  unfold takeBoundary
  rw [moving, holder]
  rfl

theorem takeBoundary_yielding (yielding : s.arb.auth = .yielding) : takeBoundary ending s = handOn .yield s := by
  unfold takeBoundary
  rw [yielding]

theorem takeBoundary_pending (pending : s.arb.auth = .manualPending) (holder : s.arb.holder = some (.port p)) :
    takeBoundary ending s = grantCrank ending.halted ending.discarded 0 0 s := by
  unfold takeBoundary
  rw [pending, holder]

/-- The arbiter takes the boundary of a port's entry (R32, R33, R34, R82). -/
theorem takeBoundary_port (holder : s.arb.holder = some (.port p)) :
    Boundary p ending.halted ending.discarded s (takeBoundary ending s) := by
  refine ⟨fun moving => ?_, fun yielding ready => ?_, fun yielding claims moves => ?_, fun pending => ⟨?_, ?_, fun unreleased => ?_⟩⟩
  · rw [takeBoundary_moving moving holder]
    rfl
  · rw [takeBoundary_yielding yielding]
    unfold handOn
    rw [mustWait_false ready]
    exact yieldOutcome_made holder
  · rw [takeBoundary_yielding yielding]
    unfold handOn
    rw [mustWait_iff.mpr ⟨claims, moves⟩]
    rfl
  · rw [takeBoundary_pending pending holder, grantCrank_arb]
  · have begun := grantCrank_begun ending.halted ending.discarded 0 0 s
    rw [takeBoundary_pending pending holder]
    rwa [pending, holder] at begun
  · rw [takeBoundary_pending pending holder]
    exact grantCrank_lost holder unreleased

/-! ### What a boundary leaves -/

theorem takeBoundary_outside (ending : Ending) (s : State) : Outside s (takeBoundary ending s) :=
  ⟨by simp, by simp, by simp, by simp, by simp, by simp, sensed_of (by simp) (by simp) (by simp) (by simp) (by simp) (by simp)
    (by simp) (by simp) (by simp) (by simp)⟩

theorem makeHandover_exe (d : Deferral) (still : s.exe.closing = none) : (makeHandover d s).exe = s.exe := by
  have locked : (enterLockout s).exe = s.exe := by
    rw [enterLockout_exe, ← still]
  unfold makeHandover safetyGivesBack
  repeat' split
  all_goals simp [locked]

theorem handOn_exe (d : Deferral) (still : s.exe.closing = none) : (handOn d s).exe = s.exe := by
  unfold handOn
  split
  · rfl
  · exact makeHandover_exe d still

theorem afterGroup_exe (still : s.exe.closing = none) : (afterGroup s).exe = s.exe := by
  have locked : (enterLockout s).exe = s.exe := by
    rw [enterLockout_exe, ← still]
  unfold afterGroup
  repeat' split
  all_goals simp [locked, handOn_exe _ still]

theorem enterLockout_exe_still (still : s.exe.closing = none) : (enterLockout s).exe = s.exe := by
  rw [enterLockout_exe, ← still]

theorem addReason_safety_work {k : LockReason} (other : k ≠ .estop) (holder : s.arb.holder = some .safety)
    (still : s.exe.closing = none) : (addReason k s).exe = s.exe ∧ (addReason k s).scan = s.scan := by
  have enlisted : (enlistReason k s).exe = s.exe := by simp
  have locked : (enterLockout (enlistReason k s)).exe = s.exe := by
    rw [enterLockout_exe_still (by rw [enlisted]; exact still), enlisted]
  unfold addReason
  split
  · exact ⟨rfl, rfl⟩
  dsimp only
  split
  · exact ⟨locked, by simp⟩
  · simp
  · simp
  · exact absurd rfl other
  · simp
  · next notSafety _ _ => exact absurd holder notSafety

theorem groupEnded_work (holder : s.arb.holder = some .safety) (still : s.exe.closing = none) :
    (groupEnded ending s).exe = s.exe ∧ (groupEnded ending s).scan = s.scan := by
  unfold groupEnded
  dsimp only
  split
  · split
    · exact ⟨rfl, rfl⟩
    · exact addReason_safety_work (s := s.setSafe { s.safe with group := none }) (by decide) holder still
  · simp
  · split
    · exact addReason_safety_work (by decide) holder still
    · exact ⟨rfl, rfl⟩

/-- A boundary ends no work: the executor and the Scan Engine are unchanged (R32, R41). -/
theorem takeBoundary_work (still : s.exe.closing = none) :
    (takeBoundary ending s).exe = s.exe ∧ (takeBoundary ending s).scan = s.scan := by
  unfold takeBoundary
  split
  · simp
  · exact ⟨handOn_exe _ still, by simp⟩
  · simp
  · next holder _ =>
    obtain ⟨exe, scan⟩ := groupEnded_work (ending := ending) holder still
    have closed : (groupEnded ending s).exe.closing = none := by rw [exe]; exact still
    refine ⟨(?_ : _ = (groupEnded ending s).exe).trans exe, (?_ : _ = (groupEnded ending s).scan).trans scan⟩
    · exact afterGroup_exe closed
    · exact (afterGroup_frame (groupEnded ending s)).2.2.2.2.2.2.2.1
  · exact ⟨rfl, rfl⟩

end Sys2Proof.Machine
end

section
/-! The active entry completes: the boundary is taken, seen from the state before the command (R57, R67). -/

namespace Sys2Proof.Machine

variable {s t u v : State} {p q : Port} {e : Entry} {rest : List Entry} {ending : Ending} {left : Reasons}

/-! ### A state that a boundary does not tell from another -/

/-- The kinds of the notices that no boundary places but for the conditions. -/
def neutral : List Nat := [4, 5, 6, 7, 10, 11, 12, 14]

/-- A port whose mask keeps a kind off is not told. -/
def masked (kind : Nat) (s t : State) : Prop :=
  ∀ p : Port, ¬admits (s.ports.get p).mask kind = true →
    noticeOf kind (t.ports.get p).output = noticeOf kind (s.ports.get p).output

theorem masked_of_same {kind : Nat} (h : sameNotices kind s t) : masked kind s t := fun p _ => (h p).1

theorem masked_of_ports {kind : Nat} (ports : t.ports = s.ports) : masked kind s t := masked_of_same (sameNotices_of_ports ports)

theorem masked_of_tellsAll {body : NoticeBody} (h : tellsAll body s t) : masked body.kind s t := fun p hidden => by
  have told := h p
  unfold tellsIf at told
  rwa [if_neg hidden] at told

theorem masked_trans {kind : Nat} (masks : ∀ p, (t.ports.get p).mask = (s.ports.get p).mask) (first : masked kind s t)
    (second : masked kind t u) : masked kind s u := fun p hidden =>
  (second p (by rwa [masks p])).trans (first p hidden)

/-- A notice that takes nothing over is told, whatever its kind was told before. -/
theorem tellsAll_masked {body : NoticeBody} (new : plain body) (masks : ∀ p, (t.ports.get p).mask = (s.ports.get p).mask)
    (before : masked body.kind s t) (later : tellsAll body t u) : tellsAll body s u := by
  intro p
  have placed := later p
  unfold tellsIf tells at *
  rw [noticed_plain new, masks p] at placed
  rw [noticed_plain new]
  split
  · next admitted => simpa [admitted] using placed
  · next hidden =>
    rw [if_neg hidden] at placed
    exact placed.trans (before p hidden)

theorem setAlarmCauses_masked (park wind : Bool) (s : State) : masked 12 s (setAlarmCauses park wind s) := by
  unfold setAlarmCauses
  dsimp only
  split
  · exact masked_of_ports rfl
  · have placed := placeAll_tells (conditionBody .alarm (withAlarm park wind s)) (withAlarm park wind s)
    exact fun p hidden => masked_of_tellsAll placed p hidden

/-- A state differs from one before in nothing that a boundary looks at: the arbiter, the pose and the lines are the same, and
of the notices that a boundary places the conditions alone have changed. -/
structure Like (s t : State) : Prop where
  arb : t.arb = s.arb
  outside : Outside s t
  notices : ∀ k : Nat, k ∉ neutral → sameNotices k s t
  conditions : masked 12 s t

theorem like_refl (s : State) : Like s s := ⟨rfl, outside_refl s, fun k _ => sameNotices_refl k s, masked_of_ports rfl⟩

theorem like_masks (h : Like s t) (p : Port) : (t.ports.get p).mask = (s.ports.get p).mask :=
  (h.notices 2 (by decide) p).2

theorem like_trans (first : Like s t) (second : Like t u) : Like s u :=
  ⟨second.arb.trans first.arb, outside_trans first.outside second.outside,
    fun k other => sameNotices_trans (first.notices k other) (second.notices k other),
    masked_trans (like_masks first) first.conditions second.conditions⟩

/-- A change of the executor, the Scan Engine or the cache is none that a boundary looks at. -/
theorem like_of_same (arb : t.arb = s.arb) (outside : Outside s t) (ports : t.ports = s.ports) : Like s t :=
  ⟨arb, outside, fun _ _ => sameNotices_of_ports ports, masked_of_ports ports⟩

theorem like_of_placed {kinds : List Nat} (arb : t.arb = s.arb) (outside : Outside s t) (lists : keepsLists kinds s t)
    (subset : kinds ⊆ neutral) (other : 12 ∉ kinds) : Like s t :=
  ⟨arb, outside, fun _ outer => sameNotices_of_keeps lists fun listed => outer (subset listed),
    masked_of_same (sameNotices_of_keeps lists other)⟩

theorem like_park (h : Like s t) : t.safe.park = s.safe.park := by rw [h.outside.sensed]

theorem like_same {k : Nat} (h : Like s t) (other : k ∉ neutral) : sameNotices k s t := h.notices k other

/-! ### Boundaries seen from before -/

theorem yieldMade_before (h : Like s t) (made : YieldMade p t u) : YieldMade p s u := by
  obtain ⟨given, freed, retained⟩ := made
  have same := like_same h (show 2 ∉ neutral by decide)
  rw [h.arb] at given freed retained
  refine ⟨fun q others why claims differs reason => ?_, fun claims marked => ?_, fun claims unmarked => ?_⟩
  · obtain ⟨arb, granted, lost⟩ := given q others why claims differs reason
    exact ⟨arb.trans (heldBy_of_arb h.arb h.outside.settings q), tells_after same granted, tells_after same lost⟩
  · obtain ⟨arb, lost⟩ := freed claims marked
    exact ⟨arb.trans (freed_of_arb h.arb), tells_after same lost⟩
  · obtain ⟨arb, kept⟩ := retained claims unmarked
    exact ⟨arb.trans (heldBy_of_arb h.arb h.outside.settings p), tells_after same kept⟩

theorem boundary_before {halted discarded : Nat} (h : Like s t) (taken : Boundary p halted discarded t u) :
    Boundary p halted discarded s u := by
  obtain ⟨moving, yields, waits, crank⟩ := taken
  rw [h.arb] at moving yields waits crank
  refine ⟨fun auth => (moving auth).trans (heldBy_of_arb h.arb h.outside.settings p), fun auth ready => ?_,
    fun auth claims moves => ?_, fun auth => ?_⟩
  · exact yieldMade_before h (yields auth (ready.imp id (atRest_of_pose h.outside.pose).mpr))
  · exact waits auth claims fun rested => moves ((atRest_of_pose h.outside.pose).mp rested)
  · obtain ⟨arb, begun, lost⟩ := crank auth
    exact ⟨arb.trans (crankGranted_of_arb h.arb), tellsAll_after (like_same h (show 13 ∉ neutral by decide)) begun,
      fun unreleased => tells_after (like_same h (show 2 ∉ neutral by decide)) (lost unreleased)⟩

theorem safetyBoundary_before (h : Like s t) (taken : SafetyBoundary left t u) : SafetyBoundary left s u := by
  obtain ⟨reasons, group, told, locks, back, crank, locksCrank, refused⟩ := taken
  have begunBefore {body : NoticeBody} (kind : body.kind = 13) (begun : tellsAll body t u) : tellsAll body s u :=
    tellsAll_after (by rw [kind]; exact like_same h (show 13 ∉ neutral by decide)) begun
  rw [h.arb] at told locks back crank locksCrank refused
  refine ⟨reasons, group, fun changed => ?_, fun auth some_ => ?_, fun auth empty => ?_, fun auth empty => ?_,
    fun auth some_ => ?_, fun some_ auth q listed => ?_⟩
  · rw [← h.outside.pose, ← h.outside.settings]
    exact tellsAll_masked (plain_condition _ _ _ _ _ _) (like_masks h) h.conditions (told changed)
  · exact (locks auth some_).trans (lockedOut_of_arb h.arb left)
  · exact givenBack_before h.arb h.outside.pose h.outside.settings (like_same h (show 2 ∉ neutral by decide)) (back auth empty)
  · obtain ⟨arb, begun⟩ := crank auth empty
    exact ⟨arb.trans (crankGranted_of_arb h.arb), begunBefore rfl begun⟩
  · obtain ⟨arb, begun⟩ := locksCrank auth some_
    refine ⟨?_, begunBefore rfl begun⟩
    rw [arb, lockedOut_of_arb h.arb]
  · exact tells_after (like_same h (show 3 ∉ neutral by decide)) (refused some_ auth q listed)

theorem reasonsAfter_of_like (h : Like s t) (group : Option SafetyGroup) (completed : Bool) :
    reasonsAfter group completed t = reasonsAfter group completed s := by
  unfold reasonsAfter
  rw [like_park h, h.arb]

/-! ### The entry that has completed -/

/-- The executor without the entry that has ended (R57). -/
def goneExe (e : Entry) (rest : List Entry) (s : State) : Executor :=
  { s.exe with
    queue := rest, active := none, closing := none, suspension := none, drives := (stopAxes e.motion.axes s).exe.drives }

/-- The entry has completed and has left, and its origin is told (R57, R67). -/
def entryGone (e : Entry) (rest : List Entry) (s : State) : State :=
  placeOrigin e.origin (.segmentDone e.tag 1 rest.length) (s.setExe (goneExe e rest s))

theorem placeOrigin_setExe (origin : Party) (body : NoticeBody) (s : State) (x : Executor) :
    (placeOrigin origin body s).setExe x = placeOrigin origin body (s.setExe x) := by
  cases origin with
  | safety => rfl
  | port p =>
    show (placeOn p body s).setExe x = placeOn p body (s.setExe x)
    unfold placeOn
    by_cases admitted : admits (s.ports.get p).mask body.kind = true
    · exact (congrArg (State.setExe · x) (if_pos admitted)).trans (if_pos admitted).symm
    · exact (congrArg (State.setExe · x) (if_neg admitted)).trans (if_neg admitted).symm

theorem setExe_same {x : Executor} (same : s.exe = x) : s.setExe x = s := by
  rw [← same]
  rfl

theorem entryGone_exe (e : Entry) (rest : List Entry) (s : State) : (entryGone e rest s).exe = goneExe e rest s := by
  unfold entryGone
  simp

theorem activeEntry_of (active : s.exe.active.isSome = true) (queue : s.exe.queue = e :: rest) : activeEntry s = some e := by
  unfold activeEntry
  rw [if_pos active, queue]
  rfl

/-- A completion makes its ending report at once: the next entry becomes active, or the boundary is taken (R31, R57). -/
theorem advance_complete (active : s.exe.active.isSome = true) (queue : s.exe.queue = e :: rest)
    (end_ : ending = { boundary := isBoundary e rest, completed := true, halted := 0, discarded := 0 }) :
    advance (completeActive s) =
      if goesOn ending (entryGone e rest s) then runQueue 23 (activate (entryGone e rest s))
      else takeBoundary ending (entryGone e rest s) := by
  subst end_
  have closes : completeActive s =
      (entryGone e rest s).setExe
        { goneExe e rest s with
          closing :=
            some
              { axes := Axes.all false
                ending := { boundary := isBoundary e rest, completed := true, halted := 0, discarded := 0 } } } := by
    unfold completeActive entryGone
    rw [activeEntry_of active queue, placeOrigin_setExe]
    simp only [dropActive, State.setExe_exe, stopAxes, queue, List.tail_cons]
    rfl
  have back : (completeActive s).setExe { (completeActive s).exe with closing := none } = entryGone e rest s := by
    rw [closes]
    exact setExe_same (entryGone_exe e rest s)
  unfold advance
  rw [runQueue]
  have closing : (completeActive s).exe.closing =
      some
        { axes := Axes.all false
          ending := { boundary := isBoundary e rest, completed := true, halted := 0, discarded := 0 } } := by
    rw [closes]
    rfl
  rw [closing]
  dsimp only
  rw [back]
  exact if_pos rfl

/-- The last entry has completed: its boundary is taken (R32, R57). -/
theorem advance_complete_last (active : s.exe.active.isSome = true) (queue : s.exe.queue = [e]) :
    advance (completeActive s) =
      takeBoundary { boundary := true, completed := true, halted := 0, discarded := 0 } (entryGone e [] s) := by
  have stays : goesOn { boundary := isBoundary e [], completed := true, halted := 0, discarded := 0 } (entryGone e [] s) = false := by
    simp [goesOn, isBoundary, membersBehind, entryGone_exe, goneExe]
  rw [advance_complete active queue rfl, stays]
  rfl

theorem stopAxes_get (axes : Axes Bool) (s : State) (a : Axis) :
    (stopAxes axes s).exe.drives.get a = if axes.get a = true then (s.exe.drives.get a).stop else s.exe.drives.get a := by
  cases a <;> rfl

theorem entryGone_like (e : Entry) (rest : List Entry) (s : State) : Like s (entryGone e rest s) := by
  have placed : keepsLists [4] (s.setExe (goneExe e rest s)) (entryGone e rest s) :=
    placeOrigin_keeps e.origin (.segmentDone e.tag 1 rest.length) _ List.mem_cons_self
  refine like_of_placed (kinds := [4]) (by simp [entryGone]) ?_ (fun p => placed p) (by decide) (by decide)
  exact ⟨by simp [entryGone], by simp [entryGone], by simp [entryGone], by simp [entryGone], by simp [entryGone],
    by simp [entryGone], by simp [entryGone]⟩

theorem entryGone_told {origin : Port} (owner : e.origin = .port origin) :
    tellsIf origin (.segmentDone e.tag 1 rest.length) s (entryGone e rest s) := by
  unfold entryGone
  rw [owner]
  exact tellsIf_of_port rfl rfl (placeOn_tells origin (.segmentDone e.tag 1 rest.length) (s.setExe (goneExe e rest s)))

theorem takeBoundary_lowered (holder : s.arb.holder = some .safety) (auth : s.arb.auth = .moving ∨ s.arb.auth = .manualPending)
    (group : s.safe.group = some .windLowering) : (takeBoundary ending s).safe.alarmWind = false := by
  rw [takeBoundary_of_safety holder auth, (afterGroup_frame _).2.2.2.1]
  exact (groupEnded_ended holder auth).lowered group

/-- What a command did before the last entry completed: nothing that its boundary looks at, and to the executor nothing but to
the drives of the entry's axes. -/
structure Completable (e : Entry) (s v : State) : Prop where
  like : Like s v
  group : v.safe.group = s.safe.group
  kept : v.exe.nextTag = s.exe.nextTag ∧ v.exe.supply = s.exe.supply ∧ v.exe.settle = s.exe.settle
  drives : ∀ a : Axis, e.motion.axes.get a = false → v.exe.drives.get a = s.exe.drives.get a
  notices : sameNotices 4 s v

/-- The last entry has completed, seen from the state before the command (R32, R33, R41, R57, R67). -/
theorem entryDone_of (ready : Completable e s v) (active : v.exe.active.isSome = true) (queue : v.exe.queue = [e]) :
    EntryDone e s (advance (completeActive v)) := by
  obtain ⟨like, group, ⟨tag, supply, settle⟩, drives, notices⟩ := ready
  rw [advance_complete_last active queue]
  generalize end_ : ({ boundary := true, completed := true, halted := 0, discarded := 0 } : Ending) = ending
  have gone := entryGone_like e [] v
  have before : Like s (entryGone e [] v) := like_trans like gone
  have still : (entryGone e [] v).exe.closing = none := by rw [entryGone_exe]; rfl
  obtain ⟨exe, -⟩ := takeBoundary_work (ending := ending) still
  rw [entryGone_exe] at exe
  have safety (holder : s.arb.holder = some .safety) (auth : s.arb.auth = .moving ∨ s.arb.auth = .manualPending) :
      (entryGone e [] v).arb.holder = some .safety
        ∧ ((entryGone e [] v).arb.auth = .moving ∨ (entryGone e [] v).arb.auth = .manualPending) := by
    rw [before.arb]
    exact ⟨holder, auth⟩
  have groupGone : (entryGone e [] v).safe.group = s.safe.group := by
    rw [← group]
    simp [entryGone]
  have left : reasonsLeft ending (entryGone e [] v) = reasonsAfter s.safe.group true s := by
    unfold reasonsLeft
    rw [groupGone]
    cases s.safe.group with
    | some g => exact reasonsAfter_of_like before _ _
    | none =>
      dsimp only
      rw [← end_, reasonsAfter_of_like before]
      rfl
  refine ⟨?_, ?_, fun a driven => ?_, fun a other => ?_, outside_trans before.outside (takeBoundary_outside ending _),
    fun p owner => ?_, fun p holder => ?_, fun holder auth => ⟨?_, fun lowering => ?_⟩⟩
  · rw [exe]
    exact ⟨rfl, rfl, rfl, rfl⟩
  · rw [exe]
    exact ⟨tag, supply, settle⟩
  · rw [exe]
    have stopped : (goneExe e [] v).drives.get a = (v.exe.drives.get a).stop :=
      (stopAxes_get e.motion.axes v a).trans (if_pos driven)
    rw [stopped]
    exact ⟨rfl, rfl, rfl⟩
  · rw [exe]
    refine (stopAxes_get e.motion.axes v a).trans ?_
    rw [other, if_neg (by decide)]
    exact drives a other
  · have told : tellsIf p (.segmentDone e.tag 1 0) v (entryGone e [] v) := entryGone_told (rest := []) owner
    exact tellsIf_same (tellsIf_after notices told)
      (takeBoundary_same ending 4 ⟨by decide, by decide, by decide, by decide⟩ (by decide) _)
  · have taken := takeBoundary_port (ending := ending) (s := entryGone e [] v) (p := p) (by rw [before.arb]; exact holder)
    rw [← end_] at taken ⊢
    exact boundary_before before taken
  · obtain ⟨party, atWork⟩ := safety holder auth
    have taken := takeBoundary_safety (ending := ending) party atWork
    rw [left] at taken
    exact safetyBoundary_before before taken
  · obtain ⟨party, atWork⟩ := safety holder auth
    exact takeBoundary_lowered party atWork (groupGone.trans lowering)

/-- The notices that the last entry's completion places (R32, R33, R41, R67, R82). -/
theorem advance_complete_keeps {kinds : List Nat} (active : s.exe.active.isSome = true) (queue : s.exe.queue = [e])
    (two : 2 ∈ kinds) (three : 3 ∈ kinds) (four : 4 ∈ kinds) (twelve : 12 ∈ kinds) (thirteen : 13 ∈ kinds) :
    keepsLists kinds s (advance (completeActive s)) := by
  rw [advance_complete_last active queue]
  have placed : keepsLists kinds (s.setExe (goneExe e [] s)) (entryGone e [] s) :=
    placeOrigin_keeps e.origin (.segmentDone e.tag 1 0) _ four
  exact keepsLists_trans (fun p => placed p) (takeBoundary_keeps _ _ two three twelve thirteen)

/-- A completion leaves the Scan Engine and the cache (R57). -/
theorem advance_complete_rest (active : s.exe.active.isSome = true) (queue : s.exe.queue = [e]) :
    (advance (completeActive s)).scan = s.scan ∧ (advance (completeActive s)).cache = s.cache := by
  have still : (entryGone e [] s).exe.closing = none := by rw [entryGone_exe]; rfl
  obtain ⟨-, scan⟩ := takeBoundary_work (ending := { boundary := true, completed := true, halted := 0, discarded := 0 }) still
  rw [advance_complete_last active queue, scan]
  exact ⟨by simp [entryGone], by simp [entryGone]⟩

/-- The last move has completed, seen from the state before the command (R57). -/
theorem completed_of {beside : List Nat} (ready : Completable e s v) (active : v.exe.active.isSome = true) (queue : v.exe.queue = [e])
    (scan : v.scan = s.scan) (cache : v.cache = s.cache) (lists : keepsLists ([2, 3, 4, 12, 13] ++ beside) s v) :
    Completed beside e s (advance (completeActive v)) := by
  obtain ⟨scanKept, cacheKept⟩ := advance_complete_rest active queue
  have placed : keepsLists ([2, 3, 4, 12, 13] ++ beside) v (advance (completeActive v)) :=
    advance_complete_keeps active queue (by simp) (by simp) (by simp) (by simp) (by simp)
  exact ⟨entryDone_of ready active queue, scanKept.trans scan, cacheKept.trans cache,
    sameBesides_of_keeps (keepsLists_trans lists placed)⟩

end Sys2Proof.Machine
end

section
/-! The active entry fails: it leaves with what waits behind it, and the boundary is taken when its axes have come to rest (R61,
R62, R68). -/

namespace Sys2Proof.Machine

variable {s t u v : State} {p q : Port} {e : Entry} {rest : List Entry} {ending : Ending} {why : EndReason}

/-! ### At rest -/

theorem restedOn_iff (axes : Axes Bool) (s : State) : restedOn axes s ↔ s.pose.restedOrFaulted axes = true :=
  (restedOrFaulted_iff s.pose axes).symm

theorem restedOn_of_pose {axes : Axes Bool} (pose : t.pose = s.pose) : restedOn axes t ↔ restedOn axes s := by
  unfold restedOn
  rw [pose]

/-! ### The entry that has failed -/

/-- The entry has failed and has left with what waited behind it; its scan has ended, and its origin and the Safety Monitor are
told (R61, R68, R153). -/
def entryFailed (why : EndReason) (e : Entry) (waiting : Nat) (s : State) : State :=
  (tellSafety e.origin
    (placeOrigin e.origin (.segmentFailed e.tag e.motion.axis e.purpose e.slot why waiting 1)
      (dropActive e (finishScan why false s)))).setExe (goneExe e [] s)

/-- The ending that a failure reports (R62). -/
def failedEnding (e : Entry) (s : State) : Ending :=
  { boundary := true, completed := false, halted := 0, discarded := 0, failed := failedGroup e.origin s }

theorem tellSafety_exe (origin : Party) (s : State) : (tellSafety origin s).exe = s.exe := by
  unfold tellSafety
  split <;> simp

theorem failActive_eq (driven : Bool) (active : s.exe.active.isSome = true) (queue : s.exe.queue = e :: rest) :
    failActive why driven s =
      (entryFailed why e rest.length s).setExe
        { goneExe e [] s with
          closing :=
            some { axes := if driven then e.motion.axes else Axes.all false, ending := failedEnding e s } } := by
  unfold failActive entryFailed
  rw [activeEntry_of active queue]
  have count : s.exe.queue.length - 1 = rest.length := by
    rw [queue]
    rfl
  have exe : (dropActive e (finishScan why false s)).exe =
      { goneExe e rest s with closing := s.exe.closing } := by
    simp [dropActive, stopAxes, goneExe, queue]
  simp only [count, tellSafety_exe, placeOrigin_frame, exe]
  rfl

theorem entryFailed_exe (why : EndReason) (e : Entry) (waiting : Nat) (s : State) :
    (entryFailed why e waiting s).exe = goneExe e [] s := rfl

/-- A failure is reported when the axes that it drove have come to rest (R62). -/
theorem advance_fail (driven : Bool) (active : s.exe.active.isSome = true) (queue : s.exe.queue = e :: rest) :
    advance (failActive why driven s) =
      if s.pose.restedOrFaulted (if driven then e.motion.axes else Axes.all false) = true then
        takeBoundary (failedEnding e s) (entryFailed why e rest.length s)
      else failActive why driven s := by
  have failed := failActive_eq (why := why) driven active queue
  have pose : (failActive why driven s).pose = s.pose := by simp
  have closing : (failActive why driven s).exe.closing =
      some { axes := if driven then e.motion.axes else Axes.all false, ending := failedEnding e s } := by
    rw [failed]
    rfl
  have back : (failActive why driven s).setExe { (failActive why driven s).exe with closing := none } =
      entryFailed why e rest.length s := by
    rw [failed]
    rfl
  have stays : goesOn (failedEnding e s) (entryFailed why e rest.length s) = false := by
    simp [goesOn, failedEnding, entryFailed_exe, goneExe]
  unfold advance
  rw [runQueue, closing]
  dsimp only
  rw [back, stays, pose]
  rfl

/-! ### What a failure changes -/

theorem entryFailed_arb (why : EndReason) (e : Entry) (n : Nat) (s : State) : (entryFailed why e n s).arb = s.arb := by
  simp [entryFailed]

theorem entryFailed_outside (why : EndReason) (e : Entry) (n : Nat) (s : State) : Outside s (entryFailed why e n s) :=
  ⟨by simp [entryFailed], by simp [entryFailed], by simp [entryFailed], by simp [entryFailed], by simp [entryFailed],
    by simp [entryFailed], sensed_of (by simp [entryFailed]) (by simp [entryFailed]) (by simp [entryFailed])
      (by simp [entryFailed]) (by simp [entryFailed]) (by simp [entryFailed]) (by simp [entryFailed]) (by simp [entryFailed])
      (by simp [entryFailed]) (by simp [entryFailed])⟩

theorem entryFailed_keeps {kinds : List Nat} (why : EndReason) (e : Entry) (n : Nat) (s : State) (five : 5 ∈ kinds) (seven : 7 ∈ kinds)
    (twelve : 12 ∈ kinds) : keepsLists kinds s (entryFailed why e n s) := by
  have ended := keepsLists_trans (finishScan_keeps why false s seven) (dropActive_keeps e (finishScan why false s))
  have told := keepsLists_trans ended
    (placeOrigin_keeps e.origin (.segmentFailed e.tag e.motion.axis e.purpose e.slot why n 1) _ five)
  exact fun p => keepsLists_trans told (tellSafety_keeps e.origin _ twelve) p

theorem tellSafety_masked (origin : Party) (s : State) : masked 12 s (tellSafety origin s) := by
  unfold tellSafety
  split
  · exact fun p hidden => setAlarmCauses_masked _ _ (s.setSafe { s.safe with group := none }) p hidden
  · exact masked_of_ports rfl
  · exact masked_of_ports rfl

theorem entryFailed_like (why : EndReason) (e : Entry) (n : Nat) (s : State) : Like s (entryFailed why e n s) := by
  have placed : keepsLists [5, 7] s (placeOrigin e.origin (.segmentFailed e.tag e.motion.axis e.purpose e.slot why n 1)
      (dropActive e (finishScan why false s))) :=
    keepsLists_trans (keepsLists_trans (finishScan_keeps why false s (by decide)) (dropActive_keeps e (finishScan why false s)))
      (placeOrigin_keeps e.origin (.segmentFailed e.tag e.motion.axis e.purpose e.slot why n 1) _ (by decide : 5 ∈ [5, 7]))
  have lists : keepsLists neutral s (entryFailed why e n s) := entryFailed_keeps why e n s (by decide) (by decide) (by decide)
  refine ⟨entryFailed_arb why e n s, entryFailed_outside why e n s, fun _ => sameNotices_of_keeps lists, fun p hidden => ?_⟩
  exact masked_trans (fun p => (placed p).2) (masked_of_same (sameNotices_of_keeps placed (by decide)))
    (tellSafety_masked e.origin _) p hidden

theorem entryFailed_scan (active : s.exe.active.isSome = true) (queue : s.exe.queue = e :: rest) (n : Nat) :
    scanEnds why s (entryFailed why e n s) := by
  have entry := activeEntry_of active queue
  unfold scanEnds
  have kept : (entryFailed why e n s).scan = (finishScan why false s).scan := by simp [entryFailed]
  rw [kept]
  unfold finishScan
  rw [entry]
  cases s.scan.scan <;> cases s.scan.result <;> simp

theorem entryFailed_told {origin : Port} (owner : e.origin = .port origin) (n : Nat) :
    tellsIf origin (.segmentFailed e.tag e.motion.axis e.purpose e.slot why n 1) s (entryFailed why e n s) := by
  have before : keepsLists [7] s (dropActive e (finishScan why false s)) :=
    keepsLists_trans (finishScan_keeps why false s (by decide)) (dropActive_keeps e (finishScan why false s))
  unfold entryFailed
  rw [owner]
  have placed := placeOn_tells origin (.segmentFailed e.tag e.motion.axis e.purpose e.slot why n 1)
    (dropActive e (finishScan why false s))
  exact tellsIf_of_port rfl rfl (tellsIf_after (sameNotices_of_keeps before (show 5 ∉ [7] by decide)) placed)

theorem tellSafety_safety (s : State) :
    (tellSafety .safety s).safe.group = none
      ∧ (s.safe.group = some .windLowering →
          (tellSafety .safety s).safe.alarmWind = true ∧ (tellSafety .safety s).safe.alarm = true) := by
  unfold tellSafety
  split
  · simp [raiseWindAlarm]
  · next group => exact ⟨rfl, fun lowering => absurd (group.symm.trans lowering) (by decide)⟩
  · next notLowering notStow =>
    have none_ : s.safe.group = none := by
      cases group : s.safe.group with
      | none => rfl
      | some g => cases g with
        | parkStow => exact (notStow rfl group).elim
        | windLowering => exact (notLowering rfl group).elim
    exact ⟨none_, fun lowering => absurd (none_.symm.trans lowering) (by decide)⟩

theorem entryFailed_group (why : EndReason) (n : Nat) (safety : e.origin = .safety) (s : State) :
    (entryFailed why e n s).safe.group = none
      ∧ (s.safe.group = some .windLowering →
          (entryFailed why e n s).safe.alarmWind = true ∧ (entryFailed why e n s).safe.alarm = true) := by
  obtain ⟨group, alarms⟩ := tellSafety_safety
    (placeOrigin e.origin (.segmentFailed e.tag e.motion.axis e.purpose e.slot why n 1) (dropActive e (finishScan why false s)))
  have same : (placeOrigin e.origin (.segmentFailed e.tag e.motion.axis e.purpose e.slot why n 1)
      (dropActive e (finishScan why false s))).safe = s.safe := by simp
  rw [same] at alarms
  unfold entryFailed
  rw [safety] at group alarms ⊢
  exact ⟨group, alarms⟩

/-! ### Failures seen from before -/

/-- What a command did before the active entry failed: nothing that its boundary looks at, and nothing to the executor. -/
structure Failable (why : EndReason) (s v : State) : Prop where
  like : Like s v
  group : v.safe.group = s.safe.group
  exe : v.exe = s.exe
  cache : v.cache = s.cache
  scan : ∀ t, scanEnds why v t → scanEnds why s t
  notices : sameNotices 5 s v
  lists : keepsLists [12] s v

theorem failable_refl (why : EndReason) (s : State) : Failable why s s :=
  ⟨like_refl s, rfl, rfl, rfl, fun _ => id, sameNotices_refl 5 s, keepsLists_refl _ s⟩

/-- The ending of a failure is taken at once, or waits for its axes (R62). -/
theorem advance_fail_cases (active : s.exe.active.isSome = true) (queue : s.exe.queue = e :: rest) :
    (restedOn e.motion.axes s →
        advance (failActive why true s) = takeBoundary (failedEnding e s) (entryFailed why e rest.length s))
      ∧ (¬restedOn e.motion.axes s →
          advance (failActive why true s) =
            (entryFailed why e rest.length s).setExe
              { goneExe e [] s with closing := some { axes := e.motion.axes, ending := failedEnding e s } }) := by
  have made := advance_fail (why := why) true active queue
  simp only [if_true] at made
  refine ⟨fun rested => made.trans (if_pos ((restedOn_iff _ s).mp rested)), fun moves => ?_⟩
  rw [made, if_neg (mt (restedOn_iff _ s).mpr moves), failActive_eq true active queue]
  rfl

/-- The boundary of a safety entry that has failed (R41, R61, R94, R98). -/
theorem failed_safety (like : Like s v) (group : v.safe.group = s.safe.group) (safety : e.origin = .safety)
    (holder : s.arb.holder = some .safety) (auth : s.arb.auth = .moving ∨ s.arb.auth = .manualPending) (n : Nat) :
    SafetyBoundary (reasonsAfter s.safe.group false s) s (takeBoundary (failedEnding e v) (entryFailed why e n v)) := by
  have before : Like s (entryFailed why e n v) := like_trans like (entryFailed_like why e n v)
  have taken := takeBoundary_safety (ending := failedEnding e v) (s := entryFailed why e n v) (by rw [before.arb]; exact holder)
    (by rw [before.arb]; exact auth)
  have failed : (failedEnding e v).failed = s.safe.group := by
    simp only [failedEnding, safety]
    exact group
  have left : reasonsLeft (failedEnding e v) (entryFailed why e n v) = reasonsAfter s.safe.group false s := by
    unfold reasonsLeft
    rw [(entryFailed_group why n safety v).1, failed]
    exact reasonsAfter_of_like before _ _
  rw [left] at taken
  exact safetyBoundary_before before taken

/-- The active entry has failed, seen from the state before the command (R32, R33, R41, R61, R62, R68, R82). -/
theorem failed_of (ready : Failable why s v) (active : v.exe.active.isSome = true) (queue : v.exe.queue = e :: rest) :
    Failed e rest.length why s (advance (failActive why true v)) := by
  obtain ⟨like, group, exe, cache, scan, notices, lists⟩ := ready
  have before : Like s (entryFailed why e rest.length v) := like_trans like (entryFailed_like why e rest.length v)
  have rests : restedOn e.motion.axes v ↔ restedOn e.motion.axes s := restedOn_of_pose like.outside.pose
  obtain ⟨ends, closes⟩ := advance_fail_cases (why := why) active queue
  rw [rests] at ends closes
  have still : (entryFailed why e rest.length v).exe.closing = none := rfl
  obtain ⟨work, scanned⟩ := takeBoundary_work (ending := failedEnding e v) still
  have failedKeeps := entryFailed_keeps (kinds := [2, 3, 5, 7, 12, 13]) why e rest.length v (by decide) (by decide) (by decide)
  have result : ∃ closing, (advance (failActive why true v)).exe = { goneExe e [] v with closing := closing }
      ∧ (advance (failActive why true v)).scan = (entryFailed why e rest.length v).scan
      ∧ (advance (failActive why true v)).cache = (entryFailed why e rest.length v).cache
      ∧ Outside (entryFailed why e rest.length v) (advance (failActive why true v))
      ∧ keepsLists [2, 3, 12, 13] (entryFailed why e rest.length v) (advance (failActive why true v)) := by
    by_cases rested : restedOn e.motion.axes s
    · rw [ends rested]
      exact ⟨none, work, scanned, by simp, takeBoundary_outside _ _,
        takeBoundary_keeps _ _ (by decide) (by decide) (by decide) (by decide)⟩
    · rw [closes rested]
      exact ⟨_, rfl, rfl, rfl, ⟨rfl, rfl, rfl, rfl, rfl, rfl, rfl⟩, keepsLists_of_ports rfl⟩
  obtain ⟨closing, exeAfter, scanAfter, cacheAfter, outsideAfter, listsAfter⟩ := result
  refine ⟨?_, ?_, ?_, ?_, fun a => ?_, ?_, ?_, outside_trans before.outside outsideAfter, fun p owner => ?_, ?_,
    fun moves => ?_, fun rested => ?_, fun rested p holder => ?_, fun rested holder safety auth => ?_⟩
  · rw [exeAfter]
    rfl
  · rw [exeAfter]
    rfl
  · rw [exeAfter]
    rfl
  · rw [exeAfter, ← exe]
    exact ⟨rfl, rfl, rfl⟩
  · rw [exeAfter, ← exe]
    exact stopAxes_get e.motion.axes v a
  · refine scan _ ?_
    have ended := entryFailed_scan (why := why) active queue rest.length
    unfold scanEnds at ended ⊢
    rw [scanAfter]
    exact ended
  · rw [cacheAfter, ← cache]
    simp [entryFailed]
  · exact tellsIf_same (tellsIf_after notices (entryFailed_told owner rest.length))
      (sameNotices_of_keeps listsAfter (show 5 ∉ [2, 3, 12, 13] by decide))
  · exact sameBesides_of_keeps (keepsLists_trans (keepsLists_trans (keepsLists_mono (by decide) lists) failedKeeps)
      (keepsLists_mono (by decide) listsAfter))
  · rw [closes moves]
    exact ⟨before.arb, _, rfl, rfl, rfl, rfl⟩
  · rw [ends rested, work]
    rfl
  · rw [ends rested]
    exact boundary_before before (takeBoundary_port (ending := failedEnding e v) (by rw [before.arb]; exact holder))
  · rw [ends rested]
    exact failed_safety like group safety holder auth rest.length

end Sys2Proof.Machine
end

section
/-! What waits for the axes to come to rest: where nothing waits, ending reports leave no handover to be made (R34, R62). -/

namespace Sys2Proof.Machine

variable {s t u : State}

/-! ### Handovers -/

/-- No handover is deferred. -/
def Undeferred (s : State) : Prop := s.arb.deferred = none

/-- No deferred handover can be made now: there is none, or it waits for an axis. -/
def Settled (s : State) : Prop := s.arb.deferred = none ∨ ¬atRest s

theorem undeferred_of_arb (h : Undeferred s) (arb : t.arb = s.arb) : Undeferred t := by
  simpa only [Undeferred, arb] using h

theorem passOn_undeferred (why : AuthReason) (s : State) : Undeferred (passOn why s) := by
  unfold passOn
  split <;> rfl

theorem makeHandover_undeferred (d : Deferral) (s : State) : Undeferred (makeHandover d s) := by
  have ended (s : State) : Undeferred (endDeferral s) := rfl
  unfold makeHandover
  split
  · split
    · exact ite_keeps (P := Undeferred) rfl (ended s)
    · exact ended s
  · exact passOn_undeferred _ _
  · unfold yieldOutcome
    dsimp only
    split
    · rfl
    · exact ite_keeps (P := Undeferred) rfl (by simp [Undeferred, retain, startIdle])
  · exact passOn_undeferred _ _
  · exact ite_keeps (P := Undeferred) (passOn_undeferred _ _) rfl

theorem handOn_settled (d : Deferral) (s : State) : Settled (handOn d s) := by
  unfold handOn
  split
  · next waits => exact Or.inr (mustWait_iff.mp waits).2
  · exact Or.inl (makeHandover_undeferred d s)

theorem grantCrank_undeferred (lh ld bh bd : Nat) (s : State) : Undeferred (grantCrank lh ld bh bd s) := by
  rw [Undeferred, grantCrank_arb]
  rfl

theorem lockOut_undeferred (k : LockReason) (s : State) : Undeferred (lockOut k s) :=
  ite_keeps (grantCrank_undeferred ..) rfl

theorem addReason_undeferred (k : LockReason) (h : Undeferred s) : Undeferred (addReason k s) := by
  have enlisted : Undeferred (enlistReason k s) := by simpa [Undeferred, enlistReason] using h
  unfold addReason
  split
  · exact h
  dsimp only
  split
  · exact rfl
  · exact enlisted
  · exact enlisted
  · exact lockOut_undeferred _ _
  · exact enlisted
  · exact lockOut_undeferred _ _

theorem groupEnded_undeferred (ending : Ending) (h : Undeferred s) : Undeferred (groupEnded ending s) := by
  have none : Undeferred (s.setSafe { s.safe with group := none }) := h
  unfold groupEnded
  dsimp only
  split
  · exact ite_keeps none (addReason_undeferred _ none)
  · exact undeferred_of_arb h (by simp)
  · exact ite_keeps (addReason_undeferred _ h) h

/-- A handover that a boundary defers waits for an axis (R34). -/
theorem takeBoundary_settled (ending : Ending) (h : Undeferred s) : Settled (takeBoundary ending s) := by
  have ended := groupEnded_undeferred ending h
  unfold takeBoundary
  split
  · exact Or.inl rfl
  · exact handOn_settled _ s
  · exact Or.inl (grantCrank_undeferred ..)
  · unfold safetyBoundary
    dsimp only
    split
    · exact Or.inl (ite_keeps (grantCrank_undeferred ..) (grantCrank_undeferred ..))
    · exact ite_keeps (P := Settled) (handOn_settled _ _) (Or.inl rfl)
    · exact Or.inl ended
  · exact Or.inl h

theorem suspendOrAbandon_undeferred (h : Undeferred s) : Undeferred (suspendOrAbandon s) := by
  have suspended : Undeferred (suspendActive s) := undeferred_of_arb h (by simp)
  refine ite_keeps ?_ suspended
  unfold abandonForCrank
  split
  · exact suspended
  · exact grantCrank_undeferred ..

theorem activate_undeferred (h : Undeferred s) : Undeferred (activate s) := by
  rcases activate_cases s with same | ⟨e, rest, -, -, -, begun⟩
  · rw [same]
    exact h
  have active : Undeferred (becomeActive e rest s) := by
    unfold becomeActive reportActivation
    exact ite_keeps h h
  rcases begun with ⟨why, -, failed⟩ | ⟨-, -, started⟩ | ⟨-, -, suspended⟩
  · rw [failed]
    exact undeferred_of_arb active (by simp)
  · rw [started]
    exact undeferred_of_arb active (by simp)
  · rw [suspended]
    exact suspendOrAbandon_undeferred active

theorem runQueue_settled (n : Nat) (h : Undeferred s) : Settled (runQueue n s) := by
  induction n generalizing s with
  | zero => exact Or.inl h
  | succ n ih =>
    rcases runQueue_cases n s with same | ⟨c, -, -, reported⟩
    · rw [same]
      exact Or.inl h
    · rw [reported]
      have made : Undeferred (s.setExe { s.exe with closing := none }) := h
      exact ite_keeps (P := Settled) (ih (activate_undeferred made)) (takeBoundary_settled _ made)

/-! ### Where nothing waits -/

theorem handoverCheck_settled (h : Settled s) : handoverCheck s = s := by
  unfold handoverCheck
  split
  · next waits =>
    rcases h with none_ | moves
    · exact absurd (none_.symm.trans waits) (by simp)
    · exact if_neg (by rw [confirm_iff]; exact moves)
  · rfl

theorem crankCheck_uncranked (h : Uncranked s) : crankCheck s = s := by
  unfold crankCheck
  rw [show s.arb.crankEnd = none from h]

/-- Where nothing waits, the ending reports are all that follows (R34, R62). -/
theorem settleAll_eq (h : nothingWaits s) : settleAll s = advance s := by
  obtain ⟨deferred, crankEnd⟩ := h
  have settled : Settled (advance s) := runQueue_settled 24 deferred
  have uncranked : Uncranked (advance s) := runQueue_uncranked 24 crankEnd
  unfold settleAll
  rw [handoverCheck_settled settled, crankCheck_uncranked uncranked]

theorem nothingWaits_of_arb (h : nothingWaits s) (arb : t.arb = s.arb) : nothingWaits t := by
  unfold nothingWaits
  rwa [arb]

end Sys2Proof.Machine
end

section
/-! Fault lines and the obstruction sensor: what fails the active entry (R6, R7, R9 to R11, R59, R60). -/

namespace Sys2Proof.Machine

variable {s t u : State} {e : Entry} {rest : List Entry} {x : Active}

theorem axes_set_get {α : Type} (m : Axes α) (a : Axis) : m.set a (m.get a) = m := by cases a <;> rfl

theorem active_of_activeIs (h : activeIs x e rest s) : s.exe.active.isSome = true := by
  obtain ⟨active, -⟩ := h
  rw [active]
  rfl

theorem activeEntry_of_activeIs (h : activeIs x e rest s) : activeEntry s = some e := by
  obtain ⟨active, -, queue⟩ := h
  exact activeEntry_of (by rw [active]; rfl) queue

/-! ### Fault lines -/

/-- The flag and the line that an asserted fault line leaves (R6). -/
def faulted (a : Axis) (s : State) : State := setFaulted a true (setFaultLine a true s)

theorem takeFault_rises {a : Axis} (negated : s.pose.faultLine.get a = false) :
    takeFault a s = settleAll (failOnAxis a (faulted a s)) := if_neg (by simp [negated])

theorem failOnAxis_idle (a : Axis) (active : s.exe.active = none) : failOnAxis a s = s := by
  unfold failOnAxis
  rw [activeEntry_none active]

theorem failOnAxis_active (a : Axis) (h : activeIs x e rest s) :
    failOnAxis a s = if e.motion.axes.get a then failActive .driveFault true s else s := by
  unfold failOnAxis
  rw [activeEntry_of_activeIs h]

/-- A fault that fails nothing leaves the flag and the line set (R6). -/
theorem takeFault_quiet {a : Axis} (negated : s.pose.faultLine.get a = false) (waits : nothingWaits s)
    (still : s.exe.closing = none) (spared : failOnAxis a (faulted a s) = faulted a s) : takeFault a s = faulted a s := by
  have waitsNow : nothingWaits (faulted a s) := waits
  have stillNow : (faulted a s).exe.closing = none := still
  rw [takeFault_rises negated, spared, settleAll_eq waitsNow, advance_still stillNow]

theorem faultLineAsserted_sets {a : Axis} (on : s.powered = true) (negated : s.pose.faultLine.get a = false) :
    ∃ t, exec (.faultLineAsserted a) s = .next t ∧ t.pose.faulted.get a = true := by
  refine ⟨_, exec_of_powered (f := takeFault a) rfl on, ?_⟩
  rw [takeFault_rises negated]
  simp [faulted, setFaulted]

/-- Settles O23: the flag is set with the line, the entry that drives the axis fails, and CLEAR AXIS clears the flag once the
line is negated. -/
theorem faultedFlag : Obligations.FaultedFlag := by
  refine ⟨fun a s u on waits u_eq => ?_, fun p code s taken => ⟨fun other => ?_, fun holder a axis => ?_⟩⟩
  · have asserted := exec_of_powered (c := .faultLineAsserted a) (f := takeFault a) rfl on
    rw [asserted]
    have set : faulted a s = u := u_eq.symm
    refine ⟨fun line => congrArg _ (if_pos line), fun negated active still => ?_, fun x e rest active negated => ⟨fun spared => ?_, fun driven => ?_⟩,
      exec_of_powered (c := .faultLineNegated a) (f := setFaultLine a false) rfl on⟩
    · rw [takeFault_quiet negated waits still (failOnAxis_idle a active), set]
    · have activeNow : activeIs x e rest (faulted a s) := active
      have quiet := failOnAxis_active a activeNow
      rw [spared] at quiet
      obtain ⟨-, still, -⟩ := active
      rw [takeFault_quiet negated waits still quiet, set]
    · have activeNow : activeIs x e rest (faulted a s) := active
      have waitsNow : nothingWaits (failActive .driveFault true (faulted a s)) := nothingWaits_of_arb (s := s) waits (by simp [faulted, setFaulted, setFaultLine])
      refine ⟨_, rfl, ?_⟩
      rw [takeFault_rises negated, failOnAxis_active a activeNow, driven, if_pos rfl, settleAll_eq waitsNow, ← set]
      obtain ⟨-, -, queue⟩ := activeNow
      exact failed_of (failable_refl _ _) (active_of_activeIs active) queue
  · exact exec_of_refused rfl taken (asHolder_other other) rfl
  · have answered {status : Status} {v : State} (clears : clearAxis p code s = respond p (.clearAxis code) status [] v) :
        asHolder p (.clearAxis code) false (clearAxis p code) s = respond p (.clearAxis code) status [] v :=
      (asHolder_acts holder).trans clears
    have clears (ready : ¬(s.pose.faulted.get a = true ∧ s.pose.faultLine.get a = true)) :
        clearAxis p code s = respond p (.clearAxis code) .done [] (setFaulted a false s) := by
      unfold clearAxis
      rw [axis]
      exact if_neg ready
    refine ⟨fun clear => ?_, fun flagged negated => ?_, fun flagged line => ?_⟩
    · have same : setFaulted a false s = s := by
        unfold setFaulted
        rw [← clear, axes_set_get]
        rfl
      refine exec_of_done rfl taken (answered ?_) rfl
      rw [clears (by simp [clear]), same]
    · have done := exec_of_done (c := .clearAxis p code) rfl taken (answered (clears (by simp [negated]))) rfl
      refine ⟨done, ?_⟩
      rw [done]
      exact faultLineAsserted_sets taken.1 negated
    · refine exec_of_refused rfl taken (answered ?_) rfl
      unfold clearAxis
      rw [axis]
      exact if_pos ⟨flagged, line⟩

/-! ### The obstruction sensor -/

/-- The latch is set, and the condition told if it was clear (R9). -/
theorem setLatch_told (s : State) :
    (s.pose.latch = true → setLatch s = s)
      ∧ (s.pose.latch = false →
          onlyOutputs (fun _ => [12]) (s.setPose { s.pose with latch := true }) (setLatch s)
            ∧ tellsAll (.condition .latch s.arb.reasons true s.safe.alarmPark s.safe.alarmWind s.settings.defaulted) s
                (setLatch s)) := by
  refine ⟨fun set => if_pos set, fun clear => ?_⟩
  have placed : setLatch s = placeCondition .latch (s.setPose { s.pose with latch := true }) := if_neg (by simp [clear])
  rw [placed]
  exact ⟨placeAll_onlyOutputs (told := fun _ => [12]) _ (fun _ => List.mem_singleton.mpr rfl) _,
    tellsAll_of_ports rfl rfl (placeAll_tells (conditionBody .latch (s.setPose { s.pose with latch := true }))
      (s.setPose { s.pose with latch := true }))⟩

theorem setLatch_pose (s : State) : (setLatch s).pose = { s.pose with latch := true } := by
  obtain ⟨stays, told⟩ := setLatch_told s
  cases latch : s.pose.latch with
  | true =>
    rw [stays latch, ← latch]
  | false => exact (onlyOutputs_frame (told latch).1).2.2.2.2.1

/-- The notice of the latch is none that the failure which it brings looks at. -/
theorem setLatch_failable (why : EndReason) (s : State) : Failable why (s.setPose { s.pose with latch := true }) (setLatch s) := by
  obtain ⟨stays, told⟩ := setLatch_told s
  cases latch : s.pose.latch with
  | true =>
    have same : s.setPose { s.pose with latch := true } = s := by
      rw [← latch]
      rfl
    rw [stays latch, same]
    exact failable_refl why s
  | false =>
    obtain ⟨lists, placed⟩ := told latch
    obtain ⟨pending, powered, arb, exe, pose, safe, store, cache, heading, scan, settings⟩ := onlyOutputs_frame lists
    have kept := keepsLists_of_onlyOutputs lists
    have outside : Outside (s.setPose { s.pose with latch := true }) (setLatch s) :=
      ⟨pending, powered, pose, store, heading, settings, by rw [safe]⟩
    refine ⟨⟨arb, outside, fun _ outer => sameNotices_of_keeps kept (by simp only [neutral] at outer; simp_all),
      fun p hidden => masked_of_tellsAll placed p hidden⟩, by rw [safe], exe, cache,
      fun t ended => ?_, sameNotices_of_keeps kept (by decide), kept⟩
    unfold scanEnds at ended ⊢
    rwa [scan] at ended

theorem failRaising_spares (spared : ∀ x, s.exe.active = some x → x.mastClass ≠ some .raising) : failRaising s = s := by
  unfold failRaising
  refine if_neg fun raising => ?_
  obtain ⟨x, active, class_⟩ := (Option.any_eq_true _ _).mp raising
  exact spared x active (by simpa using class_)

theorem obstructionEdge_latches (on : s.powered = true) : ∃ t, exec .obstructionEdge s = .next t ∧ t.pose.latch = true := by
  refine ⟨_, exec_of_powered (f := fun s => failRaising (setLatch s)) rfl on, ?_⟩
  have pose : (failRaising (setLatch s)).pose = (setLatch s).pose := by simp
  rw [pose, setLatch_pose]

/-- Settles O24: an edge sets the latch and fails a raising entry, and CLEAR LATCHES clears the latch. -/
theorem obstructionLatch : Obligations.ObstructionLatch := by
  refine ⟨fun s u on u_eq => ?_, fun p s taken => ⟨fun may => ?_, fun other notRack => ?_⟩⟩
  · subst u_eq
    rw [exec_of_powered (c := .obstructionEdge) (f := fun s => failRaising (setLatch s)) rfl on]
    obtain ⟨stays, told⟩ := setLatch_told s
    have ready := setLatch_failable .obstructed s
    refine ⟨fun spared => ?_, fun x e rest active raising => ⟨_, rfl, ?_⟩⟩
    · have quiet : failRaising (setLatch s) = setLatch s := failRaising_spares (by rw [ready.exe]; exact spared)
      rw [quiet]
      exact ⟨fun set => congrArg _ (stays set), fun clear => ⟨_, rfl, told clear⟩⟩
    · obtain ⟨held, -, queue⟩ := active
      have fails : failRaising (setLatch s) = advance (failActive .obstructed true (setLatch s)) := by
        refine if_pos ?_
        rw [ready.exe, State.setPose_exe, held]
        simp [raising]
      rw [fails]
      exact failed_of ready (by rw [ready.exe]; exact held ▸ rfl) (by rw [ready.exe]; exact queue)
  · have done := exec_of_done (c := .clearLatches p) rfl taken (if_pos may) rfl
    refine ⟨done, ?_⟩
    rw [done]
    exact obstructionEdge_latches taken.1
  · exact exec_of_refused rfl taken (if_neg (by simp [other, notRack])) rfl

end Sys2Proof.Machine
end

section
/-! The stall watch and the rest watch (R58, R61, R62). -/

namespace Sys2Proof.Machine

variable {s t u : State} {e : Entry} {rest : List Entry} {x : Active} {a : Axis} {ending : Ending}

/-! ### The stall watch -/

theorem runningPhase_running (active : s.exe.active = some x) (running : x.execution = .running) :
    runningPhase a s = x.phases.get a := by
  unfold runningPhase
  rw [active]
  exact if_pos running

theorem runningPhase_idle (active : s.exe.active = some x) (idle : x.execution = .suspended ∨ x.phases.get a = .idle) :
    runningPhase a s = .idle := by
  unfold runningPhase
  rw [active]
  dsimp only
  split
  · next running =>
    rcases idle with suspended | idle
    · exact absurd (running.symm.trans suspended) (by decide)
    · exact idle
  · rfl

theorem stallWindow_driving {w : Int} (phase : runningPhase a s = .driving w) :
    stallWindow a s =
      if (s.pose.counts.get a - w).natAbs < 10 then advance (failActive .stalled true s)
      else setPhase a (.driving (s.pose.counts.get a)) s := by
  unfold stallWindow
  rw [phase]

theorem settlingTimeout_settling {v : Int} (phase : runningPhase a s = .settling) (target : drivenTarget a s = some v) :
    settlingTimeout a s = if arrived a v s then s else advance (failActive .stalled true s) := by
  unfold settlingTimeout
  rw [phase, target]

theorem drivenTarget_move {b : Axis} (h : activeIs x e rest s) (axis : e.motion.axis = some b) : drivenTarget a s = e.target := by
  unfold drivenTarget
  rw [activeEntry_of_activeIs h]
  dsimp only
  rw [axis]

theorem setPhase_active (ph : AxisPhase) (active : s.exe.active = some x) :
    setPhase a ph s = s.setExe { s.exe with active := some { x with phases := x.phases.set a ph } } := by
  unfold setPhase updateActive
  rw [active]
  rfl

/-! ### A boundary once the group has ended -/

theorem lockOut_ungrouped (k : LockReason) (group : s.safe.group = none) : (lockOut k s).safe = s.safe := by
  have cut (u : State) (same : u.safe = s.safe) : (groupCut u).safe = s.safe := by
    have none_ : u.safe.group = none := by rw [same]; exact group
    have still : groupCut u = u := by
      unfold groupCut
      rw [none_]
      exact setSafe_group_none none_
    rw [still, same]
  unfold lockOut
  dsimp only
  split <;> simp [cut]

theorem addReason_ungrouped (k : LockReason) (group : s.safe.group = none) : (addReason k s).safe = s.safe := by
  have enlisted : (enlistReason k s).safe = s.safe := by simp
  have locked : (lockOut k (enlistReason k s)).safe = s.safe :=
    (lockOut_ungrouped k (by rw [enlisted]; exact group)).trans enlisted
  unfold addReason
  split
  · rfl
  dsimp only
  split <;> simp [locked]

theorem groupEnded_ungrouped (ending : Ending) (group : s.safe.group = none) : (groupEnded ending s).safe = s.safe := by
  unfold groupEnded
  rw [group]
  dsimp only
  split
  · exact addReason_ungrouped _ group
  · rfl

theorem takeBoundary_ungrouped (ending : Ending) (group : s.safe.group = none) : (takeBoundary ending s).safe = s.safe := by
  have ended := groupEnded_ungrouped ending group
  unfold takeBoundary
  split
  · simp
  · simp
  · simp
  · exact (afterGroup_frame (groupEnded ending s)).2.2.2.1.trans ended
  · rfl

/-- A boundary whose ending adds no reason tells of no condition. -/
theorem takeBoundary_untold (group : s.safe.group = none) (failed : ending.failed ≠ some .parkStow) :
    keepsLists [2, 3, 13] s (takeBoundary ending s) := by
  have same : groupEnded ending s = s := by
    unfold groupEnded
    rw [group]
    exact if_neg fun ⟨stow, _⟩ => failed stow
  unfold takeBoundary
  split
  · exact keepsLists_of_ports (by simp)
  · exact handOn_keeps _ s (by decide) (by decide)
  · exact grantCrank_keeps _ _ _ _ s (by decide) (by decide)
  · have taken := afterGroup_keeps (groupEnded ending s)
    rw [same] at taken
    unfold safetyBoundary
    rw [same]
    exact taken
  · exact keepsLists_refl _ s

/-- A changed alarm output is told (R100). -/
theorem setAlarmCauses_tells {park wind : Bool} (changes : s.safe.alarm ≠ (park || wind)) :
    tellsAll (.condition .alarm s.arb.reasons s.pose.latch park wind s.settings.defaulted) s (setAlarmCauses park wind s) := by
  have placed : setAlarmCauses park wind s = placeAll (conditionBody .alarm (withAlarm park wind s)) (withAlarm park wind s) :=
    if_neg changes
  rw [placed]
  exact tellsAll_of_ports rfl rfl (placeAll_tells (conditionBody .alarm (withAlarm park wind s)) (withAlarm park wind s))

theorem tellSafety_lowering (group : s.safe.group = some .windLowering) (silent : s.safe.alarm = false) :
    tellsAll (.condition .alarm s.arb.reasons s.pose.latch s.safe.alarmPark true s.settings.defaulted) s (tellSafety .safety s) := by
  have raised : tellSafety .safety s = setAlarmCauses s.safe.alarmPark true (s.setSafe { s.safe with group := none }) := by
    unfold tellSafety
    rw [group]
    rfl
  have changes : (s.setSafe { s.safe with group := none }).safe.alarm ≠ (s.safe.alarmPark || true) := by simp [silent]
  rw [raised]
  exact tellsAll_of_ports rfl rfl (setAlarmCauses_tells changes)

/-- A lowering that fails tells of the WIND cause (R94, R100). -/
theorem entryFailed_alarm (why : EndReason) (n : Nat) (safety : e.origin = .safety) (group : s.safe.group = some .windLowering)
    (silent : s.safe.alarm = false) :
    tellsAll (.condition .alarm s.arb.reasons s.pose.latch s.safe.alarmPark true s.settings.defaulted) s (entryFailed why e n s) := by
  have before : keepsLists [7] s (dropActive e (finishScan why false s)) :=
    keepsLists_trans (finishScan_keeps why false s (by decide)) (dropActive_keeps e (finishScan why false s))
  have told := tellSafety_lowering (s := dropActive e (finishScan why false s)) (by simpa using group) (by simpa using silent)
  have frame : (dropActive e (finishScan why false s)).arb = s.arb ∧ (dropActive e (finishScan why false s)).pose = s.pose
      ∧ (dropActive e (finishScan why false s)).safe = s.safe ∧ (dropActive e (finishScan why false s)).settings = s.settings := by
    simp
  obtain ⟨arb, pose, safe, settings⟩ := frame
  rw [arb, pose, safe, settings] at told
  unfold entryFailed
  rw [safety]
  exact tellsAll_of_ports rfl rfl (tellsAll_after (sameNotices_of_keeps before (show 12 ∉ [7] by decide)) told)

/-- A safety entry that fails ends its group at once (R61, R94). -/
theorem advance_fail_group (why : EndReason) (h : activeIs x e rest s) (safety : e.origin = .safety) :
    (advance (failActive why true s)).safe.group = none
      ∧ (s.safe.group = some .windLowering →
          (advance (failActive why true s)).safe.alarmWind = true ∧ (advance (failActive why true s)).safe.alarm = true
            ∧ (s.safe.alarm = false →
                tellsAll (.condition .alarm s.arb.reasons s.pose.latch s.safe.alarmPark true s.settings.defaulted) s
                  (advance (failActive why true s)))) := by
  obtain ⟨group, alarms⟩ := entryFailed_group why rest.length safety s
  obtain ⟨ends, closes⟩ := advance_fail_cases (why := why) (active_of_activeIs h) h.2.2
  by_cases rested : restedOn e.motion.axes s
  · rw [ends rested, takeBoundary_ungrouped _ group]
    refine ⟨group, fun lowering => ?_⟩
    obtain ⟨wind, alarm⟩ := alarms lowering
    refine ⟨wind, alarm, fun silent => ?_⟩
    have failed : (failedEnding e s).failed ≠ some .parkStow := by
      simp [failedEnding, failedGroup, safety, lowering]
    exact tellsAll_same (entryFailed_alarm why _ safety lowering silent)
      (sameNotices_of_keeps (takeBoundary_untold group failed) (show 12 ∉ [2, 3, 13] by decide))
  · rw [closes rested]
    refine ⟨group, fun lowering => ?_⟩
    obtain ⟨wind, alarm⟩ := alarms lowering
    exact ⟨wind, alarm, fun silent => tellsAll_of_ports rfl rfl (entryFailed_alarm why _ safety lowering silent)⟩

/-! ### The rest watch -/

/-- The report of a boundary that is due is taken, where nothing goes on (R31, R32, R62). -/
theorem advance_closing {c : Closing} (closing : s.exe.closing = some c) (boundary : c.ending.boundary = true)
    (queue : s.exe.queue = []) (rested : restedOn c.axes s) :
    advance s = takeBoundary c.ending (s.setExe { s.exe with closing := none }) := by
  have stays : goesOn c.ending (s.setExe { s.exe with closing := none }) = false := by
    simp [goesOn, boundary, queue]
  unfold advance
  rw [runQueue, closing]
  dsimp only
  rw [if_pos ((restedOn_iff c.axes s).mp rested), stays]
  rfl

theorem faultRestless_get (axes : Axes Bool) (s : State) (a : Axis) :
    (faultRestless axes s).pose.faulted.get a = (s.pose.faulted.get a || (axes.get a && !s.pose.atRest.get a)) := by
  cases a <;> rfl

theorem faultRestless_rested (axes : Axes Bool) (s : State) : restedOn axes (faultRestless axes s) := by
  intro a named
  rw [faultRestless_get, named]
  show s.pose.atRest.get a = true ∨ _
  cases s.pose.atRest.get a <;> simp

/-- Settles O26: a window of few counts and a settling that has not arrived fail the entry, and an axis that never comes to rest
becomes FAULTED, so that the boundary is taken. -/
theorem stallAndRestWatches : Obligations.StallAndRestWatches := by
  refine ⟨fun a x e rest s on active => ?_, fun s on => ⟨fun c closing boundary queue idle waits => ?_, fun still => ?_⟩⟩
  · rw [exec_of_powered (c := .stallWindowExpiry a) (f := stallWindow a) rfl on,
      exec_of_powered (c := .settlingTimeout a) (f := settlingTimeout a) rfl on]
    have held : s.exe.active.isSome = true := active_of_activeIs active
    have fails : Failed e rest.length .stalled s (advance (failActive .stalled true s)) :=
      failed_of (failable_refl _ _) held active.2.2
    have stalls (w : Int) (running : x.execution = .running) (phase : x.phases.get a = .driving w)
        (few : (s.pose.counts.get a - w).natAbs < 10) : stallWindow a s = advance (failActive .stalled true s) := by
      rw [stallWindow_driving ((runningPhase_running active.1 running).trans phase), if_pos few]
    refine ⟨fun w running phase few => ⟨_, rfl, ?_⟩, fun w running phase many => ?_, fun v running phase axis target => ?_,
      fun idle => ?_, fun w running phase few safety group => ⟨_, rfl, ?_⟩⟩
    · rw [stalls w running phase few]
      exact fails
    · rw [stallWindow_driving ((runningPhase_running active.1 running).trans phase), if_neg (by omega), setPhase_active _ active.1]
    · rw [settlingTimeout_settling ((runningPhase_running active.1 running).trans phase) ((drivenTarget_move active axis).trans target)]
      refine ⟨fun away => ⟨_, rfl, ?_⟩, fun there => congrArg _ (if_pos there)⟩
      rw [if_neg (by simp [away])]
      exact fails
    · have phase := runningPhase_idle (a := a) active.1 idle
      constructor
      · unfold stallWindow
        rw [phase]
      · unfold settlingTimeout
        rw [phase]
    · rw [stalls w running phase few]
      exact advance_fail_group .stalled active safety
  · obtain ⟨u, u_eq⟩ : ∃ u, u = (faultRestless c.axes s).setExe { s.exe with closing := none } := ⟨_, rfl⟩
    have waitsNow : nothingWaits (faultRestless c.axes s) := waits
    have closingNow : (faultRestless c.axes s).exe.closing = some c := closing
    have taken : exec .restWatchExpiry s = .next (takeBoundary c.ending u) := by
      refine (exec_of_powered rfl on).trans ?_
      rw [closing]
      dsimp only
      rw [settleAll_eq waitsNow, advance_closing closingNow boundary queue (faultRestless_rested c.axes s), u_eq]
      rfl
    have still : u.exe.closing = none := by rw [u_eq]; rfl
    have arb : u.arb = s.arb := by rw [u_eq]; rfl
    have settings : u.settings = s.settings := by rw [u_eq]; rfl
    have ports : u.ports = s.ports := by rw [u_eq]; rfl
    have group : u.safe = s.safe := by rw [u_eq]; rfl
    refine ⟨u, _, _, faultRestless_get c.axes s, u_eq, taken, (takeBoundary_work still).1, takeBoundary_outside _ u,
      sameBesides_of_keeps (keepsLists_before ports (takeBoundary_keeps _ u (by decide) (by decide) (by decide) (by decide))),
      fun p holder => ⟨takeBoundary_port (by rw [arb]; exact holder), fun moving => ?_⟩, fun holder auth none_ => ?_⟩
    · rw [takeBoundary_moving (by rw [arb]; exact moving) (by rw [arb]; exact holder), heldBy_of_arb arb settings]
    · have boundary := takeBoundary_safety (ending := c.ending) (s := u) (by rw [arb]; exact holder) (by rw [arb]; exact auth)
      have left : reasonsLeft c.ending u = reasonsAfter c.ending.failed false u := by
        unfold reasonsLeft
        rw [group, none_]
      rwa [left] at boundary
  · refine (exec_of_powered rfl on).trans ?_
    rw [still]

end Sys2Proof.Machine
end

section
/-! An answer beside what a request brings about, and HALT (R65, R66, R160). -/

namespace Sys2Proof.Machine

variable {s t u v : State} {p q : Port} {r : Request} {status : Status} {fields : List Byte} {e : Entry} {rest : List Entry}
  {x : Active} {ending : Ending} {why : EndReason} {told : List Nat}

/-! ### Answers -/

theorem respond_ports (p : Port) (r : Request) (status : Status) (fields : List Byte) (s : State) :
    (respond p r status fields s).ports = answer p (requestCode r) status fields s.ports := by
  cases success : status.success with
  | true =>
    rw [respond_done p r status fields s success]
    rfl
  | false =>
    rw [respond_refused p r status fields s success]
    rfl

theorem answer_get (p q : Port) (code : Byte) (status : Status) (fields : List Byte) (ports : Ports PortState) :
    ((answer p code status fields ports).get q).output =
        (ports.get q).output
          ++ (if q = p then [.response { code := code + 0x80, status := status, parts := [fields] }] else [])
      ∧ ((answer p code status fields ports).get q).mask = (ports.get q).mask := by
  unfold answer answerParts
  rw [Ports.get_set]
  by_cases same : q = p
  · subst same
    simp
  · simp [same]

theorem respond_same (k : Nat) (p : Port) (r : Request) (status : Status) (fields : List Byte) (s : State) :
    sameNotices k s (respond p r status fields s) := by
  intro q
  rw [respond_ports]
  obtain ⟨output, mask⟩ := answer_get p q (requestCode r) status fields s.ports
  rw [output, mask]
  refine ⟨?_, rfl⟩
  by_cases same : q = p
  · rw [if_pos same, noticeOf_append_response]
  · rw [if_neg same, List.append_nil]

/-- An answer placed between notices of the kinds told (R160). -/
theorem responds_of (before : keepsLists told s u) (ports : v.ports = answer p (requestCode r) status fields u.ports)
    (later : keepsLists told v t) : responds told p r status fields s t := by
  intro q
  rw [(later q).1, ports, (answer_get p q _ status fields u.ports).1, ← (before q).1]
  unfold besides
  rw [List.filter_append]
  congr 1
  by_cases same : q = p
  · rw [if_pos same]
    rfl
  · rw [if_neg same]
    rfl

/-- An answer that starts no idle timer leaves the arbiter as it stands (R36). -/
theorem respond_arb_unheld (other : s.arb.auth ≠ .held) : (respond p r status fields s).arb = s.arb := by
  cases success : status.success with
  | true =>
    rw [respond_done p r status fields s success, doneState_unheld (Or.inl other)]
    rfl
  | false =>
    rw [respond_refused p r status fields s success]
    rfl

theorem respond_outside (p : Port) (r : Request) (status : Status) (fields : List Byte) (s : State) :
    Outside s (respond p r status fields s) :=
  ⟨by simp, by simp, by simp, by simp, by simp, by simp, by simp⟩

/-- An answer is nothing that a boundary looks at, but in HELD. -/
theorem respond_like (other : s.arb.auth ≠ .held) : Like s (respond p r status fields s) :=
  ⟨respond_arb_unheld other, respond_outside p r status fields s, fun k _ => respond_same k p r status fields s,
    masked_of_same (respond_same 12 p r status fields s)⟩

/-! ### Endings -/

theorem finishScan_scanEnds (entry : activeEntry s = some e) (scan : t.scan = (finishScan why false s).scan) :
    scanEnds why s t := by
  unfold scanEnds
  rw [scan]
  unfold finishScan
  rw [entry]
  cases s.scan.scan <;> cases s.scan.result <;> simp

theorem takeBoundary_port_keeps (holder : s.arb.holder = some (.port p)) : keepsLists [2, 13] s (takeBoundary ending s) := by
  unfold takeBoundary
  split
  · exact keepsLists_of_ports (by simp)
  · exact ite_keeps (keepsLists_of_ports rfl) (yieldOutcome_keeps s (by decide))
  · exact grantCrank_keeps _ _ _ _ s (by decide) (by decide)
  · next safety _ => exact absurd (holder.symm.trans safety) (by simp)
  · exact keepsLists_refl _ s

theorem advance_waits {c : Closing} (closing : s.exe.closing = some c) (moves : ¬restedOn c.axes s) : advance s = s := by
  unfold advance
  rw [runQueue, closing]
  exact if_neg (mt (restedOn_iff c.axes s).mpr moves)

theorem boundary_of_held {halted discarded : Nat} (held : s.arb.auth = .held) : Boundary p halted discarded s t := by
  refine ⟨fun h => ?_, fun h => ?_, fun h => ?_, fun h => ?_⟩ <;> exact absurd (held.symm.trans h) (by decide)

/-! ### HALT -/

/-- The closing of an entry that the holder has halted (R65). -/
def haltClosing (e : Entry) (waiting : Nat) : Closing :=
  { axes := e.motion.axes, ending := { boundary := true, completed := false, halted := e.tag, discarded := waiting } }

theorem finishScan_exe (why : EndReason) (learned : Bool) (s : State) : (finishScan why learned s).exe = s.exe := by simp

theorem haltByHolder_eq (h : activeIs x e rest s) :
    haltByHolder s =
      (finishScan .halted false s).setExe { goneExe e [] s with closing := some (haltClosing e rest.length) } := by
  have count : waitingCount s = rest.length := by
    unfold waitingCount
    rw [active_of_activeIs h, if_pos rfl, h.2.2]
    rfl
  unfold haltByHolder haltAll
  rw [activeEntry_of_activeIs h]
  dsimp only
  simp only [count, finishScan_exe, stopAxes, goneExe, haltClosing]
  rfl

theorem haltByHolder_idle (active : s.exe.active = none) (suspension : s.exe.suspension = none) :
    haltByHolder s = s.setExe { s.exe with queue := [] } := by
  have none_ := activeEntry_none active
  have unfinished : finishScan .halted false s = s := by
    unfold finishScan
    rw [none_]
    split
    · next hit => exact absurd hit (by simp)
    · rfl
  unfold haltByHolder haltAll
  rw [none_]
  dsimp only
  rw [unfinished, ← active, ← suspension]

/-- The holder's HALT of an active entry: it has left with what waited behind it, and the ending is taken when its axes have come
to rest (R65). -/
theorem haltMotion_active (h : activeIs x e rest s) (holder : s.arb.holder = some (.port p)) :
    ∃ t, haltMotion p s = t ∧ responds [2, 7, 13] p .halt .done [byteOf e.tag, byteOf rest.length] s t
      ∧ (∃ closing, t.exe = { goneExe e [] s with closing := closing }
          ∧ (restedOn e.motion.axes s → closing = none) ∧ (¬restedOn e.motion.axes s → closing = some (haltClosing e rest.length)))
      ∧ t.scan = (finishScan .halted false s).scan ∧ Outside s t
      ∧ (¬restedOn e.motion.axes s → s.arb.auth ≠ .held → t.arb = s.arb)
      ∧ (restedOn e.motion.axes s → Boundary p e.tag rest.length s t) := by
  obtain ⟨v, v_eq⟩ : ∃ v, v = respond p .halt .done [byteOf e.tag, byteOf rest.length] (haltByHolder s) := ⟨_, rfl⟩
  have tag : activeTag s = e.tag := by
    unfold activeTag
    rw [activeEntry_of_activeIs h]
  have count : waitingCount s = rest.length := by
    unfold waitingCount
    rw [active_of_activeIs h, if_pos rfl, h.2.2]
    rfl
  have made : haltMotion p s = advance v := by
    unfold haltMotion
    rw [tag, count, v_eq]
  have halted := haltByHolder_eq h
  have arb : (haltByHolder s).arb = s.arb := by rw [halted]; simp
  have ended : keepsLists [2, 7, 13] s (haltByHolder s) := by
    rw [halted]
    exact fun p => finishScan_keeps (kinds := [2, 7, 13]) .halted false s (by decide) p
  have outsideHalt : Outside s (haltByHolder s) := by
    rw [halted]
    exact ⟨by simp, by simp, by simp, by simp, by simp, by simp, by simp⟩
  have ports : v.ports = answer p (requestCode .halt) .done [byteOf e.tag, byteOf rest.length] (haltByHolder s).ports := by
    rw [v_eq, respond_ports]
  have outside : Outside s v := by
    rw [v_eq]
    exact outside_trans outsideHalt (respond_outside ..)
  have exe : v.exe = { goneExe e [] s with closing := some (haltClosing e rest.length) } := by
    rw [v_eq, halted]
    simp
  have scan : v.scan = (finishScan .halted false s).scan := by
    rw [v_eq, halted]
    simp
  have closing : v.exe.closing = some (haltClosing e rest.length) := by rw [exe]
  have rests : restedOn e.motion.axes v ↔ restedOn e.motion.axes s := restedOn_of_pose outside.pose
  refine ⟨_, made, ?_⟩
  by_cases rested : restedOn e.motion.axes s
  · have queue : v.exe.queue = [] := by rw [exe]; rfl
    obtain ⟨w, w_eq⟩ : ∃ w, w = v.setExe { v.exe with closing := none } := ⟨_, rfl⟩
    have taken : advance v = takeBoundary (haltClosing e rest.length).ending w := by
      rw [w_eq]
      exact advance_closing closing rfl queue (rests.mpr rested)
    have still : w.exe.closing = none := by rw [w_eq]; rfl
    have holderNow : w.arb.holder = some (.port p) := by
      rw [w_eq, v_eq]
      simp [holder]
    obtain ⟨work, scanned⟩ := takeBoundary_work (ending := (haltClosing e rest.length).ending) still
    have later : keepsLists [2, 7, 13] v (takeBoundary (haltClosing e rest.length).ending w) :=
      keepsLists_before (by rw [w_eq]; rfl) (keepsLists_mono (by decide) (takeBoundary_port_keeps holderNow))
    have outsideNow : Outside v w := by
      rw [w_eq]
      exact ⟨rfl, rfl, rfl, rfl, rfl, rfl, rfl⟩
    rw [taken]
    refine ⟨responds_of ended ports later, ⟨none, ?_, fun _ => rfl, fun moves => absurd rested moves⟩, ?_,
      outside_trans (outside_trans outside outsideNow) (takeBoundary_outside _ w), fun moves => absurd rested moves, fun _ => ?_⟩
    · rw [work, w_eq]
      show { v.exe with closing := none } = _
      rw [exe]
    · rw [scanned, w_eq]
      exact scan
    · by_cases held : s.arb.auth = .held
      · exact boundary_of_held held
      · have like : Like s w := by
          have haltLike : Like s (haltByHolder s) :=
            like_of_placed (kinds := [7]) arb outsideHalt (by rw [halted]; exact fun p => finishScan_keeps (kinds := [7]) .halted false s (by decide) p)
              (by decide) (by decide)
          have answered : Like (haltByHolder s) v := by
            rw [v_eq]
            exact respond_like (by rw [arb]; exact held)
          exact like_trans (like_trans haltLike answered) (like_of_same (by rw [w_eq]; rfl) outsideNow (by rw [w_eq]; rfl))
        exact boundary_before like (takeBoundary_port (ending := (haltClosing e rest.length).ending) holderNow)
  · rw [advance_waits closing (mt rests.mp rested)]
    refine ⟨responds_of ended ports (keepsLists_refl _ v), ⟨_, exe, fun rest => absurd rest rested, fun _ => rfl⟩, scan, outside,
      fun _ unheld => ?_, fun rest => absurd rest rested⟩
    rw [v_eq, respond_arb_unheld (by rw [arb]; exact unheld), arb]

/-- Settles O22: the active entry is halted with what waits behind it, and its boundary is taken at once or when its axes have
come to rest. -/
theorem haltStopsTheHolder : Obligations.HaltStopsTheHolder := by
  intro p s taken holder
  have arm : exec (.halt p) s = .next (haltMotion p s) :=
    (exec_of_takes (f := asHolder p .halt false (haltMotion p)) rfl taken).trans (congrArg _ (asHolder_acts holder))
  refine ⟨fun x e rest active => ?_, fun active closing suspension => ?_⟩
  · obtain ⟨t, made, answered, ⟨closing, exe, stands, moves⟩, scan, outside, arb, boundary⟩ := haltMotion_active active holder
    refine ⟨t, arm.trans (congrArg _ made), answered, ?_, ?_, ?_, ?_, fun a => ?_,
      finishScan_scanEnds (activeEntry_of_activeIs active) scan, outside, fun moving unheld => ⟨arb moving unheld, ?_⟩,
      fun rested => ⟨?_, boundary rested⟩⟩
    · rw [exe]; rfl
    · rw [exe]; rfl
    · rw [exe]; rfl
    · rw [exe]; rfl
    · rw [exe]
      exact stopAxes_get e.motion.axes s a
    · refine ⟨haltClosing e rest.length, ?_, rfl, rfl, rfl⟩
      rw [exe, moves moving]
    · rw [exe, stands rested]
  · have tag : activeTag s = 0 := by
      unfold activeTag
      rw [activeEntry_none active]
    have count : waitingCount s = s.exe.queue.length := by
      unfold waitingCount
      rw [active]
      rfl
    obtain ⟨v, v_eq⟩ : ∃ v, v = doneState p .halt .done [0x00, byteOf s.exe.queue.length] (s.setExe { s.exe with queue := [] }) :=
      ⟨_, rfl⟩
    have answered : respond p .halt .done [byteOf (activeTag s), byteOf (waitingCount s)] (haltByHolder s) = v := by
      rw [tag, count, haltByHolder_idle active suspension, v_eq]
      exact respond_done _ _ _ _ _ rfl
    have exe : v.exe = { s.exe with queue := [] } := by rw [v_eq]; rfl
    have pose : v.pose = s.pose := by rw [v_eq]; rfl
    rw [arm, ← v_eq]
    unfold haltMotion
    rw [answered]
    congr 1
    cases closes : s.exe.closing with
    | none => exact advance_still (by rw [exe]; exact closes)
    | some c =>
      exact advance_waits (by rw [exe]; exact closes) (mt (restedOn_of_pose pose).mp (closing c closes))

end Sys2Proof.Machine
end

section
/-! MANUAL REQ, and the entries that are abandoned for the crank (R34, R80 to R82, R94, R98). -/

namespace Sys2Proof.Machine

variable {s t u v w : State} {p q : Port} {e : Entry} {rest : List Entry} {x : Active} {why : EndReason}

/-! ### Suspension -/

/-- The executor when the active entry has been suspended (R71, R73, R78). -/
def suspendedExe (e : Entry) (s : State) : Executor :=
  { s.exe with
    suspension := some s.settings.inForce.suspension
    active := s.exe.active.map (fun x => { x with execution := .suspended, phases := Axes.all .idle })
    drives := (stopAxes e.motion.axes s).exe.drives }

theorem suspendActive_eq (entry : activeEntry s = some e) :
    suspendActive s =
      placeAll (.supplySuspended e.tag e.origin e.purpose s.settings.inForce.suspension) (s.setExe (suspendedExe e s)) := by
  unfold suspendActive
  rw [entry]
  rfl

theorem suspendActive_exe (entry : activeEntry s = some e) : (suspendActive s).exe = suspendedExe e s := by
  rw [suspendActive_eq entry]
  simp

/-- A suspension is told, and changes the executor alone (R71). -/
theorem suspendActive_told (entry : activeEntry s = some e) :
    onlyOutputs (fun _ => [14]) (s.setExe (suspendedExe e s)) (suspendActive s)
      ∧ tellsAll (.supplySuspended e.tag e.origin e.purpose s.settings.inForce.suspension) s (suspendActive s) := by
  rw [suspendActive_eq entry]
  exact ⟨placeAll_onlyOutputs (told := fun _ => [14]) _ (fun _ => List.mem_singleton.mpr rfl) _,
    tellsAll_of_ports rfl rfl (placeAll_tells (.supplySuspended e.tag e.origin e.purpose s.settings.inForce.suspension)
      (s.setExe (suspendedExe e s)))⟩

/-! ### A safety group cut short -/

/-- The running safety group has been cut short: a wind lowering leaves the WIND cause set, told if the alarm output changes, and
another group leaves the causes as they are (R94, R98, R100). -/
structure GroupCut (s t : State) : Prop where
  group : t.safe.group = none
  park : t.safe.alarmPark = s.safe.alarmPark
  kept : s.safe.group ≠ some .windLowering →
    t.safe.alarmWind = s.safe.alarmWind ∧ t.safe.alarm = s.safe.alarm ∧ t.ports = s.ports
  raised : s.safe.group = some .windLowering →
    t.safe.alarmWind = true ∧ t.safe.alarm = true
      ∧ (s.safe.alarm = false →
          tellsAll (.condition .alarm s.arb.reasons s.pose.latch s.safe.alarmPark true s.settings.defaulted) s t)

theorem groupCut_cut (s : State) : GroupCut s (groupCut s) := by
  by_cases lowering : s.safe.group = some .windLowering
  · have raised : groupCut s = setAlarmCauses s.safe.alarmPark true (s.setSafe { s.safe with group := none }) := by
      unfold groupCut
      rw [lowering]
      rfl
    obtain ⟨park, wind, alarm⟩ := setAlarmCauses_causes s.safe.alarmPark true (s.setSafe { s.safe with group := none })
    rw [raised]
    refine ⟨by simp, park, fun other => absurd lowering other, fun _ => ⟨wind, by simp, fun silent => ?_⟩⟩
    have changes : (s.setSafe { s.safe with group := none }).safe.alarm ≠ (s.safe.alarmPark || true) := by simp [silent]
    exact tellsAll_of_ports rfl rfl (setAlarmCauses_tells changes)
  · have kept : groupCut s = s.setSafe { s.safe with group := none } := by
      unfold groupCut
      dsimp only
      split
      · next hit => exact absurd hit lowering
      · rfl
    rw [kept]
    exact ⟨rfl, rfl, fun _ => ⟨rfl, rfl, rfl⟩, fun hit => absurd hit lowering⟩

/-! ### An entry abandoned for the crank -/

/-- The closing of an entry that is abandoned for the crank (R81, R82). -/
def abandonClosing (e : Entry) (waiting : Nat) : Closing := haltClosing e waiting

/-- The abandoned entry has left with what waited behind it; its scan has ended (R81, R82). -/
def abandoned (e : Entry) (waiting : Nat) (s : State) : State :=
  (finishScan .endedManual false s).setExe { goneExe e [] s with closing := some (abandonClosing e waiting) }

theorem abandonForCrank_eq (h : activeIs x e rest s) :
    abandonForCrank s =
      grantCrank e.tag rest.length e.tag rest.length (groupCut (abandoned e rest.length s)) := by
  have count : waitingCount s = rest.length := by
    unfold waitingCount
    rw [active_of_activeIs h, if_pos rfl, h.2.2]
    rfl
  unfold abandonForCrank
  rw [activeEntry_of_activeIs h]
  simp only [count, dropActive, stopAxes, finishScan_exe]
  rfl

/-- The crank has been granted over an entry that is abandoned for it (R81, R82, R94, R98). -/
structure Abandoned (e : Entry) (waiting : Nat) (s t : State) : Prop where
  exe : ∃ closing, t.exe = { goneExe e [] s with closing := closing }
  scan : t.scan = (finishScan .endedManual false s).scan
  arb : t.arb = crankGranted s
  begun : tellsAll (.manualBegun s.arb.auth s.arb.holder e.tag waiting) s t
  lost : ∀ q : Port, s.arb.holder = some (.port q) → s.arb.releaseMark = false →
    tells q (.authority .lost (some .manual) e.tag waiting) s t
  lists : keepsLists [2, 7, 12, 13] s t
  group : t.safe.group = none
  kept : s.safe.group ≠ some .windLowering → t.safe.alarmWind = s.safe.alarmWind
  raised : s.safe.group = some .windLowering →
    t.safe.alarmWind = true ∧ t.safe.alarm = true
      ∧ (s.safe.alarm = false →
          tellsAll (.condition .alarm s.arb.reasons s.pose.latch s.safe.alarmPark true s.settings.defaulted) s t)

theorem abandonForCrank_abandoned (h : activeIs x e rest s) : Abandoned e rest.length s (abandonForCrank s) := by
  rw [abandonForCrank_eq h]
  obtain ⟨a, a_eq⟩ : ∃ a, a = abandoned e rest.length s := ⟨_, rfl⟩
  have ended : keepsLists [7] s a := by
    rw [a_eq]
    exact fun p => finishScan_keeps (kinds := [7]) .endedManual false s (by decide) p
  have arb : a.arb = s.arb := by rw [a_eq]; simp [abandoned]
  have pose : a.pose = s.pose := by rw [a_eq]; simp [abandoned]
  have settings : a.settings = s.settings := by rw [a_eq]; simp [abandoned]
  have safe : a.safe = s.safe := by rw [a_eq]; simp [abandoned]
  have exe : a.exe = { goneExe e [] s with closing := some (abandonClosing e rest.length) } := by rw [a_eq]; rfl
  rw [← a_eq]
  obtain ⟨group, park, kept, raised⟩ := groupCut_cut a
  have cut : keepsLists [12] a (groupCut a) := groupCut_keeps a (by decide)
  have cutArb : (groupCut a).arb = s.arb := by simp [arb]
  have before (k : Nat) (seven : k ∉ [7]) (twelve : k ∉ [12]) : sameNotices k s (groupCut a) :=
    sameNotices_trans (sameNotices_of_keeps ended seven) (sameNotices_of_keeps cut twelve)
  have granted (lh ld bh bd : Nat) : keepsLists [2, 13] (groupCut a) (grantCrank lh ld bh bd (groupCut a)) :=
    grantCrank_keeps lh ld bh bd _ (by decide) (by decide)
  have safeAfter : (grantCrank e.tag rest.length e.tag rest.length (groupCut a)).safe = (groupCut a).safe := by simp
  refine ⟨⟨some (abandonClosing e rest.length), ?_⟩, ?_, ?_, ?_, fun q holder unreleased => ?_, ?_, ?_, fun other => ?_,
    fun lowering => ?_⟩
  · simp [exe]
  · simp [a_eq, abandoned]
  · rw [grantCrank_arb, crankGranted_of_arb cutArb]
  · have begun := grantCrank_begun e.tag rest.length e.tag rest.length (groupCut a)
    rw [cutArb] at begun
    exact tellsAll_after (before 13 (by decide) (by decide)) begun
  · exact tells_after (before 2 (by decide) (by decide)) (grantCrank_lost (by rw [cutArb]; exact holder) (by rw [cutArb]; exact unreleased))
  · exact keepsLists_trans (keepsLists_mono (by decide) ended)
      (keepsLists_trans (keepsLists_mono (by decide) cut) (keepsLists_mono (by decide) (granted _ _ _ _)))
  · rw [safeAfter, group]
  · rw [safeAfter, (kept (by rw [safe]; exact other)).1, safe]
  · obtain ⟨wind, alarm, told⟩ := raised (by rw [safe]; exact lowering)
    rw [safeAfter]
    refine ⟨wind, alarm, fun silent => ?_⟩
    have placed := told (by rw [safe]; exact silent)
    rw [arb, pose, settings, safe] at placed
    exact tellsAll_same (tellsAll_after (sameNotices_of_keeps ended (show 12 ∉ [7] by decide)) placed)
      (sameNotices_of_keeps (granted _ _ _ _) (show 12 ∉ [2, 13] by decide))

theorem takeBoundary_granted (ending : Ending) (manual : s.arb.auth = .manual) (holder : s.arb.holder = none) :
    takeBoundary ending s = s := by
  unfold takeBoundary
  rw [manual, holder]

/-- The ending of an entry abandoned for the crank changes nothing more but that it is reported (R62, R81). -/
theorem advance_abandoned (h : activeIs x e rest s) : Abandoned e rest.length s (advance (abandonForCrank s)) := by
  have made := abandonForCrank_abandoned h
  obtain ⟨a, a_eq⟩ : ∃ a, a = abandonForCrank s := ⟨_, rfl⟩
  have exe : a.exe = { goneExe e [] s with closing := some (abandonClosing e rest.length) } := by
    rw [a_eq, abandonForCrank_eq h]
    simp [abandoned]
  rw [← a_eq] at made ⊢
  have closing : a.exe.closing = some (abandonClosing e rest.length) := by rw [exe]
  have queue : a.exe.queue = [] := by rw [exe]; rfl
  by_cases rested : restedOn e.motion.axes a
  · obtain ⟨-, scan, arb, begun, lost, lists, group, kept, raised⟩ := made
    rw [advance_closing closing rfl queue rested,
      takeBoundary_granted _ (by rw [State.setExe_arb, arb]; rfl) (by rw [State.setExe_arb, arb]; rfl)]
    exact ⟨⟨none, by rw [exe]; rfl⟩, scan, arb, begun, lost, lists, group, kept, raised⟩
  · rw [advance_waits closing rested]
    exact made

/-! ### The line asserted -/

theorem takeManualRequest_grants
    (ready : s.arb.auth = .free ∨ s.arb.auth = .held ∨ s.arb.auth = .lockout
      ∨ ((s.arb.auth = .moving ∨ s.arb.auth = .yielding) ∧ s.arb.deferred.isSome = true)) :
    takeManualRequest s = grantCrank 0 0 0 0 s := by
  unfold takeManualRequest
  rcases ready with auth | auth | auth | ⟨auth | auth, deferred⟩ <;> rw [auth]
  · exact if_pos deferred
  · exact if_pos deferred

theorem takeManualRequest_works (auth : s.arb.auth = .moving ∨ s.arb.auth = .yielding) (deferred : s.arb.deferred = none) :
    takeManualRequest s = if isSuspended s then advance (abandonForCrank s) else manualDue s := by
  unfold takeManualRequest
  rcases auth with auth | auth <;> rw [auth, deferred] <;> rfl

theorem manualReqAsserted_rises (on : s.powered = true) (negated : s.safe.manualReq = false) :
    exec .manualReqAsserted s = .next (takeManualRequest (setManualReq true s)) :=
  (exec_of_powered (f := fun s => if s.safe.manualReq then s else takeManualRequest (setManualReq true s)) rfl on).trans
    (congrArg _ (if_neg (by simp [negated])))

theorem isSuspended_iff (active : s.exe.active = some x) : isSuspended s = true ↔ x.execution = .suspended := by
  unfold isSuspended
  rw [active]
  simp

theorem isRunning_iff (active : s.exe.active = some x) : isRunning s = true ↔ x.execution = .running := by
  unfold isRunning
  rw [active]
  simp

/-- The crank becomes due at the boundary of what is left of the queue (R81). -/
theorem manualDue_eq {kept : List Entry} {n : Nat} {marked : Option Active} (keeps : keptByDiscard s = kept)
    (count : discardCount s = n) (mark : s.exe.active.map (fun x => { x with crankDue := true }) = marked) :
    manualDue s =
      placeAuthority s.arb.holder .yieldDue (some .manual) 0 n
        ((s.setArb { s.arb with auth := .manualPending }).setExe { s.exe with queue := kept, active := marked }) := by
  subst keeps count mark
  rfl

/-- What a command leaves that has an entry abandoned for the crank, seen from before a suspension that it may have brought. -/
theorem abandoned_before {n : Nat} (made : Abandoned e n w t) (arb : w.arb = s.arb) (pose : w.pose = s.pose)
    (settings : w.settings = s.settings) (scan : w.scan = s.scan) (safe : w.safe.group = s.safe.group
      ∧ w.safe.alarmPark = s.safe.alarmPark ∧ w.safe.alarmWind = s.safe.alarmWind ∧ w.safe.alarm = s.safe.alarm)
    (drives : stopsOnly e.motion.axes s w ∨ w.exe = s.exe) (lists : keepsLists [14] s w) (entry : activeEntry s = some e)
    (entryNow : activeEntry w = some e) :
    t.exe.queue = [] ∧ t.exe.active = none ∧ t.exe.suspension = none ∧ stopsOnly e.motion.axes s t ∧ scanEnds .endedManual s t
      ∧ t.arb = crankGranted s ∧ tellsAll (.manualBegun s.arb.auth s.arb.holder e.tag n) s t
      ∧ (∀ q : Port, s.arb.holder = some (.port q) → s.arb.releaseMark = false →
          tells q (.authority .lost (some .manual) e.tag n) s t)
      ∧ t.safe.group = none ∧ sameBesides [2, 7, 12, 13, 14] s t
      ∧ (s.safe.group ≠ some .windLowering → t.safe.alarmWind = s.safe.alarmWind)
      ∧ (s.safe.group = some .windLowering →
          t.safe.alarmWind = true ∧ t.safe.alarm = true
            ∧ (s.safe.alarm = false →
                tellsAll (.condition .alarm s.arb.reasons s.pose.latch s.safe.alarmPark true s.settings.defaulted) s t)) := by
  obtain ⟨⟨closing, exe⟩, scanNow, arbNow, begun, lost, listsNow, group, kept, raised⟩ := made
  obtain ⟨groupSame, park, wind, alarm⟩ := safe
  rw [arb] at begun lost
  rw [groupSame, wind] at kept
  rw [groupSame, alarm, arb, pose, park, settings] at raised
  have same (k : Nat) (other : k ∉ [14]) : sameNotices k s w := sameNotices_of_keeps lists other
  refine ⟨by rw [exe]; rfl, by rw [exe]; rfl, by rw [exe]; rfl, fun a => ?_, finishScan_scanEnds entry ?_,
    arbNow.trans (crankGranted_of_arb arb), tellsAll_after (same 13 (by decide)) begun,
    fun q holder unreleased => tells_after (same 2 (by decide)) (lost q holder unreleased), group,
    sameBesides_of_keeps (keepsLists_trans (keepsLists_mono (by decide) lists) (keepsLists_mono (by decide) listsNow)), kept,
    fun lowering => ?_⟩
  · have stopped : t.exe.drives.get a = if e.motion.axes.get a = true then (w.exe.drives.get a).stop else w.exe.drives.get a := by
      rw [exe]
      exact stopAxes_get e.motion.axes w a
    rw [stopped]
    rcases drives with stops | same
    · rw [stops a]
      by_cases driven : e.motion.axes.get a = true
      · simp only [driven, if_true]
        rfl
      · simp only [driven]
        rfl
    · rw [same]
  · rw [scanNow]
    unfold finishScan
    rw [entry, entryNow, scan]
    cases s.scan.scan <;> cases s.scan.result <;> simp [scan]
  · obtain ⟨windOn, alarmOn, told⟩ := raised lowering
    exact ⟨windOn, alarmOn, fun silent => tellsAll_after (same 12 (by decide)) (told silent)⟩

/-- Settles O28: the crank is granted where nothing moves, waits for the boundary of a running entry, and is granted at once over a
suspended one, which is abandoned. -/
theorem crankIsGranted : Obligations.CrankIsGranted := by
  refine ⟨fun s on negated => ⟨fun ready => ?_, fun manual => ?_⟩, fun s v on negated auth deferred v_eq => ?_,
    fun c h x e rest s on active holder deferred comes => ?_⟩
  · obtain ⟨u, u_eq⟩ : ∃ u, u = setManualReq true s := ⟨_, rfl⟩
    have arb : u.arb = s.arb := by rw [u_eq]; rfl
    have ports : u.ports = s.ports := by rw [u_eq]; rfl
    have grants : exec .manualReqAsserted s = .next (grantCrank 0 0 0 0 u) := by
      rw [manualReqAsserted_rises on negated, ← u_eq]
      exact congrArg _ (takeManualRequest_grants (by rw [arb]; exact ready))
    have begun := grantCrank_begun 0 0 0 0 u
    have only := grantCrank_onlyOutputs 0 0 0 0 u
    rw [crankGranted_of_arb arb] at only
    rw [arb] at begun only
    refine ⟨_, grants, ?_, tellsAll_of_ports ports.symm rfl begun, fun p holder unreleased => ?_⟩
    · rw [u_eq] at only ⊢
      exact only
    · exact tells_of_port (by rw [ports]) rfl (grantCrank_lost (by rw [arb]; exact holder) (by rw [arb]; exact unreleased))
  · rw [manualReqAsserted_rises on negated]
    unfold takeManualRequest
    rw [show (setManualReq true s).arb.auth = .manual from manual]
    rfl
  · have works := takeManualRequest_works (s := setManualReq true s) auth deferred
    rw [manualReqAsserted_rises on negated, works]
    refine ⟨fun x e rest active running => ?_, fun active => ?_⟩
    · obtain ⟨held, closing, queue⟩ := active
      have runs : ¬isSuspended (setManualReq true s) = true := fun suspended =>
        absurd (running.symm.trans ((isSuspended_iff (s := setManualReq true s) held).mp suspended)) (by decide)
      obtain ⟨keeps, count⟩ := discard_active (s := setManualReq true s) held queue
      rw [if_neg runs, manualDue_eq (marked := some { x with crankDue := true }) keeps count
        (by rw [show (setManualReq true s).exe.active = some x from held]; rfl)]
      subst v_eq
      refine ⟨fun q holder => ?_, fun holder => ?_⟩ <;> rw [show (setManualReq true s).arb.holder = _ from holder] <;> rfl
    · have idle : ¬isSuspended (setManualReq true s) = true := by
        unfold isSuspended
        rw [show (setManualReq true s).exe.active = none from active]
        decide
      obtain ⟨keeps, count⟩ := discard_idle (s := setManualReq true s) active
      rw [if_neg idle, manualDue_eq (marked := s.exe.active) keeps count
        (by rw [show (setManualReq true s).exe.active = none from active, active]; rfl)]
      subst v_eq
      refine ⟨fun q holder => ?_, fun holder => ?_⟩ <;> rw [show (setManualReq true s).arb.holder = _ from holder] <;> rfl
  · have entry := activeEntry_of_activeIs active
    rcases comes with ⟨rfl, negated, suspended, auth⟩ | ⟨rfl, supplied, running, auth⟩
    · have made := takeManualRequest_works (s := setManualReq true s) auth deferred
      rw [if_pos ((isSuspended_iff (s := setManualReq true s) active.1).mpr suspended)] at made
      have taken := advance_abandoned (s := setManualReq true s) (x := x) (e := e) (rest := rest) active
      refine ⟨_, (manualReqAsserted_rises on negated).trans (congrArg _ made), ?_⟩
      have result := abandoned_before taken (s := s) rfl rfl rfl rfl ⟨rfl, rfl, rfl, rfl⟩ (Or.inr rfl)
        (keepsLists_of_ports rfl) entry entry
      rw [holder] at result
      simpa only [Option.some.injEq] using result
    · obtain ⟨lost, lost_eq⟩ : ∃ u, u = setSupply false .absent false s := ⟨_, rfl⟩
      have activeLost : activeIs x e rest lost := by rw [lost_eq]; exact active
      have entryLost := activeEntry_of_activeIs activeLost
      have made : exec .supplyOkNegated s = .next (advance (abandonForCrank (suspendActive lost))) := by
        refine (exec_of_powered rfl on).trans (congrArg _ ((if_pos supplied).trans ?_))
        unfold takeSupplyLoss
        rw [← lost_eq]
        have pending : lost.arb.auth = .manualPending := by rw [lost_eq]; exact auth
        refine (if_pos ((isRunning_iff activeLost.1).mpr running)).trans (congrArg advance ?_)
        exact if_pos pending
      have exe := suspendActive_exe entryLost
      have activeNow : activeIs { x with execution := .suspended, phases := Axes.all .idle } e rest (suspendActive lost) := by
        obtain ⟨held, closing, queue⟩ := activeLost
        unfold activeIs
        rw [exe]
        refine ⟨?_, closing, queue⟩
        unfold suspendedExe
        rw [held]
        rfl
      refine ⟨_, made, ?_⟩
      have result := abandoned_before (advance_abandoned activeNow) (s := s) (by simp [lost_eq, setSupply]) (by simp [lost_eq, setSupply])
        (by simp [lost_eq, setSupply]) (by simp [lost_eq, setSupply]) (by simp [lost_eq, setSupply])
        (Or.inl fun a => by rw [exe, lost_eq]; exact stopAxes_get e.motion.axes s a)
        (keepsLists_before (by rw [lost_eq]; rfl) (suspendActive_keeps lost (by decide))) entry (activeEntry_of_activeIs activeNow)
      rw [holder] at result
      simpa only [Option.some.injEq] using result

end Sys2Proof.Machine
end

section
/-! Readings that nothing moves at, and the handovers that wait for them (R4, R29, R33, R34, R37, R41, R100). -/

namespace Sys2Proof.Machine

variable {s t u v : State} {p q : Port} {r : Reading} {d : Deferral}

/-! ### A reading taken -/

theorem setAlarmCauses_like (park wind : Bool) (s : State) : Like s (setAlarmCauses park wind s) := by
  have kept : keepsLists [12] s (setAlarmCauses park wind s) := setAlarmCauses_keeps park wind s (by decide)
  refine ⟨by simp, ⟨by simp, by simp, by simp, by simp, by simp, by simp, ?_⟩, fun k other => ?_, setAlarmCauses_masked park wind s⟩
  · exact sensed_of (by simp) (by simp) (by simp) (by simp) (by simp) (by simp) (by simp) (by simp) (by simp) (by simp)
  · refine sameNotices_of_keeps kept fun listed => other ?_
    rw [List.mem_singleton.mp listed]
    decide

/-- What a reading does to the alarm is nothing that a boundary looks at (R100). -/
theorem takeReading_like (r : Reading) (s : State) : Like (recordReading r s) (takeReading r s) := setAlarmCauses_like _ _ _

theorem takeReading_keeps (r : Reading) (s : State) : keepsLists [12] s (takeReading r s) := fun p =>
  setAlarmCauses_keeps (kinds := [12]) _ _ (recordReading r s) (by decide) p

theorem takeReading_work (r : Reading) (s : State) :
    (takeReading r s).arb = s.arb ∧ (takeReading r s).exe = s.exe ∧ (takeReading r s).scan = s.scan
      ∧ (takeReading r s).cache = s.cache ∧ (takeReading r s).pose = (recordReading r s).pose
      ∧ (takeReading r s).settings = s.settings ∧ (takeReading r s).safe.group = s.safe.group
      ∧ (takeReading r s).store = s.store ∧ (takeReading r s).heading = s.heading
      ∧ (takeReading r s).safe.park = s.safe.park ∧ (takeReading r s).safe.estop = s.safe.estop := by
  simp [takeReading, recordReading, alarmAfterReading]

theorem followActive_idle (active : s.exe.active = none) : followActive s = s := by
  unfold followActive isRunning
  rw [active]
  rfl

/-- A reading that nothing moves at makes what waits for it (R34, R62, R85). -/
theorem poseReading_idle (on : s.powered = true) (active : s.exe.active = none) :
    exec (.poseReading r) s = .next (settleAll (takeReading r s)) := by
  refine (exec_of_powered (f := fun s => settleAll (followActive (takeReading r s))) rfl on).trans ?_
  obtain ⟨-, exe, -⟩ := takeReading_work r s
  rw [followActive_idle (by rw [exe]; exact active)]

/-! ### Handovers made -/

theorem makeHandover_outside (d : Deferral) (s : State) : Outside s (makeHandover d s) :=
  ⟨by simp, by simp, by simp, by simp, by simp, by simp, by simp⟩

/-- A deferred handover is made once every axis is at rest (R34). -/
theorem settleAll_deferred (deferred : s.arb.deferred = some d) (uncranked : s.arb.crankEnd = none)
    (closing : s.exe.closing = none) (rested : atRest s) : settleAll s = makeHandover d s := by
  have made : handoverCheck s = makeHandover d s := by
    unfold handoverCheck
    rw [deferred]
    exact if_pos (confirm_iff.mpr rested)
  unfold settleAll
  rw [advance_still closing, made, crankCheck_uncranked (makeHandover_uncranked d uncranked)]

/-- A handover from a port in HELD to the highest claim (R24, R29, R37). -/
theorem makeHandover_held {others : List Port} {why : AuthReason} (holder : s.arb.holder = some (.port p))
    (claims : s.arb.claims = q :: others) (differs : p ≠ q)
    (due : (d = .preempt ∧ why = .preempted ∧ outranks q (.port p) = true) ∨ (d = .release ∧ why = .released)
      ∨ (d = .idle ∧ why = .idle)) :
    (makeHandover d s).arb = heldBy q s ∧ tells q (.authority .granted (some why) 0 0) s (makeHandover d s)
      ∧ tells p (.authority .lost (some why) 0 0) s (makeHandover d s) := by
  have made : makeHandover d s = placeAlways q (.authority .granted (some why) 0 0)
      ((placeAlways p (.authority .lost (some why) 0 0) s).setArb (heldBy q s)) := by
    have passes (why : AuthReason) : passOn why (placeAuthority (some (.port p)) .lost (some why) 0 0 s) =
        placeAlways q (.authority .granted (some why) 0 0)
          ((placeAlways p (.authority .lost (some why) 0 0) s).setArb (heldBy q s)) := by
      unfold passOn
      rw [show (placeAuthority (some (.port p)) .lost (some why) 0 0 s).arb.claims = q :: others from claims]
      rfl
    unfold makeHandover
    rw [holder]
    rcases due with ⟨rfl, rfl, above⟩ | ⟨rfl, rfl⟩ | ⟨rfl, rfl⟩
    · dsimp only
      rw [claims]
      exact if_pos above
    · exact passes .released
    · exact passes .idle
  rw [made]
  exact ⟨rfl, placed_tells (placeAlways_other p q _ s differs.symm), placed_tells_first differs rfl rfl⟩

theorem makeHandover_givenBack (empty : s.arb.reasons = Reasons.empty) (rested : atRest s) :
    GivenBack s (makeHandover .safetyEnd s) := by
  have given := handOn_givenBack empty
  unfold handOn at given
  rwa [mustWait_false (Or.inr rested)] at given

/-! ### The idle timer -/

theorem expireIdle_held {limit : Int} (held : s.arb.auth = .held) (idle : s.arb.idle = some limit) :
    expireIdle s = if limit = 0 then s else handOn .idle s := by
  unfold expireIdle
  rw [held, idle]

theorem expireIdle_stopped (stopped : s.arb.auth ≠ .held ∨ s.arb.idle = none) : expireIdle s = s := by
  unfold expireIdle
  split
  · next held idle =>
    rcases stopped with other | none_
    · exact absurd held other
    · exact absurd (none_.symm.trans idle) (by simp)
  · rfl

theorem handOn_idle_made (holder : s.arb.holder = some (.port p)) (ready : s.arb.claims = [] ∨ atRest s) :
    handOn .idle s = passOn .idle (placeAlways p (.authority .lost (some .idle) 0 0) s) := by
  unfold handOn
  rw [mustWait_false ready]
  refine (if_neg (by simp)).trans ?_
  unfold makeHandover
  rw [holder]
  rfl

/-- Settles O15: the idle timer hands authority on at once or at rest, and a reading that shows every axis at rest makes a deferred
handover. -/
theorem idleExpiryAndDeferral : Obligations.IdleExpiryAndDeferral := by
  refine ⟨fun p limit s on holder idle held => ?_, fun s on stopped => ?_,
    fun d r s u on u_eq deferred uncranked active closing rested => ?_⟩
  · have expires := (exec_of_powered (c := .idleTimerExpiry) (f := expireIdle) rfl on).trans
      (congrArg _ (expireIdle_held held idle))
    rw [expires]
    refine ⟨fun runs => ?_, fun never => congrArg _ (if_pos never)⟩
    rw [if_neg runs]
    refine ⟨fun claims => ?_, fun q others claims rested => ?_, fun claims moves => ?_⟩
    · rw [handOn_idle_made holder (Or.inl claims)]
      unfold passOn
      rw [show (placeAlways p (.authority .lost (some .idle) 0 0) s).arb.claims = [] from claims]
      rfl
    · rw [handOn_idle_made holder (Or.inr rested)]
      unfold passOn
      rw [show (placeAlways p (.authority .lost (some .idle) 0 0) s).arb.claims = q :: others from claims]
      rfl
    · unfold handOn
      rw [mustWait_iff.mpr ⟨claims, moves⟩]
      rfl
  · exact (exec_of_powered (f := expireIdle) rfl on).trans (congrArg _ (expireIdle_stopped stopped))
  · obtain ⟨v, v_eq⟩ : ∃ v, v = takeReading r s := ⟨_, rfl⟩
    obtain ⟨arb, exe, -, -, pose, settings, -⟩ := takeReading_work r s
    have like : Like u v := by
      rw [u_eq, v_eq]
      exact takeReading_like r s
    have kept : keepsLists [12] s v := by
      rw [v_eq]
      exact takeReading_keeps r s
    rw [← v_eq] at arb exe pose settings
    have restedNow : atRest v := (atRest_of_pose like.outside.pose).mpr rested
    have made : settleAll v = makeHandover d v :=
      settleAll_deferred (by rw [arb]; exact deferred) (by rw [arb]; exact uncranked) (by rw [exe]; exact closing) restedNow
    have same : sameNotices 2 s v := sameNotices_of_keeps kept (by decide)
    refine ⟨makeHandover d v, ?_, (makeHandover_exe d (by rw [exe]; exact closing)).trans exe,
      outside_trans like.outside (makeHandover_outside d v),
      sameBesides_of_keeps (keepsLists_trans (keepsLists_mono (by decide) kept)
        (makeHandover_keeps d v (by decide) (by decide))), fun p q others why held holder claims differs due => ?_,
      fun p yields yielding holder => ?_, fun ends moving holder empty => ?_⟩
    · rw [poseReading_idle on active, ← v_eq, made]
    · obtain ⟨given, granted, lost⟩ := makeHandover_held (s := v) (by rw [arb]; exact holder) (by rw [arb]; exact claims) differs due
      exact ⟨given.trans (heldBy_of_arb arb settings q), tells_after same granted, tells_after same lost⟩
    · rw [yields]
      exact yieldMade_before like (yieldOutcome_made (by rw [arb]; exact holder))
    · rw [ends]
      exact givenBack_before like.arb like.outside.pose like.outside.settings (like_same like (by decide))
        (makeHandover_givenBack (by rw [arb]; exact empty) restedNow)

end Sys2Proof.Machine
end

section
/-! The ends of scans, and what a scan's move does to its axes (R56, R126 to R128, R147, R152, R154, R155). -/

namespace Sys2Proof.Machine

variable {s t u v : State} {e : Entry} {rest : List Entry} {x : Active} {z : Scan} {r : ScanResult} {why : EndReason}
  {learned : Bool} {beside : List Nat}

/-! ### The result of a scan that ends -/

/-- A result completed (R154). -/
def ScanResult.ended (r : ScanResult) (why : EndReason) (learned : Bool) : ScanResult :=
  { r with endReason := some why, learned := learned }

theorem finishScan_eq (scan : s.scan.scan = some z) (result : s.scan.result = some r) (entry : activeEntry s = some e) :
    finishScan why learned s =
      placeOrigin e.origin (.scanEnd (r.ended why learned))
        (s.setScan { s.scan with scan := none, result := some (r.ended why learned) }) := by
  unfold finishScan
  rw [scan, result, entry]
  rfl

/-- The active SCAN entry, the last of the queue, ends its scan and completes (R57, R69, R154, R155). -/
theorem scanEnded_of (ready : Completable e s v) (active : v.exe.active.isSome = true) (queue : v.exe.queue = [e])
    (scan : v.scan.scan = some z) (result : v.scan.result = some r) (report : v.scan.report = s.scan.report)
    (notices : sameNotices 7 s v) (lists : keepsLists ([2, 3, 4, 7, 12, 13] ++ beside) s v) :
    ScanDone beside e (r.ended why learned) s (advance (completeActive (finishScan why learned v)))
      ∧ (advance (completeActive (finishScan why learned v))).cache = v.cache := by
  obtain ⟨w, w_eq⟩ : ∃ w, w = finishScan why learned v := ⟨_, rfl⟩
  have made := finishScan_eq (why := why) (learned := learned) scan result (activeEntry_of active queue)
  rw [← w_eq] at made
  have placed : keepsLists [7] v w := by
    rw [w_eq]
    exact finishScan_keeps why learned v (by decide)
  have exe : w.exe = v.exe := by rw [w_eq]; simp
  have like : Like v w := by
    refine like_of_placed (kinds := [7]) (by rw [w_eq]; simp) ?_ placed (by decide) (by decide)
    rw [w_eq]
    exact ⟨by simp, by simp, by simp, by simp, by simp, by simp, by simp⟩
  have readyNow : Completable e s w := by
    obtain ⟨before, group, kept, drives, four⟩ := ready
    refine ⟨like_trans before like, ?_, by rw [exe]; exact kept, by rw [exe]; exact drives,
      sameNotices_trans four (sameNotices_of_keeps placed (by decide))⟩
    rw [w_eq]
    simp [group]
  have activeNow : w.exe.active.isSome = true := by rw [exe]; exact active
  have queueNow : w.exe.queue = [e] := by rw [exe]; exact queue
  obtain ⟨scanKept, cacheKept⟩ := advance_complete_rest activeNow queueNow
  have later : keepsLists [2, 3, 4, 12, 13] w (advance (completeActive w)) :=
    advance_complete_keeps activeNow queueNow (by decide) (by decide) (by decide) (by decide) (by decide)
  rw [← w_eq]
  refine ⟨⟨entryDone_of readyNow activeNow queueNow, ?_, fun p owner => ?_, ?_⟩, ?_⟩
  · rw [scanKept, made]
    simp [report]
  · rw [owner] at made
    have told : tellsIf p (.scanEnd (r.ended why learned)) v w := by
      rw [made]
      exact tellsIf_of_port (s := v.setScan { v.scan with scan := none, result := some (r.ended why learned) }) rfl rfl
        (placeOn_tells p (.scanEnd (r.ended why learned)) _)
    exact tellsIf_same (tellsIf_after notices told) (sameNotices_of_keeps later (show 7 ∉ [2, 3, 4, 12, 13] by decide))
  · exact sameBesides_of_keeps (keepsLists_trans lists (keepsLists_trans (keepsLists_mono (by simp) placed)
      (keepsLists_mono (fun k listed => List.mem_append_left _ (by revert k; decide)) later)))
  · rw [cacheKept, w_eq]
    simp

/-! ### Learning -/

theorem committedSite_learn {slot : Nat} :
    (s.store.committedSite slot).any (fun f => f.learn == 0x01) = true ↔
      s.store.engine.erasing = false ∧ (s.store.slotAt slot).state = .committed
        ∧ ∃ k, (s.store.slotAt slot).contents = some k ∧ k.site.learn = 0x01 := by
  unfold Store.committedSite
  by_cases usable : s.store.engine.erasing = false ∧ (s.store.slotAt slot).state = .committed
  · rw [if_pos usable]
    obtain ⟨erasing, state⟩ := usable
    cases contents : (s.store.slotAt slot).contents <;> simp [erasing, state]
  · rw [if_neg usable]
    refine ⟨fun h => absurd h (by simp), fun ⟨erasing, state, _⟩ => absurd ⟨erasing, state⟩ usable⟩

/-- The cache takes a solution exactly where the scan solves it (R127, R128). -/
theorem learnedOf_iff {c : CacheEntry} : learnedOf r.slot r.bestLevel r.bestPose s = some c ↔ Solves r c s := by
  have kept : learnedOf r.slot r.bestLevel r.bestPose s = some c ↔
      solutionOf r.slot r.bestLevel r.bestPose s = some c ∧ mayLearn c.slot s = true := by
    unfold learnedOf
    rw [Option.filter_eq_some_iff]
  have may : mayLearn c.slot s = true ↔
      s.safe.park = true ∧ s.store.engine.erasing = false ∧ (s.store.slotAt c.slot).state = .committed
        ∧ ∃ k, (s.store.slotAt c.slot).contents = some k ∧ k.site.learn = 0x01 := by
    unfold mayLearn
    rw [Bool.and_eq_true, committedSite_learn]
  rw [kept, may]
  constructor
  · rintro ⟨solved, park, site⟩
    unfold solutionOf at solved
    split at solved
    · next n level best heading slot bestLevel bestPose known =>
      split at solved
      · next reached =>
        cases solved
        exact ⟨slot, ⟨bestLevel, reached⟩, ⟨best, heading, bestPose, known, rfl, rfl⟩, ⟨rfl, rfl⟩, park, site⟩
      · cases solved
    · cases solved
  · rintro ⟨slot, ⟨bestLevel, reached⟩, ⟨best, heading, bestPose, known, bearing, elevation⟩, ⟨polarisation, height⟩, park, site⟩
    refine ⟨?_, park, site⟩
    unfold solutionOf
    rw [slot, bestLevel, bestPose, known]
    refine (if_pos reached).trans (congrArg some ?_)
    obtain ⟨n, b, el, pol, ht, pk⟩ := c
    simp only at bearing elevation polarisation height
    subst bearing elevation polarisation height
    rfl

theorem solves_of_outside {c : CacheEntry} (h : Outside s t) : Solves r c t ↔ Solves r c s := by
  obtain ⟨-, -, pose, store, heading, settings, sensed⟩ := h
  have park : t.safe.park = s.safe.park := by rw [sensed]
  constructor
  · rintro ⟨slot, level, best, mechanism, parked, site⟩
    rw [settings] at level
    rw [heading] at best
    rw [pose] at mechanism
    rw [park] at parked
    rw [store] at site
    exact ⟨slot, level, best, mechanism, parked, site⟩
  · rintro ⟨slot, level, best, mechanism, parked, site⟩
    rw [← settings] at level
    rw [← heading] at best
    rw [← pose] at mechanism
    rw [← park] at parked
    rw [← store] at site
    exact ⟨slot, level, best, mechanism, parked, site⟩

theorem cache_learn_eq (c : Cache) (solution : CacheEntry) (sample : Level) :
    c.learn solution sample =
      { entries := solution :: (c.entries.filter (fun x => x.slot != solution.slot)).take 11
        reference := if c.entries = [] then some sample else c.reference } := rfl

/-- The active SCAN entry, the last of the queue, ends COMPLETE, and what it solves is learned (R126 to R128, R152). -/
theorem scanCompleted_of (ready : Completable e s v) (active : v.exe.active.isSome = true) (queue : v.exe.queue = [e])
    (scan : v.scan.scan = some z) (result : v.scan.result = some r) (report : v.scan.report = s.scan.report)
    (cache : v.cache = s.cache) (notices : sameNotices 7 s v) (lists : keepsLists ([2, 3, 4, 7, 12, 13] ++ beside) s v) :
    ∃ w, ScanDone beside e w s (advance (completeScan v)) ∧ EndsComplete r w s (advance (completeScan v)) := by
  have solves (c : CacheEntry) : learnedOf r.slot r.bestLevel r.bestPose v = some c ↔ Solves r c s :=
    learnedOf_iff.trans (solves_of_outside ready.like.outside)
  have pose : v.pose = s.pose := ready.like.outside.pose
  cases solution : learnedOf r.slot r.bestLevel r.bestPose v with
  | none =>
    have made : completeScan v = completeActive (finishScan .complete false v) := by
      unfold completeScan
      rw [result]
      dsimp only
      rw [solution]
    obtain ⟨done, cacheNow⟩ := scanEnded_of (why := .complete) (learned := false) ready active queue scan result report notices lists
    rw [made]
    refine ⟨_, done, fun c solved => ?_, fun _ => ⟨rfl, cacheNow.trans cache⟩⟩
    exact absurd (solution.symm.trans ((solves c).mpr solved)) (by simp)
  | some c =>
    obtain ⟨v', v'_eq⟩ : ∃ v', v' = v.setCache (v.cache.learn c v.pose.level) := ⟨_, rfl⟩
    have made : completeScan v = completeActive (finishScan .complete true v') := by
      unfold completeScan
      rw [result]
      dsimp only
      rw [solution, v'_eq]
    have readyNow : Completable e s v' := by
      obtain ⟨like, group, kept, drives, four⟩ := ready
      have same : Like v v' := like_of_same (by rw [v'_eq]; rfl) (by rw [v'_eq]; exact ⟨rfl, rfl, rfl, rfl, rfl, rfl, rfl⟩)
        (by rw [v'_eq]; rfl)
      refine ⟨like_trans like same, ?_, ?_, ?_, sameNotices_then v v' (by rw [v'_eq]; rfl) four⟩
      · rw [v'_eq]; exact group
      · rw [v'_eq]; exact kept
      · rw [v'_eq]; exact drives
    obtain ⟨done, cacheNow⟩ := scanEnded_of (why := .complete) (learned := true) (v := v') readyNow (by rw [v'_eq]; exact active)
      (by rw [v'_eq]; exact queue) (by rw [v'_eq]; exact scan) (by rw [v'_eq]; exact result) (by rw [v'_eq]; exact report)
      (sameNotices_then v v' (by rw [v'_eq]; rfl) notices) (keepsLists_then lists (by rw [v'_eq]; rfl))
    rw [made]
    refine ⟨_, done, fun c' solved => ⟨rfl, ?_⟩, fun unsolved => absurd ((solves c).mp solution) (unsolved c)⟩
    have same : c' = c := Option.some.inj (((solves c').mpr solved).symm.trans solution)
    rw [cacheNow, v'_eq, State.setCache_cache, cache_learn_eq, same, cache, pose]

end Sys2Proof.Machine
end

section
/-! Axes that follow their targets: the moves of entries and of scans after a reading (R3, R5, R56 to R58, R147, R152). -/

namespace Sys2Proof.Machine

variable {s t u v : State} {e : Entry} {rest : List Entry} {x y : Active} {z : Scan} {r : Reading} {a b : Axis} {target : Int}

/-! ### The axes of a move -/

theorem axes_of_axis (axis : e.motion.axis = some a) : e.motion.axes = onlyAxis a := by
  cases motion : e.motion with
  | moveTo b v =>
    rw [motion] at axis
    cases axis
    rfl
  | moveBy b v =>
    rw [motion] at axis
    cases axis
    rfl
  | scan q =>
    rw [motion] at axis
    cases axis

theorem onlyAxis_get (a b : Axis) : (onlyAxis a).get b = decide (b = a) := by cases a <;> cases b <;> rfl

theorem other_of_axis (axis : e.motion.axis = some a) (other : e.motion.axes.get b = false) : b ≠ a := by
  rw [axes_of_axis axis, onlyAxis_get] at other
  simpa using other

/-! ### One axis -/

/-- The state with one axis of the active entry in a phase and at a drive. -/
def movedOn (x : Active) (a : Axis) (phase : AxisPhase) (drive : Drive) (s : State) : State :=
  s.setExe { s.exe with active := some { x with phases := x.phases.set a phase }, drives := s.exe.drives.set a drive }

theorem movedOn_same (active : s.exe.active = some x) : movedOn x a (x.phases.get a) (s.exe.drives.get a) s = s := by
  unfold movedOn
  rw [axes_set_get, axes_set_get, ← active]
  rfl

theorem followAxis_eq (rate : Rate) (active : s.exe.active = some x) :
    followAxis a target rate s =
      movedOn x a (phaseAfter target a (x.phases.get a) s) (driveAfter target rate a (x.phases.get a) s) s := by
  have settles : settleAxis a s =
      movedOn x a .settling { s.exe.drives.get a with enable := !s.safe.estop, rate := .stop, brake := false } s := by
    unfold settleAxis
    rw [setPhase_active (x := x) _ (by exact active)]
    rfl
  have drives : driveAxis a target rate s = movedOn x a (.driving (s.pose.counts.get a)) (drivenToward target rate a s) s := by
    unfold driveAxis
    rw [setPhase_active (x := x) _ (by exact active)]
    rfl
  have stays := movedOn_same (a := a) active
  unfold followAxis phaseAfter driveAfter
  rw [active]
  dsimp only
  cases phase : x.phases.get a with
  | idle =>
    rw [phase] at stays
    exact stays.symm
  | driving w =>
    cases near : within a (s.pose.position.get a) target with
    | true => exact settles
    | false =>
      rw [phase] at stays
      exact stays.symm
  | settling =>
    cases near : within a (s.pose.position.get a) target with
    | true =>
      rw [phase] at stays
      exact stays.symm
    | false => exact drives

/-- An axis of a scan's move is driven, or left idle within tolerance (R147). -/
theorem driveScanAxis_eq (active : s.exe.active = some x) :
    driveScanAxis a target s = movedOn x a (scanPhase target a s) (scanDrive target a s) s := by
  unfold driveScanAxis scanPhase scanDrive
  split
  · rw [setPhase_active (x := x) _ (by exact active)]
    rfl
  · unfold driveAxis
    rw [setPhase_active (x := x) _ (by exact active)]
    rfl

/-! ### Pan and tilt of a scan -/

/-- The state with pan and tilt of the active scan in phases and at drives. -/
def scanOn (x : Active) (pan tilt : AxisPhase) (panDrive tiltDrive : Drive) (s : State) : State :=
  s.setExe
    { s.exe with
      active := some { x with phases := { x.phases with pan := pan, tilt := tilt } }
      drives := { s.exe.drives with pan := panDrive, tilt := tiltDrive } }

/-- The axes of a scan's move each follow their part of the target (R147). -/
theorem followAxes_eq (aim : PanTilt) (active : s.exe.active = some x) :
    followAxis .tilt aim.tilt .slow (followAxis .pan aim.pan .slow s) =
      scanOn x (phaseAfter aim.pan .pan x.phases.pan s) (phaseAfter aim.tilt .tilt x.phases.tilt s)
        (driveAfter aim.pan .slow .pan x.phases.pan s) (driveAfter aim.tilt .slow .tilt x.phases.tilt s) s := by
  rw [followAxis_eq .slow active, followAxis_eq .slow rfl]
  rfl

theorem driveScanAxes_eq (aim : PanTilt) (active : s.exe.active = some x) :
    driveScanAxis .tilt aim.tilt (driveScanAxis .pan aim.pan s) =
      scanOn x (scanPhase aim.pan .pan s) (scanPhase aim.tilt .tilt s) (scanDrive aim.pan .pan s) (scanDrive aim.tilt .tilt s) s := by
  rw [driveScanAxis_eq active, driveScanAxis_eq rfl]
  rfl

theorem scanArrived_iff (aim : PanTilt) (s : State) : scanArrived aim s = true ↔ scanStands aim s := by
  unfold scanArrived arrived scanStands
  simp only [Bool.and_eq_true, and_assoc]
  rfl

theorem scanStands_of_pose {aim : PanTilt} (pose : t.pose = s.pose) : scanStands aim t ↔ scanStands aim s := by
  unfold scanStands
  rw [pose]

/-- The axes of a scan's move are stopped (R147). -/
def scanStopped (x : Active) (s : State) : State :=
  s.setExe
    { s.exe with
      active := some { x with phases := Axes.all .idle }
      drives := { s.exe.drives with pan := s.exe.drives.pan.stop, tilt := s.exe.drives.tilt.stop } }

theorem stepArrived_eq (x : Active) (z : Scan) (s : State) : stepArrived x z s = (scanStopped x s).setScan (dwellBegun z s) := rfl

theorem beginDwell_eq (scan : s.scan.scan = some z) : beginDwell s = s.setScan (dwellBegun z s) := by
  unfold beginDwell dwellBegun
  rw [scan]
  rfl

/-- A scan's move whose axes stand is stopped, whatever drove it (R147, R152). -/
theorem arriveScan_eq {pan tilt : AxisPhase} {panDrive tiltDrive : Drive} (scan : s.scan.scan = some z)
    (panStops : panDrive.stop = s.exe.drives.pan.stop) (tiltStops : tiltDrive.stop = s.exe.drives.tilt.stop) :
    (z.phase = .stepMove → arriveScan (scanOn x pan tilt panDrive tiltDrive s) = stepArrived x z s)
      ∧ (z.phase = .finalMove → arriveScan (scanOn x pan tilt panDrive tiltDrive s) = completeScan (scanStopped x s)) := by
  have stopped : updateActive (fun y => { y with phases := Axes.all .idle })
      (stopAxes panAndTilt (scanOn x pan tilt panDrive tiltDrive s)) = scanStopped x s := by
    unfold scanStopped
    rw [← panStops, ← tiltStops]
    rfl
  unfold arriveScan
  rw [show (scanOn x pan tilt panDrive tiltDrive s).scan.scan = some z from scan]
  dsimp only
  rw [stopped]
  refine ⟨fun phase => ?_, fun phase => ?_⟩
  · rw [phase, stepArrived_eq]
    exact beginDwell_eq scan
  · rw [phase]

theorem driveAfter_stop {aim : Int} {rate : Rate} {phase : AxisPhase} (near : within a (s.pose.position.get a) aim = true) :
    (driveAfter aim rate a phase s).stop = (s.exe.drives.get a).stop := by
  unfold driveAfter
  rw [near]
  cases phase <;> rfl

theorem scanDrive_stop {aim : Int} (near : within a (s.pose.position.get a) aim = true) :
    (scanDrive aim a s).stop = (s.exe.drives.get a).stop := by
  unfold scanDrive
  rw [if_pos near]
  rfl

/-! ### What the words of a reading look at -/

theorem phaseAfter_of_pose {phase : AxisPhase} (pose : t.pose = s.pose) : phaseAfter target a phase t = phaseAfter target a phase s := by
  unfold phaseAfter
  rw [pose]

theorem drivenToward_of {rate : Rate} (pose : t.pose = s.pose) (estop : t.safe.estop = s.safe.estop) :
    drivenToward target rate a t = drivenToward target rate a s := by
  unfold drivenToward
  rw [pose, estop]

theorem driveAfter_of {rate : Rate} {phase : AxisPhase} (pose : t.pose = s.pose) (exe : t.exe = s.exe)
    (estop : t.safe.estop = s.safe.estop) : driveAfter target rate a phase t = driveAfter target rate a phase s := by
  unfold driveAfter
  rw [drivenToward_of pose estop, pose, exe, estop]

/-! ### A reading that leaves the entry running -/

theorem leaves_setExe (h : leaves u s v) (exe : Executor) : leaves (u.setExe exe) s (v.setExe exe) := by
  obtain ⟨only, told⟩ := h
  exact ⟨onlyOutputs_setExe only exe, fun changed => tellsAll_of_ports rfl rfl (told changed)⟩

theorem leaves_setScan (h : leaves u s v) (scan : ScanEngine) : leaves (u.setScan scan) s (v.setScan scan) := by
  obtain ⟨only, told⟩ := h
  exact ⟨onlyOutputs_setScan only scan, fun changed => tellsAll_of_ports rfl rfl (told changed)⟩

theorem takeReading_eq (r : Reading) (s : State) :
    takeReading r s =
      setAlarmCauses (s.safe.alarmPark && !lampOf (positionsOf r.counts))
        (s.safe.alarmWind && decide (3000 < (positionsOf r.counts).mast)) (recordReading r s) := by
  have low : (!decide ((positionsOf r.counts).mast ≤ 3000)) = decide (3000 < (positionsOf r.counts).mast) := by
    rw [← decide_not]
    exact decide_eq_decide.mpr Int.not_le
  rw [← low]
  rfl

/-- A reading leaves the pose as read, with the alarm that follows it (R4, R19, R100). -/
theorem takeReading_leaves (r : Reading) (s : State) : leaves (readingTaken r s) s (takeReading r s) := by
  rw [takeReading_eq]
  exact setAlarmCauses_leaves (s := s) (t := recordReading r s) _ _ rfl rfl rfl rfl rfl

end Sys2Proof.Machine
end

section
/-! Readings: what arrives, what goes on, and what a reading leaves running (R4, R5, R19, R31, R56, R57, R67, R147, R152). -/

namespace Sys2Proof.Machine

variable {s t u v : State} {e : Entry} {rest : List Entry} {x : Active} {z : Scan} {r : Reading} {a : Axis} {target : Int}

/-! ### Passes and the pose -/

theorem envelope_of_outside (h : Outside s t) (axis : Option Axis) (target : Int) : envelope t axis target = envelope s axis target := by
  obtain ⟨-, -, pose, -, -, settings, sensed⟩ := h
  have class_ : t.safe.windClass = s.safe.windClass := by rw [sensed]
  unfold envelope mastVerdict clearanceVerdict windCeiling
  rw [pose, settings, class_]

theorem passes_of_outside (h : Outside s t) (sound : passes e a target s) : passes e a target t := by
  obtain ⟨motion, unfaulted, verdict, parked⟩ := sound
  have park : t.safe.park = s.safe.park := by rw [h.sensed]
  unfold passes
  rw [envelope_of_outside h, h.pose, park]
  exact ⟨motion, unfaulted, verdict, parked⟩

theorem outside_estop (h : Outside s t) : t.safe.estop = s.safe.estop := by rw [h.sensed]

/-! ### The next entry -/

theorem runQueue_still (n : Nat) (still : s.exe.closing = none) : runQueue n s = s := by
  cases n with
  | zero => rfl
  | succ n => rw [runQueue, still]

/-- A completion after which an entry of its group, or in MOVING of a port any entry, becomes active and is driven (R31, R54). -/
theorem advance_complete_next {e2 : Entry} {more : List Entry} (active : s.exe.active.isSome = true)
    (queue : s.exe.queue = e :: e2 :: more) (sound : passes e2 a target s) (supply : s.exe.supply = .available)
    (far : within a (s.pose.position.get a) target = false) (unheld : s.arb.auth ≠ .held)
    (goes : inGroup e e2 = true ∨ (s.arb.auth = .moving ∧ (holderPort s).isSome = true)) :
    advance (completeActive s) =
      (entryGone e (e2 :: more) s).setExe (drivenEntry a target e2 more (entryGone e (e2 :: more) s)) := by
  obtain ⟨w, w_eq⟩ : ∃ w, w = entryGone e (e2 :: more) s := ⟨_, rfl⟩
  have exe : w.exe = goneExe e (e2 :: more) s := by rw [w_eq, entryGone_exe]
  have like : Like s w := by
    rw [w_eq]
    exact entryGone_like e (e2 :: more) s
  have onward : goesOn { boundary := isBoundary e (e2 :: more), completed := true, halted := 0, discarded := 0 } w = true := by
    unfold goesOn
    rcases goes with grouped | ⟨moving, port⟩
    · have member : e.continues e2 = true := grouped
      have inside : isBoundary e (e2 :: more) = false := by
        unfold isBoundary membersBehind
        rw [List.takeWhile_cons, member]
        rfl
      rw [inside]
      rfl
    · have notSafety : w.arb.holder ≠ some .safety := by
        rw [like.arb]
        intro safety
        unfold holderPort at port
        rw [safety] at port
        cases port
      simp [like.arb, moving, exe, goneExe, bne_iff_ne.mpr (like.arb ▸ notSafety)]
  have begun : activate w = (w.setExe (drivenEntry a target e2 more w)).setArb (activatedArb w) := by
    refine activate_drives (by rw [exe]; rfl) (by rw [exe]; rfl) (by rw [exe]; rfl) (passes_of_outside like.outside sound)
      (by rw [exe]; exact supply) ?_
    rw [like.outside.pose]
    exact far
  have kept : activatedArb w = w.arb := if_neg (by rw [like.arb]; exact unheld)
  rw [advance_complete active queue rfl, ← w_eq, onward, begun, kept]
  refine (runQueue_still 23 ?_).trans rfl
  show (drivenEntry a target e2 more w).closing = none
  unfold drivenEntry
  rw [exe]
  rfl

/-! ### The running move -/

theorem followActive_move (h : activeIs x e rest s) (running : x.execution = .running) (axis : e.motion.axis = some a) :
    followActive s = followMove e a s := by
  unfold followActive
  rw [(isRunning_iff h.1).mpr running, activeEntry_of_activeIs h]
  dsimp only
  rw [axis]
  rfl

theorem followActive_suspended (h : activeIs x e rest s) (suspended : x.execution = .suspended) : followActive s = s := by
  unfold followActive
  refine if_neg fun running => ?_
  exact absurd (suspended.symm.trans ((isRunning_iff h.1).mp running)) (by decide)

/-- The running move after a reading: its phase and its drive follow, and an arrival completes it (R56, R57). -/
theorem followMove_eq (h : activeIs x e rest s) (held : e.target = some target) :
    followMove e a s =
      if arrived a target s then
        completeActive
          (movedOn x a (phaseAfter target a (x.phases.get a) s) (driveAfter target e.rate a (x.phases.get a) s) s)
      else movedOn x a (phaseAfter target a (x.phases.get a) s) (driveAfter target e.rate a (x.phases.get a) s) s := by
  unfold followMove
  rw [held, Option.getD_some]
  dsimp only
  rw [followAxis_eq e.rate h.1]
  rfl

theorem completable_moved {phase : AxisPhase} {drive : Drive} (axis : e.motion.axis = some a) (like : Like s v)
    (exe : v.exe = s.exe) (group : v.safe.group = s.safe.group) (notices : sameNotices 4 s v) :
    Completable e s (movedOn x a phase drive v) := by
  refine ⟨like_trans like (like_of_same rfl ⟨rfl, rfl, rfl, rfl, rfl, rfl, rfl⟩ rfl), group, ?_, fun b other => ?_, notices⟩
  · rw [← exe]
    exact ⟨rfl, rfl, rfl⟩
  · rw [← exe]
    exact Axes.get_set_other _ _ (other_of_axis axis other)

/-! ### The running scan -/

theorem followActive_scan {q : ScanParams} {result : ScanResult} (h : scanRuns x e rest q z result s) :
    followActive s = followScan z s := by
  obtain ⟨active, running, motion, scan, -⟩ := h
  unfold followActive
  rw [(isRunning_iff active.1).mpr running, activeEntry_of_activeIs active]
  dsimp only
  rw [show e.motion.axis = none by rw [motion]; rfl, scan]
  rfl

/-- A scan's move after a reading: each axis follows, and the arrival of both goes on (R147, R152). -/
theorem followScan_move (active : s.exe.active = some x) (moves : z.phase = .stepMove ∨ z.phase = .finalMove) :
    followScan z s =
      if scanArrived z.target s then
        arriveScan
          (scanOn x (phaseAfter z.target.pan .pan x.phases.pan s) (phaseAfter z.target.tilt .tilt x.phases.tilt s)
            (driveAfter z.target.pan .slow .pan x.phases.pan s) (driveAfter z.target.tilt .slow .tilt x.phases.tilt s) s)
      else
        scanOn x (phaseAfter z.target.pan .pan x.phases.pan s) (phaseAfter z.target.tilt .tilt x.phases.tilt s)
          (driveAfter z.target.pan .slow .pan x.phases.pan s) (driveAfter z.target.tilt .slow .tilt x.phases.tilt s) s := by
  unfold followScan
  rcases moves with phase | phase <;> rw [phase] <;> dsimp only <;> rw [followAxes_eq z.target active] <;> rfl

theorem followScan_waits (waits : z.phase = .dwell ∨ z.phase = .levelWait) : followScan z s = s := by
  unfold followScan
  rcases waits with phase | phase <;> rw [phase]

theorem completable_scanStopped {q : ScanParams} (motion : e.motion = .scan q) (like : Like s v) (exe : v.exe = s.exe)
    (group : v.safe.group = s.safe.group) (notices : sameNotices 4 s v) : Completable e s (scanStopped x v) := by
  refine ⟨like_trans like (like_of_same rfl ⟨rfl, rfl, rfl, rfl, rfl, rfl, rfl⟩ rfl), group, ?_, fun b other => ?_, notices⟩
  · rw [← exe]
    exact ⟨rfl, rfl, rfl⟩
  · rw [← exe]
    rw [motion] at other
    cases b
    · rfl
    · exact absurd (show true = false from other) (by decide)
    · exact absurd (show true = false from other) (by decide)
    · rfl

theorem haltedDrive_of_activeIs (h : activeIs x e rest s) (b : Axis) :
    haltedDrive b s = if e.motion.axes.get b = true then (s.exe.drives.get b).stop else s.exe.drives.get b := by
  unfold haltedDrive
  rw [activeEntry_of_activeIs h]

end Sys2Proof.Machine
end

section
/-! What a POSE READING brings about (R4, R19, R31 to R33, R56, R57, R67, R100, R126 to R128, R147, R152). -/

namespace Sys2Proof.Machine

variable {s t u v : State} {e : Entry} {rest : List Entry} {x : Active} {z : Scan} {r : Reading} {a : Axis} {target : Int}

theorem poseReading_eq (on : s.powered = true) :
    exec (.poseReading r) s = .next (settleAll (followActive (takeReading r s))) :=
  exec_of_powered (f := fun s => settleAll (followActive (takeReading r s))) rfl on

theorem lampOf_iff (position : Axes Int) :
    lampOf position = true ↔
      position.mast ≤ 20 ∧ -5 ≤ position.pan ∧ position.pan ≤ 5 ∧ position.tilt ≤ -995 ∧ -1005 ≤ position.tilt := by
  unfold lampOf mastStowed
  simp only [Bool.and_eq_true, decide_eq_true_eq, parked_pan_iff, parked_tilt_iff]
  omega

/-- A reading replaces the pose, whatever it brings about (R4, R19). -/
theorem poseReading_pose (on : s.powered = true) :
    ∃ t, exec (.poseReading r) s = .next t ∧ t.pose = (recordReading r s).pose := by
  obtain ⟨-, -, -, -, pose, -⟩ := takeReading_work r s
  exact ⟨_, poseReading_eq on, by simp [pose]⟩

/-- Where nothing closes and nothing waits, a reading after which the entry goes on is all that follows. -/
theorem settleAll_still (waits : nothingWaits s) (still : s.exe.closing = none) : settleAll s = s := by
  rw [settleAll_eq waits, advance_still still]

theorem activeIs_takeReading (h : activeIs x e rest s) : activeIs x e rest (takeReading r s) := by
  obtain ⟨-, exe, -⟩ := takeReading_work r s
  unfold activeIs
  rw [exe]
  exact h

theorem waits_takeReading (h : nothingWaits s) : nothingWaits (takeReading r s) :=
  nothingWaits_of_arb h (takeReading_work r s).1

/-- A reading that leaves the active entry untouched. -/
theorem poseReading_untouched (on : s.powered = true) (waits : nothingWaits s) (h : activeIs x e rest s)
    (same : followActive (takeReading r s) = takeReading r s) :
    ∃ t, exec (.poseReading r) s = .next t ∧ leaves (readingTaken r s) s t := by
  obtain ⟨-, closing, -⟩ := activeIs_takeReading (r := r) h
  refine ⟨_, poseReading_eq on, ?_⟩
  rw [same, settleAll_still (waits_takeReading waits) closing]
  exact takeReading_leaves r s

/-- A reading that completes the running move (R57). -/
theorem poseReading_arrives (on : s.powered = true) (waits : nothingWaits s) (h : activeIs x e rest s)
    (running : x.execution = .running) (axis : e.motion.axis = some a) (held : e.target = some target)
    (near : within a ((recordReading r s).pose.position.get a) target = true) (stands : r.atRest.get a = true) :
    ∃ v phase drive, exec (.poseReading r) s = .next (advance (completeActive v))
      ∧ v = movedOn x a phase drive (takeReading r s) ∧ (drive.stop = (s.exe.drives.get a).stop)
      ∧ Completable e (recordReading r s) v := by
  obtain ⟨arb, exe, -, -, pose, -, group, -⟩ := takeReading_work r s
  have now := activeIs_takeReading (r := r) h
  have arrives : arrived a target (takeReading r s) = true := by
    unfold arrived
    rw [pose, near]
    exact stands
  have nearNow : within a ((takeReading r s).pose.position.get a) target = true := by
    rw [pose]
    exact near
  have kept : keepsLists [12] (recordReading r s) (takeReading r s) := fun p => takeReading_keeps r s p
  refine ⟨_, phaseAfter target a (x.phases.get a) (takeReading r s), driveAfter target e.rate a (x.phases.get a) (takeReading r s),
    ?_, rfl, ?_, completable_moved axis (takeReading_like r s) exe group (sameNotices_of_keeps kept (by decide))⟩
  · rw [poseReading_eq on, followActive_move now running axis, followMove_eq now held, if_pos arrives, settleAll_eq]
    exact nothingWaits_of_arb waits (by simp [movedOn])
  · rw [driveAfter_stop nearNow, exe]

/-- A reading that leaves the running move on its way (R56, R58). -/
theorem poseReading_follows (on : s.powered = true) (waits : nothingWaits s) (h : activeIs x e rest s)
    (running : x.execution = .running) (axis : e.motion.axis = some a) (held : e.target = some target)
    (away : within a ((readingTaken r s).pose.position.get a) target = false ∨ r.atRest.get a = false) :
    ∃ t, exec (.poseReading r) s = .next t
      ∧ leaves
          ((readingTaken r s).setExe
            { s.exe with
              active := some { x with phases := x.phases.set a (phaseAfter target a (x.phases.get a) (readingTaken r s)) }
              drives := s.exe.drives.set a (driveAfter target e.rate a (x.phases.get a) (readingTaken r s)) })
          s t := by
  obtain ⟨arb, exe, -, -, pose, -, -, -, -, -, estop⟩ := takeReading_work r s
  have now := activeIs_takeReading (r := r) h
  have travels : arrived a target (takeReading r s) = false := by
    unfold arrived
    rw [pose]
    rcases away with far | moves
    · rw [show within a ((recordReading r s).pose.position.get a) target = false from far, Bool.false_and]
    · rw [show (recordReading r s).pose.atRest.get a = false from moves, Bool.and_false]
  refine ⟨_, poseReading_eq on, ?_⟩
  rw [followActive_move now running axis, followMove_eq now held, travels, if_neg (by decide)]
  have still := settleAll_still (s := movedOn x a (phaseAfter target a (x.phases.get a) (takeReading r s))
    (driveAfter target e.rate a (x.phases.get a) (takeReading r s)) (takeReading r s)) (waits_takeReading waits) now.2.1
  rw [still]
  unfold movedOn
  rw [phaseAfter_of_pose (s := readingTaken r s) pose, driveAfter_of (s := readingTaken r s) pose exe estop, exe]
  exact leaves_setExe (takeReading_leaves r s) _

/-- A reading at a running scan's move (R147, R152). -/
theorem poseReading_scan {q : ScanParams} {result : ScanResult} (on : s.powered = true) (waits : nothingWaits s)
    (h : scanRuns x e rest q z result s) :
    (z.phase = .stepMove ∨ z.phase = .finalMove → ¬scanStands z.target (readingTaken r s) →
        ∃ t, exec (.poseReading r) s = .next t
          ∧ leaves
              ((readingTaken r s).setExe
                { s.exe with
                  active :=
                    some
                      { x with
                        phases :=
                          { x.phases with
                            pan := phaseAfter z.target.pan .pan x.phases.pan (readingTaken r s)
                            tilt := phaseAfter z.target.tilt .tilt x.phases.tilt (readingTaken r s) } }
                  drives :=
                    { s.exe.drives with
                      pan := driveAfter z.target.pan .slow .pan x.phases.pan (readingTaken r s)
                      tilt := driveAfter z.target.tilt .slow .tilt x.phases.tilt (readingTaken r s) } })
              s t)
      ∧ (z.phase = .stepMove → scanStands z.target (readingTaken r s) →
          ∃ t, exec (.poseReading r) s = .next t ∧ leaves (stepArrived x z (readingTaken r s)) s t)
      ∧ (z.phase = .finalMove → scanStands z.target (readingTaken r s) → rest = [] →
          ∃ t w, exec (.poseReading r) s = .next t ∧ ScanDone [] e w (recordReading r s) t
            ∧ EndsComplete result w (recordReading r s) t) := by
  obtain ⟨arb, exe, scan, cache, pose, -, group, -, -, -, estop⟩ := takeReading_work r s
  obtain ⟨active, running, motion, scanning, resulting⟩ := h
  have now := activeIs_takeReading (r := r) active
  have runsNow : scanRuns x e rest q z result (takeReading r s) :=
    ⟨now, running, motion, by rw [scan]; exact scanning, by rw [scan]; exact resulting⟩
  have stood : scanArrived z.target (takeReading r s) = true ↔ scanStands z.target (readingTaken r s) :=
    (scanArrived_iff _ _).trans (scanStands_of_pose pose)
  have stands (h : scanStands z.target (readingTaken r s)) := arriveScan_eq (s := takeReading r s) (x := x) (z := z)
    (pan := phaseAfter z.target.pan .pan x.phases.pan (takeReading r s))
    (tilt := phaseAfter z.target.tilt .tilt x.phases.tilt (takeReading r s))
    (panDrive := driveAfter z.target.pan .slow .pan x.phases.pan (takeReading r s))
    (tiltDrive := driveAfter z.target.tilt .slow .tilt x.phases.tilt (takeReading r s)) (by rw [scan]; exact scanning)
    (driveAfter_stop (by rw [pose]; exact h.1)) (driveAfter_stop (by rw [pose]; exact h.2.2.1))
  refine ⟨fun moves away => ⟨_, poseReading_eq on, ?_⟩, fun phase there => ⟨_, poseReading_eq on, ?_⟩, fun phase there last => ?_⟩
  · rw [followActive_scan runsNow, followScan_move now.1 moves, if_neg (mt stood.mp away)]
    refine (congrArg (leaves _ s) (settleAll_still ?_ ?_)).mpr ?_
    · exact waits_takeReading waits
    · exact now.2.1
    · unfold scanOn
      rw [phaseAfter_of_pose (s := readingTaken r s) pose, phaseAfter_of_pose (s := readingTaken r s) pose,
        driveAfter_of (s := readingTaken r s) pose exe estop, driveAfter_of (s := readingTaken r s) pose exe estop, exe]
      exact leaves_setExe (takeReading_leaves r s) _
  · rw [followActive_scan runsNow, followScan_move now.1 (Or.inl phase), if_pos (stood.mpr there), (stands there).1 phase]
    refine (congrArg (leaves _ s) (settleAll_still ?_ ?_)).mpr ?_
    · exact waits_takeReading waits
    · exact now.2.1
    · rw [stepArrived_eq, stepArrived_eq]
      have dwell : dwellBegun z (takeReading r s) = dwellBegun z (readingTaken r s) := by
        unfold dwellBegun
        rw [scan]
        rfl
      rw [dwell]
      refine leaves_setScan ?_ _
      unfold scanStopped
      rw [exe]
      exact leaves_setExe (takeReading_leaves r s) _
  · have kept : keepsLists [12] (recordReading r s) (takeReading r s) := fun p => takeReading_keeps r s p
    have ready : Completable e (recordReading r s) (scanStopped x (takeReading r s)) :=
      completable_scanStopped motion (takeReading_like r s) exe group (sameNotices_of_keeps kept (by decide))
    obtain ⟨w, done, complete⟩ := scanCompleted_of (beside := []) ready (z := z) (r := result) rfl
      (by rw [show (scanStopped x (takeReading r s)).exe.queue = (takeReading r s).exe.queue from rfl, now.2.2, last])
      (by rw [show (scanStopped x (takeReading r s)).scan = (takeReading r s).scan from rfl, scan, scanning])
      (by rw [show (scanStopped x (takeReading r s)).scan = (takeReading r s).scan from rfl, scan, resulting])
      (by rw [show (scanStopped x (takeReading r s)).scan = (takeReading r s).scan from rfl, scan]; rfl)
      (by rw [show (scanStopped x (takeReading r s)).cache = (takeReading r s).cache from rfl, cache]; rfl)
      (sameNotices_of_keeps kept (by decide)) (keepsLists_mono (by decide) kept)
    refine ⟨_, w, ?_, done, complete⟩
    have arb' : (completeScan (scanStopped x (takeReading r s))).arb = s.arb := by
      rw [← arb]
      simp [scanStopped]
    rw [poseReading_eq on, followActive_scan runsNow, followScan_move now.1 (Or.inr phase), if_pos (stood.mpr there),
      (stands there).2 phase, settleAll_eq (nothingWaits_of_arb waits arb')]

/-- Settles O25: a reading replaces the pose, and completes, carries on or leaves what runs. -/
theorem readingsMoveThePose : Obligations.ReadingsMoveThePose := by
  refine ⟨fun r s on => ⟨?_, fun park wind u park_eq wind_eq u_eq active closing waits => ?_⟩,
    fun a v w x e rest r s u on u_eq active waits axis held running phase near stands => ⟨fun last suspension => ?_, ?_⟩,
    fun x e rest r s u on active waits u_eq => ⟨fun suspended => ?_, fun a v running axis held away => ?_,
      fun q z result runs => ?_⟩⟩
  · obtain ⟨t, made, pose⟩ := poseReading_pose (r := r) on
    refine ⟨t, made, ?_⟩
    rw [pose]
    have least := clamp_eq (least := 0) (greatest := 15000) ((r.counts.mast + 5) / 10 * 10) (by decide)
    have pan := clamp_eq (least := -27000) (greatest := 27000) r.counts.pan (by decide)
    have tilt := clamp_eq (least := -1000) (greatest := 9000) r.counts.tilt (by decide)
    have pol := clamp_eq (least := -9000) (greatest := 9000) r.counts.pol (by decide)
    refine ⟨rfl, rfl, rfl, rfl, rfl, least, pan, tilt, pol, (lampOf_iff (positionsOf r.counts)).trans ?_⟩
    have low : -1005 ≤ (positionsOf r.counts).tilt := by
      rw [show (positionsOf r.counts).tilt = max (-1000) (min 9000 r.counts.tilt) from tilt]
      omega
    exact ⟨fun ⟨mast, left, right, down, _⟩ => ⟨mast, left, right, down⟩, fun ⟨mast, left, right, down⟩ => ⟨mast, left, right, down, low⟩⟩
  · have same : takeReading r s = setAlarmCauses park wind (recordReading r s) := by
      rw [takeReading_eq, park_eq, wind_eq]
      rfl
    obtain ⟨-, exe, -⟩ := takeReading_work r s
    have made : exec (.poseReading r) s = .next (setAlarmCauses park wind (recordReading r s)) := by
      rw [poseReading_eq on, followActive_idle (by rw [exe]; exact active),
        settleAll_still (waits_takeReading waits) (by rw [exe]; exact closing), same]
    rw [made]
    subst u_eq
    refine ⟨fun stands => congrArg _ (setAlarmCauses_silent (s := recordReading r s) stands), fun changed => ⟨_, rfl, ?_, ?_⟩⟩
    · have left := (setAlarmCauses_leaves (s := s) (t := recordReading r s) park wind rfl rfl rfl rfl rfl).1
      have alarmNow : (withAlarm park wind (recordReading r s)).safe.alarm = (park || wind) := rfl
      simp only [alarmNow, if_neg changed] at left
      exact left
    · exact tellsAll_of_ports rfl rfl (setAlarmCauses_tells (s := recordReading r s) changed)
  · subst u_eq
    obtain ⟨v', phase', drive, made, v'_eq, -, ready⟩ := poseReading_arrives on waits active running axis held near stands
    obtain ⟨-, exe, scan, cache, -⟩ := takeReading_work r s
    refine ⟨_, made, completed_of ready (by rw [v'_eq]; rfl) ?_ (by rw [v'_eq]; exact scan) (by rw [v'_eq]; exact cache) ?_⟩
    · rw [v'_eq, show (movedOn x a phase' drive (takeReading r s)).exe.queue = (takeReading r s).exe.queue from rfl, exe, active.2.2, last]
    · rw [v'_eq]
      exact fun p => keepsLists_mono (few := [12]) (by decide) (takeReading_keeps r s) p
  · intro e2 more a2 v2 rest_eq sound supply far unheld goes
    subst u_eq rest_eq
    obtain ⟨v', phase', drive, made, v'_eq, stops, ready⟩ := poseReading_arrives on waits active running axis held near stands
    obtain ⟨arb, exe, scan, cache, pose, -, group, -, -, -, estop⟩ := takeReading_work r s
    have arb' : v'.arb = s.arb := by rw [v'_eq]; exact arb
    have exe' : v'.exe = { s.exe with active := v'.exe.active, drives := s.exe.drives.set a drive } := by
      rw [v'_eq]
      unfold movedOn
      rw [exe]
      rfl
    have queue' : v'.exe.queue = e :: e2 :: more := by rw [exe']; exact active.2.2
    have outside := ready.like.outside
    have next := advance_complete_next (s := v') (by rw [v'_eq]; rfl) queue' (passes_of_outside outside sound)
      (by rw [exe']; exact supply) (by rw [outside.pose]; exact far) (by rw [arb']; exact unheld)
      (by unfold holderPort; rw [arb']; exact goes)
    obtain ⟨w, w_eq⟩ : ∃ w, w = entryGone e (e2 :: more) v' := ⟨_, rfl⟩
    have goneLike : Like v' w := by
      rw [w_eq]
      exact entryGone_like e (e2 :: more) v'
    have goneKeeps : keepsLists [4] v' w := by
      rw [w_eq]
      exact fun p => placeOrigin_keeps e.origin (.segmentDone e.tag 1 (more.length + 1)) (v'.setExe (goneExe e (e2 :: more) v'))
        List.mem_cons_self p
    have goneExe' : w.exe = goneExe e (e2 :: more) v' := by rw [w_eq, entryGone_exe]
    have poseNow : w.pose = (recordReading r s).pose := goneLike.outside.pose.trans outside.pose
    have estopRead : v'.safe.estop = (recordReading r s).safe.estop := outside_estop outside
    have estopNow : w.safe.estop = (recordReading r s).safe.estop := (outside_estop goneLike.outside).trans estopRead
    have ports' : v'.ports = (takeReading r s).ports := by rw [v'_eq]; rfl
    have keeps' : keepsLists [12] s v' := keepsLists_then (takeReading_keeps r s) ports'
    rw [← w_eq] at next
    refine ⟨_, made.trans (congrArg _ next), ?_, ?_, ?_, fun b => ?_, ?_, ?_, ?_, ?_, ?_, ?_, fun p owner => ?_⟩
    · rfl
    · show w.exe.closing = none
      rw [goneExe']
      rfl
    · show some (activeOn a2 v2 .running (drivingOn a2 w) w) = _
      unfold activeOn drivingOn
      rw [poseNow]
    · show (w.exe.drives.set a2 (drivenToward v2 e2.rate a2 w)).get b = _
      rw [Axes.get_set]
      by_cases same : b = a2
      · rw [if_pos same, if_pos same]
        exact drivenToward_of poseNow estopNow
      · rw [if_neg same, if_neg same, haltedDrive_of_activeIs active, goneExe']
        refine (stopAxes_get e.motion.axes v' b).trans ?_
        rw [axes_of_axis axis, onlyAxis_get, exe']
        by_cases own : b = a
        · subst own
          simp [stops]
        · simp [own, Axes.get_set]
    · show w.exe.nextTag = s.exe.nextTag
      rw [goneExe']
      show v'.exe.nextTag = _
      rw [exe']
    · show w.arb = s.arb
      rw [goneLike.arb, arb']
    · show w.scan = s.scan
      rw [w_eq, entryGone]
      simp only [placeOrigin_frame]
      rw [State.setExe_scan, v'_eq]
      exact scan
    · exact outside_trans (outside_trans outside goneLike.outside) ⟨rfl, rfl, rfl, rfl, rfl, rfl, rfl⟩
    · show w.safe.group = s.safe.group
      rw [w_eq, entryGone]
      simp only [placeOrigin_frame]
      rw [State.setExe_safe, v'_eq]
      exact group
    · have lists : keepsLists [4, 12] s w := keepsLists_trans (keepsLists_mono (by decide) keeps') (keepsLists_mono (by decide) goneKeeps)
      exact sameBesides_of_keeps lists
    · have told : tellsIf p (.segmentDone e.tag 1 (more.length + 1)) v' w := by
        rw [w_eq]
        exact entryGone_told (rest := e2 :: more) owner
      exact tellsIf_of_port rfl rfl (tellsIf_after (sameNotices_of_keeps keeps' (show 4 ∉ [12] by decide)) told)
  · rw [u_eq]
    exact poseReading_untouched on waits active (followActive_suspended (activeIs_takeReading active) suspended)
  · rw [u_eq] at away ⊢
    exact poseReading_follows on waits active running axis held away
  · obtain ⟨follows, steps, ends⟩ := poseReading_scan (r := r) on waits runs
    rw [u_eq]
    refine ⟨fun still => ?_, follows, steps, ends⟩
    obtain ⟨-, -, scan, -⟩ := takeReading_work r s
    obtain ⟨held, running, motion, scanning, resulting⟩ := runs
    have runsNow : scanRuns x e rest q z result (takeReading r s) :=
      ⟨activeIs_takeReading held, running, motion, by rw [scan]; exact scanning, by rw [scan]; exact resulting⟩
    exact poseReading_untouched on waits active ((followActive_scan runsNow).trans (followScan_waits still))

end Sys2Proof.Machine
end

section
/-! Levels and samples: what the end of a dwell, the level wait and LEVEL REPORT bring a running scan (R146 to R153). -/

namespace Sys2Proof.Machine

variable {s t u v : State} {e : Entry} {rest : List Entry} {x : Active} {z : Scan} {q : ScanParams} {r now : ScanResult}
  {aim : PanTilt} {why : EndReason} {level : Int}

/-! ### A move of the scan -/

/-- Pan and tilt driven toward a target, or arrived there at once (R147, R152). -/
theorem driveScan_cases (active : s.exe.active = some x) (scan : s.scan.scan = some z) :
    (¬scanStands aim s →
        driveScan aim s =
          scanOn x (scanPhase aim.pan .pan s) (scanPhase aim.tilt .tilt s) (scanDrive aim.pan .pan s) (scanDrive aim.tilt .tilt s) s)
      ∧ (scanStands aim s → z.phase = .stepMove → driveScan aim s = stepArrived x z s)
      ∧ (scanStands aim s → z.phase = .finalMove → driveScan aim s = completeScan (scanStopped x s)) := by
  have made : driveScan aim s =
      if scanArrived aim s then
        arriveScan
          (scanOn x (scanPhase aim.pan .pan s) (scanPhase aim.tilt .tilt s) (scanDrive aim.pan .pan s) (scanDrive aim.tilt .tilt s) s)
      else
        scanOn x (scanPhase aim.pan .pan s) (scanPhase aim.tilt .tilt s) (scanDrive aim.pan .pan s) (scanDrive aim.tilt .tilt s) s := by
    unfold driveScan
    rw [driveScanAxes_eq aim active]
    rfl
  rw [made]
  have arrives (stands : scanStands aim s) := arriveScan_eq (x := x) (pan := scanPhase aim.pan .pan s)
    (tilt := scanPhase aim.tilt .tilt s) scan (scanDrive_stop stands.1) (scanDrive_stop stands.2.2.1)
  refine ⟨fun away => if_neg (mt (scanArrived_iff aim s).mp away), fun stands step => ?_, fun stands final => ?_⟩
  · rw [if_pos ((scanArrived_iff aim s).mpr stands), (arrives stands).1 step]
  · rw [if_pos ((scanArrived_iff aim s).mpr stands), (arrives stands).2 final]

theorem updateScan_eq (f : Scan → Scan) (scan : s.scan.scan = some z) :
    updateScan f s = s.setScan { s.scan with scan := some (f z) } := by
  unfold updateScan
  rw [scan]
  rfl

theorem clearanceVerdict_low (low : s.pose.position.mast < 1200) : clearanceVerdict s = some .envelope := if_pos low

theorem clearanceVerdict_high (high : 1200 ≤ s.pose.position.mast) : clearanceVerdict s = none :=
  if_neg (by show ¬s.pose.position.mast < 1200; omega)

/-- The running scan in a phase toward a target. -/
def scanAimed (phase : ScanPhase) (aim : PanTilt) (z : Scan) (s : State) : State :=
  s.setScan { s.scan with scan := some { z with phase := phase, target := aim } }

/-- A step move or the final move, once the envelope check is made (R147, R152). -/
theorem scanMove_cases {phase : ScanPhase} (active : s.exe.active = some x) (scan : s.scan.scan = some z) :
    (s.pose.position.mast < 1200 → scanMove phase aim s = failActive .envelope true s)
      ∧ (1200 ≤ s.pose.position.mast →
          (¬scanStands aim s → scanMove phase aim s = scanDriven x phase aim z s)
            ∧ (scanStands aim s → phase = .stepMove → scanMove phase aim s = stepArrived x { z with target := aim } s)
            ∧ (scanStands aim s → phase = .finalMove →
                scanMove phase aim s = completeScan (scanStopped x (scanAimed .finalMove aim z s)))) := by
  unfold scanMove
  refine ⟨fun low => by rw [clearanceVerdict_low low], fun high => ?_⟩
  rw [clearanceVerdict_high high]
  dsimp only
  rw [updateScan_eq _ scan]
  obtain ⟨drives, steps, ends⟩ := driveScan_cases (aim := aim) (s := scanAimed phase aim z s) (x := x) active rfl
  refine ⟨fun away => drives away, fun stands step => ?_, fun stands final => ?_⟩
  · subst step
    exact steps stands rfl
  · subst final
    exact ends stands rfl

/-! ### Endings at a step boundary -/

theorem completable_refl (e : Entry) (s : State) : Completable e s s :=
  ⟨like_refl s, rfl, ⟨rfl, rfl, rfl⟩, fun _ _ => rfl, sameNotices_refl 4 s⟩

/-- A failure at a scan's step, whatever the scan's place (R147, R153). -/
theorem failable_setScan (why : EndReason) (scan : s.scan.scan = some z) (result : s.scan.result = some r) (z' : Scan) :
    Failable why s (s.setScan { s.scan with scan := some z' }) := by
  refine ⟨like_of_same rfl ⟨rfl, rfl, rfl, rfl, rfl, rfl, rfl⟩ rfl, rfl, rfl, rfl, fun t ended => ?_, sameNotices_of_ports rfl,
    keepsLists_of_ports rfl⟩
  unfold scanEnds at ended ⊢
  rw [ended, scan]
  simp [result]

/-! ### Samples -/

/-- The result once a sample is taken: it counts its step, and sets the best unless one as good is kept (R145, R150). -/
theorem sampled_eq (r : ScanResult) (z : Scan) (level : Int) {keep : Bool}
    (kept : keep = (z.index != 0 && r.bestLevel.any (fun best => decide (level ≤ best)))) :
    r.sampled z.index z.target level =
      { r with
        done := if z.index = 0 then r.done else z.index
        bestLevel := if keep = true then r.bestLevel else some level
        bestPose := if keep = true then r.bestPose else some z.target } := by
  subst kept
  unfold ScanResult.sampled
  by_cases first : z.index = 0
  · simp [first]
  · cases best : r.bestLevel with
    | none => simp [first]
    | some b =>
      by_cases greater : b < level
      · simp [first, Int.not_le.mpr greater]
      · simp [first, greater, Int.not_lt.mp greater]

/-- The running scan with a sample taken and reported (R150). -/
def sampledAt (e : Entry) (q : ScanParams) (now : ScanResult) (s : State) : State :=
  reportProgress e.origin q (s.setScan { s.scan with result := some now })

theorem takeSample_eq (h : scanRuns x e rest q z r s) (level : Int) :
    takeSample level s = scanBoundary q (sampledAt e q (r.sampled z.index z.target level) s) := by
  obtain ⟨active, -, motion, scan, result⟩ := h
  unfold takeSample
  rw [activeEntry_of_activeIs active, scan]
  dsimp only
  rw [motion, result]
  rfl

/-- A report block is whole (R150). -/
def blockWhole (q : ScanParams) (now : ScanResult) : Prop := 0 < q.block ∧ 0 < now.done ∧ now.done % q.block = 0

theorem sampledAt_cases (e : Entry) (q : ScanParams) (now : ScanResult) (s : State) :
    sampledAt e q now s = s.setScan { s.scan with result := some now }
      ∨ (blockWhole q now
          ∧ ∃ best pose, sampledAt e q now s =
              placeOrigin e.origin (.scanProgress now.tag now.done now.requested best pose)
                (s.setScan { s.scan with result := some now })) := by
  unfold sampledAt reportProgress
  dsimp only [State.setScan_scan]
  split
  · next best pose _ _ =>
    split
    · next whole => exact Or.inr ⟨whole, best, pose, rfl⟩
    · exact Or.inl rfl
  · exact Or.inl rfl

theorem sampledAt_told {best : Int} {pose : PanTilt} (whole : blockWhole q now) (level : now.bestLevel = some best)
    (at_ : now.bestPose = some pose) :
    sampledAt e q now s =
      placeOrigin e.origin (.scanProgress now.tag now.done now.requested best pose)
        (s.setScan { s.scan with result := some now }) := by
  unfold sampledAt reportProgress
  dsimp only [State.setScan_scan]
  rw [level, at_]
  exact if_pos whole

/-- What a sample changes: the result, and the list of the port that is told (R150). -/
theorem sampledAt_only (e : Entry) (q : ScanParams) (now : ScanResult) (s : State) :
    onlyOutputs (fun p => if e.origin = .port p ∧ 0 < q.block ∧ 0 < now.done ∧ now.done % q.block = 0 then [6] else [])
      (s.setScan { s.scan with result := some now }) (sampledAt e q now s) := by
  rcases sampledAt_cases e q now s with same | ⟨whole, best, pose, told⟩
  · rw [same]
    exact onlyOutputs_refl _ _
  · rw [told]
    cases owner : e.origin with
    | safety => exact onlyOutputs_refl _ _
    | port p =>
      refine placeOn_onlyOutputs p _ ?_ _
      rw [if_pos ⟨rfl, whole⟩]
      exact List.mem_singleton.mpr rfl

theorem scanBoundary_marked (active : s.exe.active = some x) (result : s.scan.result = some now)
    (marked : x.crankDue = true ∨ x.yieldDue = true) :
    scanBoundary q s =
      completeActive (finishScan (if x.crankDue = true then .endedManual else .yielded) false s) := by
  unfold scanBoundary
  rw [active, result]
  dsimp only
  by_cases crank : x.crankDue = true
  · rw [if_pos crank, if_pos crank]
  · rw [if_neg crank, if_neg crank, if_pos (marked.resolve_left crank)]

theorem scanBoundary_steps (active : s.exe.active = some x) (result : s.scan.result = some now) (noCrank : x.crankDue = false)
    (noYield : x.yieldDue = false) (left : now.done < now.requested) : scanBoundary q s = scanStep q s := by
  unfold scanBoundary
  rw [active, result]
  simp [noCrank, noYield, left]

theorem scanBoundary_final {best : PanTilt} (active : s.exe.active = some x) (result : s.scan.result = some now)
    (noCrank : x.crankDue = false) (noYield : x.yieldDue = false) (done : now.done = now.requested)
    (found : now.bestPose = some best) : scanBoundary q s = scanMove .finalMove best s := by
  unfold scanBoundary
  rw [active, result]
  simp [noCrank, noYield, done, found]

/-- The running scan stepped to its next index (R147). -/
def scanStepped (q : ScanParams) (z : Scan) (s : State) : State :=
  s.setScan
    { s.scan with
      scan := some { z with index := z.index + 1, phase := .stepMove, target := scanTarget z.start q (z.index + 1) } }

theorem scanStep_eq (scan : s.scan.scan = some z) :
    scanStep q s =
      if inRange .pan (scanTarget z.start q (z.index + 1)).pan = false
          ∨ inRange .tilt (scanTarget z.start q (z.index + 1)).tilt = false then
        failActive .limit true (scanStepped q z s)
      else scanMove .stepMove (scanTarget z.start q (z.index + 1)) (scanStepped q z s) := by
  unfold scanStep
  rw [scan]
  dsimp only
  rw [updateScan_eq _ scan]
  rfl

/-! ### Commands that bring a level -/

theorem runningScanPhase_of (h : scanRuns x e rest q z r s) : runningScanPhase s = some z.phase := by
  obtain ⟨active, running, -, scan, -⟩ := h
  unfold runningScanPhase
  rw [(isRunning_iff active.1).mpr running, scan]
  rfl

theorem activeSource_of (h : scanRuns x e rest q z r s) : activeSource s = some q.source := by
  obtain ⟨active, -, motion, -, -⟩ := h
  unfold activeSource
  rw [activeEntry_of_activeIs active]
  dsimp only
  rw [motion]

theorem dwellEnd_eq (on : s.powered = true) (v : Int) : exec (.dwellEnd v) s = .next (endDwell v s) :=
  exec_of_powered (f := endDwell v) rfl on

theorem levelWaitExpiry_eq (on : s.powered = true) : exec .levelWaitExpiry s = .next (expireLevelWait s) :=
  exec_of_powered (f := expireLevelWait) rfl on

theorem endDwell_waits {v : Int} (h : scanRuns x e rest q z r s) (dwell : z.phase = .dwell) (link : q.source = .link)
    (silent : ∀ w, s.scan.report = some w → w.sinceDwell = false) :
    endDwell v s = s.setScan { s.scan with scan := some { z with phase := .levelWait } } := by
  have scan := h.2.2.2.1
  unfold endDwell
  rw [runningScanPhase_of h, activeSource_of h, dwell, link]
  cases report : s.scan.report with
  | none => exact updateScan_eq _ scan
  | some w =>
    dsimp only
    rw [if_neg (by simp [silent w report])]
    exact updateScan_eq _ scan

theorem endDwell_other {v : Int} (h : scanRuns x e rest q z r s) (other : z.phase ≠ .dwell) : endDwell v s = s := by
  unfold endDwell
  rw [runningScanPhase_of h]
  cases phase : z.phase with
  | dwell => exact absurd phase other
  | _ => rfl

theorem scan_of_runningScanPhase {phase : ScanPhase} (h : runningScanPhase s = some phase) :
    ∃ z, s.scan.scan = some z ∧ z.phase = phase := by
  unfold runningScanPhase at h
  split at h
  · exact Option.map_eq_some_iff.mp h
  · cases h

theorem sampleReport_idle (waits : ∀ z, s.scan.scan = some z → z.phase ≠ .levelWait) : sampleReport level s = s := by
  unfold sampleReport
  split
  · next hit =>
    obtain ⟨z, scan, phase⟩ := scan_of_runningScanPhase hit
    exact absurd phase (waits z scan)
  · rfl

theorem levelReport_link (level : Int) (fits : -1200 ≤ level ∧ level ≤ 0) :
    levelReport .link level s =
      sampleReport level
        (doneState .link (.levelReport level) .done []
          (s.setScan { s.scan with report := some { level := level, sinceDwell := true } })) := by
  obtain ⟨low, high⟩ := fits
  unfold levelReport
  rw [if_neg (by simp), if_neg (by omega), respond_done _ _ _ _ _ rfl]
  rfl

theorem analogLevel_near (v : Int) (low : 0 ≤ v) (high : v ≤ 10000) : (10 * (analogLevel v + 1000) - v).natAbs ≤ 5 := by
  unfold analogLevel
  rw [if_neg (by omega), if_neg (by omega)]
  dsimp only
  repeat' split
  all_goals omega

/-- Settles O44: levels are taken from the input or from LINK, and a wait for one that does not come fails the scan. -/
theorem levelsAreTaken : Obligations.LevelsAreTaken := by
  refine ⟨fun v => ⟨fun low => if_pos low, fun high => ?_, analogLevel_near v⟩, fun x e rest q z r v s on runs => ⟨?_, ?_, ?_, ?_⟩,
    fun p level s taken => ⟨fun other => ?_, fun link unfit => ?_, fun link low high waits => ?_⟩⟩
  · exact (if_neg (by omega)).trans (if_pos high)
  · intro dwell link silent
    rw [dwellEnd_eq on, endDwell_waits runs dwell link silent]
  · intro waiting
    have fails : expireLevelWait s = advance (failActive .levelLost true s) := by
      unfold expireLevelWait
      rw [runningScanPhase_of runs, waiting]
    refine ⟨_, levelWaitExpiry_eq on, ?_⟩
    rw [fails]
    exact failed_of (failable_refl _ _) (active_of_activeIs runs.1) runs.1.2.2
  · intro other
    have stays : expireLevelWait s = s := by
      unfold expireLevelWait
      rw [runningScanPhase_of runs]
      split
      · next hit => exact absurd (Option.some.inj hit) other
      · rfl
    rw [levelWaitExpiry_eq on, stays]
  · intro other
    rw [dwellEnd_eq on, endDwell_other runs other]
  · exact exec_of_refused rfl taken (if_pos other) rfl
  · subst link
    exact exec_of_refused rfl taken ((if_neg (by simp)).trans (if_pos unfit)) rfl
  · subst link
    refine (exec_of_takes (f := levelReport .link level) rfl taken).trans (congrArg _ ?_)
    rw [levelReport_link level ⟨low, high⟩]
    exact sampleReport_idle waits

end Sys2Proof.Machine
end

section
/-! A sample of a running scan and the step boundary behind it, and a scan that ends COMPLETE (R126 to R128, R147 to R153). -/

namespace Sys2Proof.Machine

variable {s t u v : State} {e : Entry} {rest : List Entry} {x : Active} {z : Scan} {q : ScanParams} {r now : ScanResult}
  {aim : PanTilt} {why : EndReason} {level : Int} {c : Instr}

/-! ### What brings a sample -/

theorem heard_kept (c : Instr) (s : State) :
    (heard c s).exe = s.exe ∧ (heard c s).pose = s.pose ∧ (heard c s).cache = s.cache
      ∧ (heard c s).scan.scan = s.scan.scan ∧ (heard c s).scan.result = s.scan.result := by
  unfold heard
  split <;> exact ⟨rfl, rfl, rfl, rfl, rfl⟩

theorem heard_runs (c : Instr) (h : scanRuns x e rest q z r s) : scanRuns x e rest q z r (heard c s) := by
  obtain ⟨active, running, motion, scan, result⟩ := h
  obtain ⟨exe, -, -, scanNow, resultNow⟩ := heard_kept c s
  refine ⟨?_, running, motion, scanNow.trans scan, resultNow.trans result⟩
  unfold activeIs
  rw [exe]
  exact active

theorem sampleReport_waiting (phase : runningScanPhase s = some .levelWait) : sampleReport level s = advance (takeSample level s) := by
  unfold sampleReport
  rw [phase]

/-- A command that brings the sample takes it (R148 to R150). -/
theorem exec_of_brings (on : s.powered = true) (h : scanRuns x e rest q z r s) (brought : brings c level q z s) :
    exec c s = .next (advance (takeSample level (heard c s))) := by
  rcases brought with ⟨v, rfl, phase, source, rfl⟩ | ⟨v, rfl, phase, source, report⟩ | ⟨rfl, taken, low, high, phase⟩
  · refine (dwellEnd_eq on v).trans (congrArg _ ?_)
    unfold endDwell
    rw [runningScanPhase_of h, activeSource_of h, phase, source]
    rfl
  · refine (dwellEnd_eq on v).trans (congrArg _ ?_)
    unfold endDwell
    rw [runningScanPhase_of h, activeSource_of h, phase, source, report]
    rfl
  · refine (exec_of_takes (f := levelReport .link level) rfl taken).trans (congrArg _ ?_)
    rw [levelReport_link level ⟨low, high⟩]
    have heardIt : runningScanPhase (heard (.levelReport .link level) s) = some .levelWait := by
      rw [runningScanPhase_of (heard_runs _ h), phase]
    exact sampleReport_waiting heardIt

/-! ### The state in which the boundary stands -/

/-- The running scan with its sample taken, at its step boundary (R151). -/
structure AtBoundary (x : Active) (e : Entry) (rest : List Entry) (z : Scan) (now : ScanResult) (s v : State) : Prop where
  active : activeIs x e rest v
  scan : v.scan.scan = some z
  result : v.scan.result = some now
  pose : v.pose = s.pose
  cache : v.cache = s.cache

theorem atBoundary_of (h : scanRuns x e rest q z r s) : AtBoundary x e rest z now s (sampledAt e q now (heard c s)) := by
  obtain ⟨active, -, -, scan, -⟩ := h
  obtain ⟨exeHeard, poseHeard, cacheHeard, scanHeard, -⟩ := heard_kept c s
  obtain ⟨-, -, -, exe, pose, -, -, cache, -, scanNow, -⟩ := onlyOutputs_frame (sampledAt_only e q now (heard c s))
  refine ⟨?_, ?_, by rw [scanNow]; rfl, pose.trans poseHeard, cache.trans cacheHeard⟩
  · unfold activeIs
    rw [exe, State.setScan_exe, exeHeard]
    exact active
  · rw [scanNow]
    exact scanHeard.trans scan

/-- A due mark ends the scan at its boundary (R151, R155). -/
theorem boundary_marked (b : AtBoundary x e [] z now s v) (marked : x.crankDue = true ∨ x.yieldDue = true) :
    ScanDone [] e (now.ended (if x.crankDue = true then .endedManual else .yielded) false) v (advance (scanBoundary q v))
      ∧ (advance (scanBoundary q v)).cache = s.cache := by
  obtain ⟨active, scan, result, -, cache⟩ := b
  obtain ⟨done, kept⟩ := scanEnded_of (beside := []) (why := if x.crankDue = true then .endedManual else .yielded) (learned := false)
    (completable_refl e v) (active_of_activeIs active) active.2.2 scan result rfl (sameNotices_refl 7 v) (keepsLists_refl _ v)
  rw [scanBoundary_marked active.1 result marked]
  exact ⟨done, kept.trans cache⟩

theorem failed_setScan (active : activeIs x e rest v) (scan : v.scan.scan = some z) (result : v.scan.result = some now) (z' : Scan) :
    Failed e rest.length why v (advance (failActive why true (v.setScan { v.scan with scan := some z' }))) :=
  failed_of (failable_setScan why scan result z') (active_of_activeIs active) active.2.2

/-- A step of the scan: its range, its envelope, and its move (R147). -/
theorem boundary_steps (b : AtBoundary x e rest z now s v) (noCrank : x.crankDue = false) (noYield : x.yieldDue = false)
    (left : now.done < now.requested) (aim_eq : aim = scanTarget z.start q (z.index + 1)) :
    (inRange .pan aim.pan = false ∨ inRange .tilt aim.tilt = false → Failed e rest.length .limit v (advance (scanBoundary q v)))
      ∧ (inRange .pan aim.pan = true → inRange .tilt aim.tilt = true →
          (s.pose.position.mast < 1200 → Failed e rest.length .envelope v (advance (scanBoundary q v)))
            ∧ (1200 ≤ s.pose.position.mast →
                (¬scanStands aim s → advance (scanBoundary q v) = scanDriven x .stepMove aim { z with index := z.index + 1 } v)
                  ∧ (scanStands aim s →
                      advance (scanBoundary q v) = stepArrived x { z with index := z.index + 1, target := aim } v))) := by
  obtain ⟨active, scan, result, pose, -⟩ := b
  subst aim_eq
  have made : scanBoundary q v =
      if inRange .pan (scanTarget z.start q (z.index + 1)).pan = false
          ∨ inRange .tilt (scanTarget z.start q (z.index + 1)).tilt = false then
        failActive .limit true (scanStepped q z v)
      else scanMove .stepMove (scanTarget z.start q (z.index + 1)) (scanStepped q z v) :=
    (scanBoundary_steps active.1 result noCrank noYield left).trans (scanStep_eq scan)
  rw [made, ← pose]
  refine ⟨fun outside => ?_, fun pan tilt => ?_⟩
  · rw [if_pos outside]
    exact failed_setScan active scan result _
  · rw [if_neg (by simp [pan, tilt])]
    obtain ⟨lows, highs⟩ := scanMove_cases (phase := .stepMove) (aim := scanTarget z.start q (z.index + 1)) (s := scanStepped q z v)
      (x := x) active.1 rfl
    refine ⟨fun low => ?_, fun high => ?_⟩
    · rw [lows low]
      exact failed_setScan active scan result _
    · obtain ⟨drives, steps, -⟩ := highs high
      have same : scanStands (scanTarget z.start q (z.index + 1)) v ↔ scanStands (scanTarget z.start q (z.index + 1)) s :=
        scanStands_of_pose pose
      refine ⟨fun away => ?_, fun stands => ?_⟩
      · rw [drives (mt same.mp away)]
        exact advance_still active.2.1
      · rw [steps (same.mpr stands) rfl]
        exact advance_still active.2.1

/-- The final move of the scan (R152). -/
theorem boundary_final {best : PanTilt} (b : AtBoundary x e rest z now s v) (motion : e.motion = .scan q) (noCrank : x.crankDue = false)
    (noYield : x.yieldDue = false) (done : now.done = now.requested) (found : now.bestPose = some best) :
    (s.pose.position.mast < 1200 → Failed e rest.length .envelope v (advance (scanBoundary q v)))
      ∧ (1200 ≤ s.pose.position.mast →
          (¬scanStands best s → advance (scanBoundary q v) = scanDriven x .finalMove best z v)
            ∧ (scanStands best s → rest = [] →
                ∃ w, ScanDone [] e w v (advance (scanBoundary q v)) ∧ EndsComplete now w v (advance (scanBoundary q v)))) := by
  obtain ⟨active, scan, result, pose, -⟩ := b
  obtain ⟨lows, highs⟩ := scanMove_cases (phase := .finalMove) (aim := best) (s := v) (x := x) active.1 scan
  have same : scanStands best v ↔ scanStands best s := scanStands_of_pose pose
  rw [scanBoundary_final active.1 result noCrank noYield done found, ← pose]
  refine ⟨fun low => ?_, fun high => ?_⟩
  · rw [lows low]
    exact failed_of (failable_refl _ _) (active_of_activeIs active) active.2.2
  · obtain ⟨drives, -, ends⟩ := highs high
    refine ⟨fun away => ?_, fun stands last => ?_⟩
    · rw [drives (mt same.mp away)]
      exact advance_still active.2.1
    · have like : Like v (scanAimed .finalMove best z v) := like_of_same rfl ⟨rfl, rfl, rfl, rfl, rfl, rfl, rfl⟩ rfl
      have queue : (scanStopped x (scanAimed .finalMove best z v)).exe.queue = [e] := active.2.2.trans (by rw [last])
      rw [ends (same.mpr stands) rfl]
      exact scanCompleted_of (completable_scanStopped motion like rfl rfl (sameNotices_of_ports rfl)) rfl queue rfl result rfl rfl
        (sameNotices_of_ports rfl) (keepsLists_of_ports rfl)

/-- Settles O43: a sample is counted and reported, and then the scan ends by a mark, steps on, or makes its final move. -/
theorem aSampleIsTaken : Obligations.ASampleIsTaken := by
  intro c level x e rest q z r now keep aim s on runs brought kept now_eq aim_eq
  obtain ⟨v, v_eq⟩ : ∃ v, v = sampledAt e q now (heard c s) := ⟨_, rfl⟩
  have taken : takeSample level (heard c s) = scanBoundary q v := by
    rw [takeSample_eq (heard_runs c runs), sampled_eq r z level kept, ← now_eq, v_eq]
  have at_ : AtBoundary x e rest z now s v := by
    rw [v_eq]
    exact atBoundary_of runs
  refine ⟨v, advance (scanBoundary q v), ?_, ⟨?_, fun p best pose owner block some_ whole level at_ => ?_⟩,
    fun marked last => ?_, fun noCrank noYield => ⟨fun left => boundary_steps at_ noCrank noYield left aim_eq,
      fun best done found => boundary_final at_ runs.2.2.1 noCrank noYield done found⟩⟩
  · rw [exec_of_brings on runs brought, taken]
  · rw [v_eq]
    exact sampledAt_only e q now (heard c s)
  · rw [v_eq, sampledAt_told ⟨block, some_, whole⟩ level at_, owner]
    exact tellsIf_of_port (s := (heard c s).setScan { (heard c s).scan with result := some now }) rfl rfl
      (placeOn_tells p (.scanProgress now.tag now.done now.requested best pose) _)
  · subst last
    obtain ⟨done, cache⟩ := boundary_marked (q := q) at_ marked
    exact ⟨_, rfl, done, cache⟩

/-- Settles O45: the arrival of the final move ends the scan COMPLETE, and the solution is learned. -/
theorem aCompleteScanLearns : Obligations.ACompleteScanLearns := by
  intro x e q z r n k level h best reading s on runs phase target waits pan panRest tilt tiltRest slot bestLevel bestPose heading
    reached park erasing committed contents learn
  obtain ⟨-, -, ends⟩ := poseReading_scan (r := reading) on waits runs
  have stands : scanStands z.target (readingTaken reading s) := by
    rw [target]
    exact ⟨pan, panRest, tilt, tiltRest⟩
  obtain ⟨t, w, made, done, complete⟩ := ends phase stands rfl
  have solved : Solves r
      { slot := n, bearing := (best.pan + h) % 36000, elevation := best.tilt
        polarisation := (positionsOf reading.counts).pol, height := (positionsOf reading.counts).mast, peak := level }
      (recordReading reading s) :=
    ⟨slot, ⟨bestLevel, reached⟩, ⟨best, h, bestPose, heading, rfl, rfl⟩, ⟨rfl, rfl⟩, park, erasing, committed, k, contents, learn⟩
  obtain ⟨result, cache⟩ := complete.learned _ solved
  obtain ⟨queue, active, closing, -⟩ := done.queue
  refine ⟨t, made, ?_, ?_, ?_, ?_, queue, active, closing⟩
  · rw [done.scan]
  · rw [done.scan, result]
  · rw [cache]
    rfl
  · rw [cache]
    rfl

end Sys2Proof.Machine
end

section
/-! The supply: suspension, restart, and the suspension limit (R55, R69 to R78). -/

namespace Sys2Proof.Machine

variable {s t u v : State} {e : Entry} {rest : List Entry} {x : Active} {z : Scan} {q : ScanParams} {r : ScanResult}
  {a : Axis} {target : Int} {seconds : Nat}

/-! ### Loss and return -/

theorem supplyOkNegated_eq (on : s.powered = true) (supplied : s.safe.supplyOk = true) :
    exec .supplyOkNegated s = .next (takeSupplyLoss s) :=
  (exec_of_powered (f := fun s => if s.safe.supplyOk then takeSupplyLoss s else s) rfl on).trans (congrArg _ (if_pos supplied))

theorem takeSupplyLoss_idle (still : ¬isRunning s = true) : takeSupplyLoss s = setSupply false .absent false s := if_neg still

/-- A running entry is suspended where it stands (R71). -/
theorem takeSupplyLoss_suspends (h : activeIs x e rest s) (running : x.execution = .running) (auth : s.arb.auth ≠ .manualPending) :
    takeSupplyLoss s = suspendActive (setSupply false .absent false s) := by
  have lost : activeIs x e rest (setSupply false .absent false s) := h
  have suspends : takeSupplyLoss s = advance (suspendActive (setSupply false .absent false s)) := by
    unfold takeSupplyLoss
    refine (if_pos ((isRunning_iff lost.1).mpr running)).trans (congrArg advance ?_)
    exact if_neg auth
  have exe := suspendActive_exe (activeEntry_of_activeIs lost)
  rw [suspends]
  refine advance_still ?_
  rw [exe]
  exact lost.2.1

theorem isRunning_none (active : s.exe.active = none) : ¬isRunning s = true := by
  unfold isRunning
  rw [active]
  decide

theorem isRunning_suspended (active : s.exe.active = some x) (suspended : x.execution = .suspended) : ¬isRunning s = true := fun runs =>
  absurd (suspended.symm.trans ((isRunning_iff active).mp runs)) (by decide)

theorem isSuspended_of_running (running : ∀ x, s.exe.active = some x → x.execution = .running) : ¬isSuspended s = true := by
  intro suspended
  unfold isSuspended at suspended
  obtain ⟨x, active, execution⟩ := (Option.any_eq_true _ _).mp suspended
  have idle : x.execution = .suspended := by simpa using execution
  exact absurd ((running x active).symm.trans idle) (by decide)

/-! ### Restart -/

/-- The executor with the supply settled (R74). -/
def settledExe (s : State) : Executor := { s.exe with supply := .available, settle := false }

/-- The executor with the suspended entry running again, its axes idle (R74). -/
def restartExe (x : Active) (s : State) : Executor :=
  { s.exe with
    supply := .available, settle := false, suspension := none
    active := some { x with execution := .running, phases := Axes.all .idle } }

/-- The suspended entry runs again, and it is told (R74, R78). -/
def restarted (x : Active) (e : Entry) (seconds : Nat) (s : State) : State :=
  placeAll (.supplyResumed e.tag e.origin e.purpose seconds) (s.setExe (restartExe x s))

theorem restarted_only (x : Active) (e : Entry) (seconds : Nat) (s : State) :
    onlyOutputs (fun _ => [14]) (s.setExe (restartExe x s)) (restarted x e seconds s) :=
  placeAll_onlyOutputs (told := fun _ => [14]) _ (fun _ => List.mem_singleton.mpr rfl) _

theorem restarted_told (x : Active) (e : Entry) (seconds : Nat) (s : State) :
    tellsAll (.supplyResumed e.tag e.origin e.purpose seconds) s (restarted x e seconds s) :=
  tellsAll_of_ports rfl rfl (placeAll_tells (.supplyResumed e.tag e.origin e.purpose seconds) (s.setExe (restartExe x s)))

theorem restarted_kept (x : Active) (e : Entry) (seconds : Nat) (s : State) :
    (restarted x e seconds s).exe = restartExe x s ∧ (restarted x e seconds s).pose = s.pose
      ∧ (restarted x e seconds s).safe = s.safe ∧ (restarted x e seconds s).scan = s.scan
      ∧ (restarted x e seconds s).cache = s.cache ∧ (restarted x e seconds s).arb = s.arb := by
  simp [restarted]

theorem settleTimerExpiry_eq (on : s.powered = true) : exec (.settleTimerExpiry seconds) s = .next (expireSettle seconds s) :=
  exec_of_powered (f := expireSettle seconds) rfl on

/-- The settle timer restarts a suspended entry (R74, R77). -/
theorem settleTimer_restarts (on : s.powered = true) (settle : s.exe.settle = true) (h : activeIs x e rest s)
    (suspended : x.execution = .suspended) :
    exec (.settleTimerExpiry seconds) s =
      .next
        (advance
          (if e.motion.axis = none ∧ s.scan.scan.isSome = true then resumeScan (restarted x e seconds s)
          else startEntry e (restarted x e seconds s))) := by
  have now : activeIs x e rest (s.setExe (settledExe s)) := h
  have base : ((s.setExe (settledExe s)).setExe
      { (s.setExe (settledExe s)).exe with
        suspension := none
        active := (s.setExe (settledExe s)).exe.active.map (fun x => { x with execution := .running, phases := Axes.all .idle }) }) =
      s.setExe (restartExe x s) := by
    rw [now.1]
    rfl
  have restart : restartActive seconds (s.setExe (settledExe s)) =
      if e.motion.axis = none ∧ s.scan.scan.isSome = true then resumeScan (restarted x e seconds s)
      else startEntry e (restarted x e seconds s) := by
    unfold restartActive
    rw [activeEntry_of_activeIs now]
    dsimp only
    rw [base]
    rfl
  rw [settleTimerExpiry_eq on, ← restart]
  refine congrArg _ ((if_pos settle).trans ?_)
  exact if_pos ((isSuspended_iff now.1).mpr suspended)

theorem settleTimer_moves (on : s.powered = true) (settle : s.exe.settle = true) (h : activeIs x e rest s)
    (suspended : x.execution = .suspended) (axis : e.motion.axis = some a) (held : e.target = some target) :
    exec (.settleTimerExpiry seconds) s = .next (advance (startMove a target e.rate (restarted x e seconds s))) := by
  rw [settleTimer_restarts on settle h suspended, if_neg (by simp [axis]), startEntry_move axis held]

theorem settleTimer_scans (on : s.powered = true) (settle : s.exe.settle = true) (h : activeIs x e rest s)
    (suspended : x.execution = .suspended) (motion : e.motion = .scan q) (scan : s.scan.scan = some z) :
    exec (.settleTimerExpiry seconds) s = .next (advance (resumeScan (restarted x e seconds s))) := by
  rw [settleTimer_restarts on settle h suspended, if_pos ⟨by rw [motion]; rfl, by rw [scan]; rfl⟩]

theorem beginScan_eq (e : Entry) (q : ScanParams) (s : State) : beginScan e q s = s.setScan (scanBegun e.tag e.slot q.steps s) := rfl

theorem settlingToward_eq (target : Int) (a : Axis) (s : State) (active : s.exe.active = some x) :
    settleAxis a (setDirection a target s) = movedOn x a .settling (settlingToward target a s) s := by
  unfold settleAxis
  rw [setPhase_active (x := x) _ (by exact active)]
  cases a <;> rfl

/-- A restarted move outside tolerance is driven (R55, R74). -/
theorem startMove_far (active : s.exe.active = some x) (rate : Rate) (far : within a (s.pose.position.get a) target = false) :
    startMove a target rate s = movedOn x a (.driving (s.pose.counts.get a)) (drivenToward target rate a s) s := by
  unfold startMove
  rw [if_neg (by simp [far])]
  unfold driveAxis
  rw [setPhase_active (x := x) _ (by exact active)]
  rfl

theorem startMove_near (active : s.exe.active = some x) (rate : Rate) (near : within a (s.pose.position.get a) target = true)
    (moves : s.pose.atRest.get a = false) :
    startMove a target rate s = movedOn x a .settling (settlingToward target a s) s := by
  unfold startMove
  refine (if_pos near).trans ((if_neg (show ¬s.pose.atRest.get a = true by simp [moves])).trans ?_)
  exact settlingToward_eq target a s active

theorem startMove_there (rate : Rate) (near : within a (s.pose.position.get a) target = true) (stands : s.pose.atRest.get a = true) :
    startMove a target rate s = completeActive (setDirection a target s) := by
  unfold startMove
  exact (if_pos near).trans (if_pos stands)

/-! ### What a restart looks at -/

theorem settlingToward_of (pose : t.pose = s.pose) (estop : t.safe.estop = s.safe.estop)
    (drives : t.exe.drives = s.exe.drives) : settlingToward target a t = settlingToward target a s := by
  unfold settlingToward
  rw [pose, estop, drives]

theorem scanDrive_of (pose : t.pose = s.pose) (estop : t.safe.estop = s.safe.estop)
    (drives : t.exe.drives = s.exe.drives) : scanDrive target a t = scanDrive target a s := by
  unfold scanDrive
  rw [drivenToward_of pose estop, pose, drives]

theorem scanPhase_of (pose : t.pose = s.pose) : scanPhase target a t = scanPhase target a s := by
  unfold scanPhase
  rw [pose]

/-- A restart that leaves the entry running changes nothing but what it says, and tells of itself. -/
theorem restarted_runs {c : Instr} {exe : Executor} (made : exec c s = .next (advance ((restarted x e seconds s).setExe exe)))
    (closing : exe.closing = none) :
    ∃ t, exec c s = .next t ∧ onlyOutputs (fun _ => [14]) (s.setExe exe) t
      ∧ tellsAll (.supplyResumed e.tag e.origin e.purpose seconds) s t := by
  refine ⟨_, made, ?_⟩
  rw [advance_still (s := (restarted x e seconds s).setExe exe) closing]
  exact ⟨onlyOutputs_setExe (restarted_only x e seconds s) exe, tellsAll_of_ports rfl rfl (restarted_told x e seconds s)⟩

/-- A restart of a scan that leaves it running. -/
theorem restarted_scans {c : Instr} {exe : Executor} {scan : ScanEngine}
    (made : exec c s = .next (advance (((restarted x e seconds s).setExe exe).setScan scan))) (closing : exe.closing = none) :
    ∃ t, exec c s = .next t ∧ onlyOutputs (fun _ => [14]) ((s.setExe exe).setScan scan) t
      ∧ tellsAll (.supplyResumed e.tag e.origin e.purpose seconds) s t := by
  refine ⟨_, made, ?_⟩
  rw [advance_still (s := ((restarted x e seconds s).setExe exe).setScan scan) closing]
  exact ⟨onlyOutputs_setScan (onlyOutputs_setExe (restarted_only x e seconds s) exe) scan,
    tellsAll_of_ports rfl rfl (restarted_told x e seconds s)⟩

theorem restarted_like (x : Active) (e : Entry) (seconds : Nat) (s : State) :
    Like (s.setExe (settledExe s)) (restarted x e seconds s) := by
  have kept : keepsLists [14] (s.setExe (settledExe s)) (restarted x e seconds s) := fun p =>
    keepsLists_of_onlyOutputs (restarted_only x e seconds s) p
  refine like_of_placed (kinds := [14]) (by simp [restarted]) ?_ kept (by decide) (by decide)
  exact ⟨by simp [restarted], by simp [restarted], by simp [restarted], by simp [restarted], by simp [restarted],
    by simp [restarted], by simp [restarted]⟩

theorem restarted_keeps (x : Active) (e : Entry) (seconds : Nat) (s : State) :
    keepsLists [14] (s.setExe (settledExe s)) (restarted x e seconds s) := fun p =>
  keepsLists_of_onlyOutputs (restarted_only x e seconds s) p

/-- A scan that ends COMPLETE tells of its end and of the boundary alone. -/
theorem completeScan_keeps (active : s.exe.active.isSome = true) (queue : s.exe.queue = [e]) (result : s.scan.result = some r) :
    keepsLists [2, 3, 4, 7, 12, 13] s (advance (completeScan s)) := by
  have ends (learned : Bool) (u : State) (exe : u.exe = s.exe) (ports : u.ports = s.ports) :
      keepsLists [2, 3, 4, 7, 12, 13] s (advance (completeActive (finishScan .complete learned u))) := by
    have finished : (finishScan .complete learned u).exe = s.exe := (finishScan_exe _ _ u).trans exe
    exact keepsLists_trans (keepsLists_before ports (finishScan_keeps .complete learned u (by decide)))
      (advance_complete_keeps (e := e) (by rw [finished]; exact active) (by rw [finished]; exact queue) (by decide) (by decide) (by decide)
        (by decide) (by decide))
  unfold completeScan
  rw [result]
  dsimp only
  split
  · exact ends true _ rfl rfl
  · exact ends false s rfl rfl

/-- A restarted move that is already there completes (R57, R74). -/
theorem restarted_completes (on : s.powered = true) (settle : s.exe.settle = true) (h : activeIs x e [] s)
    (suspended : x.execution = .suspended) (axis : e.motion.axis = some a) (held : e.target = some target)
    (near : within a (s.pose.position.get a) target = true) (stands : s.pose.atRest.get a = true) :
    ∃ t, exec (.settleTimerExpiry seconds) s = .next t ∧ Completed [14] e (s.setExe (settledExe s)) t
      ∧ tellsAll (.supplyResumed e.tag e.origin e.purpose seconds) s t := by
  obtain ⟨exe, pose, safe, scan, cache, -⟩ := restarted_kept x e seconds s
  obtain ⟨v, v_eq⟩ : ∃ v, v = setDirection a target (restarted x e seconds s) := ⟨_, rfl⟩
  have made := settleTimer_moves (seconds := seconds) on settle h suspended axis held
  rw [startMove_there e.rate (by rw [pose]; exact near) (by rw [pose]; exact stands), ← v_eq] at made
  have active : v.exe.active.isSome = true := by
    rw [v_eq]
    show (restarted x e seconds s).exe.active.isSome = true
    rw [exe]
    rfl
  have queue : v.exe.queue = [e] := by
    rw [v_eq]
    show (restarted x e seconds s).exe.queue = [e]
    rw [exe]
    exact h.2.2
  have kept : keepsLists [14] (s.setExe (settledExe s)) v := by
    rw [v_eq]
    exact fun p => restarted_keeps x e seconds s p
  have ready : Completable e (s.setExe (settledExe s)) v := by
    rw [v_eq]
    refine ⟨like_trans (restarted_like x e seconds s) (like_of_same rfl ⟨rfl, rfl, rfl, rfl, rfl, rfl, rfl⟩ rfl), ?_, ?_,
      fun b other => ?_, ?_⟩
    · show (restarted x e seconds s).safe.group = _
      rw [safe]
      rfl
    · show (restarted x e seconds s).exe.nextTag = _ ∧ (restarted x e seconds s).exe.supply = _ ∧ (restarted x e seconds s).exe.settle = _
      rw [exe]
      exact ⟨rfl, rfl, rfl⟩
    · refine (Axes.get_set_other _ _ (other_of_axis axis other)).trans ?_
      rw [exe]
      rfl
    · rw [v_eq] at kept
      exact sameNotices_of_keeps kept (by decide)
  refine ⟨_, made, completed_of ready active queue ?_ ?_ (keepsLists_mono (by decide) kept), ?_⟩
  · rw [v_eq]
    exact scan
  · rw [v_eq]
    exact cache
  · have told : tellsAll (.supplyResumed e.tag e.origin e.purpose seconds) s v := by
      rw [v_eq]
      exact tellsAll_of_ports rfl rfl (restarted_told x e seconds s)
    have later : keepsLists [2, 3, 4, 12, 13] v (advance (completeActive v)) :=
      advance_complete_keeps active queue (by decide) (by decide) (by decide) (by decide) (by decide)
    exact tellsAll_same told (sameNotices_of_keeps later (show 14 ∉ [2, 3, 4, 12, 13] by decide))

/-- A restarted scan whose final move is already there ends COMPLETE (R74, R77, R152). -/
theorem restarted_ends (on : s.powered = true) (settle : s.exe.settle = true) (h : activeIs x e [] s)
    (suspended : x.execution = .suspended) (motion : e.motion = .scan q) (scan : s.scan.scan = some z) (phase : z.phase = .finalMove)
    (stands : scanStands z.target s) (result : s.scan.result = some r) :
    ∃ t w, exec (.settleTimerExpiry seconds) s = .next t ∧ ScanDone [14] e w (s.setExe (settledExe s)) t
      ∧ EndsComplete r w (s.setExe (settledExe s)) t ∧ tellsAll (.supplyResumed e.tag e.origin e.purpose seconds) s t := by
  obtain ⟨exe, pose, safe, scanNow, cache, -⟩ := restarted_kept x e seconds s
  obtain ⟨v, v_eq⟩ : ∃ v, v = scanStopped { x with execution := .running, phases := Axes.all .idle } (restarted x e seconds s) := ⟨_, rfl⟩
  have scanning : (restarted x e seconds s).scan.scan = some z := by rw [scanNow]; exact scan
  have made := settleTimer_scans (seconds := seconds) on settle h suspended motion scan
  have resumes : resumeScan (restarted x e seconds s) = completeScan v := by
    have driven := (driveScan_cases (aim := z.target) (x := { x with execution := .running, phases := Axes.all .idle })
      (by rw [exe]; rfl) scanning).2.2 ((scanStands_of_pose pose).mpr stands) phase
    unfold resumeScan
    rw [scanning]
    dsimp only
    rw [phase, v_eq]
    exact driven
  rw [resumes] at made
  have kept : keepsLists [14] (s.setExe (settledExe s)) v := by
    rw [v_eq]
    exact fun p => restarted_keeps x e seconds s p
  have ready : Completable e (s.setExe (settledExe s)) v := by
    refine ⟨?_, ?_, ?_, fun b other => ?_, sameNotices_of_keeps kept (by decide)⟩
    · rw [v_eq]
      exact like_trans (restarted_like x e seconds s) (like_of_same rfl ⟨rfl, rfl, rfl, rfl, rfl, rfl, rfl⟩ rfl)
    · rw [v_eq]
      show (restarted x e seconds s).safe.group = _
      rw [safe]
      rfl
    · rw [v_eq]
      show (restarted x e seconds s).exe.nextTag = _ ∧ (restarted x e seconds s).exe.supply = _ ∧ (restarted x e seconds s).exe.settle = _
      rw [exe]
      exact ⟨rfl, rfl, rfl⟩
    · have outer := (completable_scanStopped (x := { x with execution := .running, phases := Axes.all .idle }) motion
        (like_refl (restarted x e seconds s)) rfl rfl (sameNotices_refl 4 _)).drives b other
      rw [v_eq, outer, exe]
      rfl
  have queue : v.exe.queue = [e] := by
    rw [v_eq]
    show (restarted x e seconds s).exe.queue = [e]
    rw [exe]
    exact h.2.2
  obtain ⟨w, done, complete⟩ := scanCompleted_of (z := z) (r := r) (beside := [14]) ready (by rw [v_eq]; rfl) queue (by rw [v_eq]; exact scanning)
    (by rw [v_eq]; exact (congrArg ScanEngine.result scanNow).trans result) (by rw [v_eq]; exact congrArg ScanEngine.report scanNow)
    (by rw [v_eq]; exact cache) (sameNotices_of_keeps kept (by decide)) (keepsLists_mono (by decide) kept)
  refine ⟨_, w, made, done, complete, ?_⟩
  have told : tellsAll (.supplyResumed e.tag e.origin e.purpose seconds) s v := by
    rw [v_eq]
    exact tellsAll_of_ports rfl rfl (restarted_told x e seconds s)
  exact tellsAll_same told (sameNotices_of_keeps
    (completeScan_keeps (r := r) (by rw [v_eq]; rfl) queue (by rw [v_eq]; exact (congrArg ScanEngine.result scanNow).trans result))
    (show 14 ∉ [2, 3, 4, 7, 12, 13] by decide))

end Sys2Proof.Machine
end

section
/-! The supply is followed: its loss, its return, the settle timer and the suspension limit (R55, R69 to R78). -/

namespace Sys2Proof.Machine

variable {s t u v : State} {e : Entry} {rest : List Entry} {x : Active} {z : Scan} {q : ScanParams} {r : ScanResult}
  {a : Axis} {target : Int} {seconds : Nat}

/-- A restarted move that is not there yet runs again (R55, R74). -/
theorem restarted_move (on : s.powered = true) (settle : s.exe.settle = true) (h : activeIs x e rest s)
    (suspended : x.execution = .suspended) (axis : e.motion.axis = some a) (held : e.target = some target) :
    (within a (s.pose.position.get a) target = false →
        ∃ t, exec (.settleTimerExpiry seconds) s = .next t
          ∧ onlyOutputs (fun _ => [14])
              (s.setExe
                { restartExe x s with
                  active := some { x with execution := .running, phases := drivingOn a s }
                  drives := s.exe.drives.set a (drivenToward target e.rate a s) })
              t
          ∧ tellsAll (.supplyResumed e.tag e.origin e.purpose seconds) s t)
      ∧ (within a (s.pose.position.get a) target = true → s.pose.atRest.get a = false →
          ∃ t, exec (.settleTimerExpiry seconds) s = .next t
            ∧ onlyOutputs (fun _ => [14])
                (s.setExe
                  { restartExe x s with
                    active := some { x with execution := .running, phases := (Axes.all .idle).set a .settling }
                    drives := s.exe.drives.set a (settlingToward target a s) })
                t
            ∧ tellsAll (.supplyResumed e.tag e.origin e.purpose seconds) s t) := by
  obtain ⟨exe, pose, safe, -⟩ := restarted_kept x e seconds s
  have made := settleTimer_moves (seconds := seconds) on settle h suspended axis held
  have active : (restarted x e seconds s).exe.active = some { x with execution := .running, phases := Axes.all .idle } := by
    rw [exe]
    rfl
  have estop : (restarted x e seconds s).safe.estop = s.safe.estop := by rw [safe]
  have drives : (restarted x e seconds s).exe.drives = s.exe.drives := by
    rw [exe]
    rfl
  refine ⟨fun far => ?_, fun near moves => ?_⟩
  · rw [startMove_far active e.rate (by rw [pose]; exact far), drivenToward_of pose estop, pose] at made
    unfold movedOn at made
    rw [exe] at made
    exact restarted_runs made h.2.1
  · rw [startMove_near active e.rate (by rw [pose]; exact near) (by rw [pose]; exact moves), settlingToward_of pose estop drives] at made
    unfold movedOn at made
    rw [exe] at made
    exact restarted_runs made h.2.1

/-- A restarted scan repeats the part that the suspension interrupted, or begins if it had not (R69, R74, R77). -/
theorem restarted_scan (on : s.powered = true) (settle : s.exe.settle = true) (h : activeIs x e rest s)
    (suspended : x.execution = .suspended) (motion : e.motion = .scan q) :
    (s.scan.scan = none →
        ∃ t, exec (.settleTimerExpiry seconds) s = .next t
          ∧ onlyOutputs (fun _ => [14]) ((s.setExe (restartExe x s)).setScan (scanBegun e.tag e.slot q.steps s)) t
          ∧ tellsAll (.supplyResumed e.tag e.origin e.purpose seconds) s t)
      ∧ ∀ z, s.scan.scan = some z →
          (z.phase = .dwell ∨ z.phase = .levelWait →
              ∃ t, exec (.settleTimerExpiry seconds) s = .next t
                ∧ onlyOutputs (fun _ => [14]) ((s.setExe (restartExe x s)).setScan (dwellBegun z s)) t
                ∧ tellsAll (.supplyResumed e.tag e.origin e.purpose seconds) s t)
            ∧ (z.phase = .stepMove ∨ z.phase = .finalMove → ¬scanStands z.target s →
                ∃ t, exec (.settleTimerExpiry seconds) s = .next t
                  ∧ onlyOutputs (fun _ => [14])
                      (s.setExe
                        { restartExe x s with
                          active := some { x with execution := .running, phases := scanPhases z.target s }
                          drives := scanDrives z.target s })
                      t
                  ∧ tellsAll (.supplyResumed e.tag e.origin e.purpose seconds) s t)
            ∧ (z.phase = .stepMove → scanStands z.target s →
                ∃ t, exec (.settleTimerExpiry seconds) s = .next t
                  ∧ onlyOutputs (fun _ => [14])
                      ((s.setExe
                            { restartExe x s with
                              drives := { s.exe.drives with pan := s.exe.drives.pan.stop, tilt := s.exe.drives.tilt.stop } }).setScan
                        (dwellBegun z s))
                      t
                  ∧ tellsAll (.supplyResumed e.tag e.origin e.purpose seconds) s t) := by
  obtain ⟨exe, pose, safe, scanNow, -⟩ := restarted_kept x e seconds s
  have same : restarted x e seconds s = (restarted x e seconds s).setExe (restartExe x s) := (setExe_same exe).symm
  have active : (restarted x e seconds s).exe.active = some { x with execution := .running, phases := Axes.all .idle } := by
    rw [exe]
    rfl
  have estop : (restarted x e seconds s).safe.estop = s.safe.estop := by rw [safe]
  have drives : (restarted x e seconds s).exe.drives = s.exe.drives := by
    rw [exe]
    rfl
  refine ⟨fun none_ => ?_, fun z scan => ?_⟩
  · have begins : startEntry e (restarted x e seconds s) =
        ((restarted x e seconds s).setExe (restartExe x s)).setScan (scanBegun e.tag e.slot q.steps s) := by
      rw [← same]
      unfold startEntry
      rw [motion]
      dsimp only
      rw [beginScan_eq]
      unfold scanBegun
      rw [pose, scanNow]
    have made := settleTimer_restarts (seconds := seconds) on settle h suspended
    rw [if_neg (by simp [none_]), begins] at made
    exact restarted_scans made h.2.1
  · have made := settleTimer_scans (seconds := seconds) on settle h suspended motion scan
    have scanning : (restarted x e seconds s).scan.scan = some z := by rw [scanNow]; exact scan
    have dwell : dwellBegun z (restarted x e seconds s) = dwellBegun z s := by
      unfold dwellBegun
      rw [scanNow]
    have stood : scanStands z.target (restarted x e seconds s) ↔ scanStands z.target s := scanStands_of_pose pose
    have resumes (moves : z.phase = .stepMove ∨ z.phase = .finalMove) :
        resumeScan (restarted x e seconds s) = driveScan z.target (restarted x e seconds s) := by
      unfold resumeScan
      rw [scanning]
      rcases moves with phase | phase <;> dsimp only <;> rw [phase]
    obtain ⟨runs, steps, -⟩ := driveScan_cases (aim := z.target) active scanning
    refine ⟨fun still => ?_, fun moves away => ?_, fun phase stands => ?_⟩
    · have begins : resumeScan (restarted x e seconds s) =
          ((restarted x e seconds s).setExe (restartExe x s)).setScan (dwellBegun z s) := by
        rw [← same, ← dwell]
        unfold resumeScan
        rw [scanning]
        rcases still with phase | phase <;> dsimp only <;> rw [phase] <;> exact beginDwell_eq scanning
      exact restarted_scans (made.trans (by rw [begins])) h.2.1
    · rw [resumes moves, runs (mt stood.mp away)] at made
      unfold scanOn at made
      rw [scanPhase_of pose, scanPhase_of pose, scanDrive_of pose estop drives, scanDrive_of pose estop drives, exe] at made
      exact restarted_runs made h.2.1
    · rw [resumes (Or.inl phase), steps (stood.mpr stands) phase, stepArrived_eq, dwell] at made
      unfold scanStopped at made
      rw [exe] at made
      exact restarted_scans made h.2.1

/-- Settles O27: the loss of the supply suspends the running entry, its return and the settle timer restart it, and the suspension
limit fails it. -/
theorem supplyIsFollowed : Obligations.SupplyIsFollowed := by
  refine ⟨fun s u on u_eq => ⟨fun lost => ?_, fun supplied idle => ?_, fun x e rest supplied active => ⟨fun suspended => ?_, fun running auth => ?_⟩⟩,
    fun s on => ⟨fun supplied => ?_, fun lost absent => ?_, fun seconds => ⟨fun stopped => ?_, fun settle running => ?_⟩⟩,
    fun seconds x e rest b s on settle active suspended b_eq => ⟨fun a v axis held => ?_, fun q motion none_ => ?_, fun q z motion scan => ?_⟩,
    fun x e rest s on => ⟨fun active suspended => ?_, fun active running => ?_, fun idle => ?_⟩⟩
  · exact (exec_of_powered (f := fun s => if s.safe.supplyOk then takeSupplyLoss s else s) rfl on).trans
      (congrArg _ (if_neg (by simp [lost])))
  · rw [supplyOkNegated_eq on supplied, takeSupplyLoss_idle (isRunning_none idle), u_eq]
    rfl
  · rw [supplyOkNegated_eq on supplied, takeSupplyLoss_idle (isRunning_suspended active.1 suspended), u_eq]
    rfl
  · have lost : activeIs x e rest (setSupply false .absent false s) := active
    have entry := activeEntry_of_activeIs lost
    obtain ⟨only, told⟩ := suspendActive_told entry
    refine ⟨_, (stopAxes e.motion.axes s).exe.drives, (supplyOkNegated_eq on supplied).trans
      (congrArg _ (takeSupplyLoss_suspends active running auth)), ?_, fun a => ?_, tellsAll_of_ports rfl rfl told⟩
    · unfold suspendedExe at only
      rw [lost.1] at only
      rw [u_eq]
      exact only
    · rw [suspendActive_exe entry]
      exact stopAxes_get e.motion.axes s a
  · exact (exec_of_powered (f := fun s => if s.safe.supplyOk then s else takeSupplyReturn s) rfl on).trans (congrArg _ (if_pos supplied))
  · refine (exec_of_powered (f := fun s => if s.safe.supplyOk then s else takeSupplyReturn s) rfl on).trans
      (congrArg _ ((if_neg (by simp [lost])).trans ?_))
    exact if_pos absent
  · exact (settleTimerExpiry_eq on).trans (congrArg _ (if_neg (by simp [stopped])))
  · rw [settleTimerExpiry_eq on]
    refine congrArg _ ((if_pos settle).trans ?_)
    exact if_neg (isSuspended_of_running (s := s.setExe (settledExe s)) running)
  · obtain ⟨far, near⟩ := restarted_move (seconds := seconds) on settle active suspended axis held
    subst b_eq
    refine ⟨far, near, fun there stands last => ?_⟩
    subst last
    exact restarted_completes on settle active suspended axis held there stands
  · obtain ⟨begins, -⟩ := restarted_scan (seconds := seconds) on settle active suspended motion
    subst b_eq
    exact begins none_
  · obtain ⟨-, resumes⟩ := restarted_scan (seconds := seconds) on settle active suspended motion
    obtain ⟨dwells, moves, steps⟩ := resumes z scan
    subst b_eq
    refine ⟨dwells, moves, steps, fun phase stands last r u result u_eq => ?_⟩
    subst last u_eq
    exact restarted_ends on settle active suspended motion scan phase stands result
  · refine ⟨_, (exec_of_powered (f := expireSuspension) rfl on).trans
      (congrArg _ (if_pos ((isSuspended_iff active.1).mpr suspended))), ?_⟩
    exact failed_of (failable_refl _ _) (active_of_activeIs active) active.2.2
  · refine (exec_of_powered (f := expireSuspension) rfl on).trans (congrArg _ (if_neg fun suspends => ?_))
    exact absurd (running.symm.trans ((isSuspended_iff active.1).mp suspends)) (by decide)
  · refine (exec_of_powered (f := expireSuspension) rfl on).trans (congrArg _ (if_neg (isSuspended_of_running fun x active => ?_)))
    exact absurd (idle.symm.trans active) (by simp)

end Sys2Proof.Machine
end

section
/-! Submissions of an idle holder: the first entry becomes active at once (R20, R51, R53 to R55). -/

namespace Sys2Proof.Machine

variable {s t u v : State} {e : Entry} {rest : List Entry} {p : Port} {r : Request} {status : Status} {fields : List Byte}
  {ds : List Draft} {a : Axis} {target : Int} {q : ScanParams}

/-- The arbiter when the first entry of an idle holder has become active (R20, R36). -/
def movingArb (s : State) : Arbiter := { s.arb with auth := .moving, idle := none }

/-- A submission accepted with a success: appended, and answered (R51). -/
def submitted (p : Port) (r : Request) (status : Status) (fields : List Byte) (ds : List Draft) (s : State) : State :=
  doneState p r status fields (append (.port p) ds s)

theorem submit_eq (p : Port) (r : Request) (fields : List Byte) (ds : List Draft) (s : State)
    (success : status.success = true) :
    submit p ds (respond p r status fields) s = goAhead (submitted p r status fields ds s) := by
  unfold submit submitted
  rw [respond_done _ _ _ _ _ success]

theorem activatedArb_idleRestarted (held : s.arb.auth = .held) (arb : u.arb = idleRestarted p timeout s.arb) :
    activatedArb u = movingArb s := by
  unfold activatedArb movingArb
  rw [arb]
  unfold idleRestarted
  repeat' split
  all_goals simp_all

theorem submitted_activatedArb (held : s.arb.auth = .held) :
    activatedArb (submitted p r status fields ds s) = movingArb s := activatedArb_idleRestarted held rfl

theorem submitted_queue (empty : s.exe.queue = []) :
    (submitted p r status fields ds s).exe.queue = entriesOf s.exe.nextTag (.port p) s.exe.nextTag ds := by
  show s.exe.queue ++ _ = _
  rw [empty]
  rfl

/-- The entries of a submission that stand behind its first one. -/
theorem length_of_entries (entries : entriesOf s.exe.nextTag (.port p) s.exe.nextTag ds = e :: rest) :
    ds.length = rest.length + 1 := by
  rw [← entriesOf_length s.exe.nextTag (.port p) s.exe.nextTag ds, entries]
  rfl

/-- The first move of a submission passes its start checks, and is driven (R20, R54, R55). -/
theorem submit_drives (idles : idlesInHeld s) (success : status.success = true)
    (entries : entriesOf s.exe.nextTag (.port p) s.exe.nextTag ds = e :: rest) (sound : passes e a target s)
    (supply : s.exe.supply = .available) (far : within a (s.pose.position.get a) target = false) :
    submit p ds (respond p r status fields) s =
      answeredState p r status fields ((s.setExe (begunOn a target e rest s)).setArb (movingArb s)) := by
  obtain ⟨held, empty, idle, still⟩ := idles
  obtain ⟨v, v_eq⟩ : ∃ v, v = submitted p r status fields ds s := ⟨_, rfl⟩
  have queue : v.exe.queue = e :: rest := by rw [v_eq, submitted_queue empty, entries]
  have active : v.exe.active = none := by rw [v_eq]; exact idle
  have closing : v.exe.closing = none := by rw [v_eq]; exact still
  have soundNow : passes e a target v := by rw [v_eq]; exact sound
  have supplyNow : v.exe.supply = .available := by rw [v_eq]; exact supply
  have farNow : within a (v.pose.position.get a) target = false := by rw [v_eq]; exact far
  rw [submit_eq p r fields ds s success, ← v_eq]
  unfold goAhead
  rw [activate_drives active closing queue soundNow supplyNow farNow,
    advance_still (s := (v.setExe (drivenEntry a target e rest v)).setArb (activatedArb v)) closing, v_eq,
    submitted_activatedArb held]
  unfold begunOn
  rw [← length_of_entries entries]
  rfl

/-! ### A scan that begins -/

theorem startCheck_scan (motion : e.motion = .scan q) (pan : s.pose.faulted.pan = false) (tilt : s.pose.faulted.tilt = false)
    (high : 1200 ≤ s.pose.position.mast) (park : s.safe.park = true) : startCheck e s = none := by
  have verdict : envelope s e.motion.axis (e.target.getD 0) = none := by
    rw [motion]
    exact clearanceVerdict_high high
  unfold startCheck
  rw [verdict]
  simp [motion, axisFaulted, beyondLimit, pan, tilt, park]

/-- The executor when a scan has become active: no drive is touched (R54, R69). -/
def scanningEntry (e : Entry) (rest : List Entry) (s : State) : Executor :=
  { s.exe with queue := e :: rest, active := some (freshOn e s) }

theorem activate_scans (active : s.exe.active = none) (closing : s.exe.closing = none) (queue : s.exe.queue = e :: rest)
    (motion : e.motion = .scan q) (unheld : e.target = none) (pan : s.pose.faulted.pan = false)
    (tilt : s.pose.faulted.tilt = false) (high : 1200 ≤ s.pose.position.mast) (park : s.safe.park = true)
    (supply : s.exe.supply = .available) :
    activate s =
      ((s.setExe (scanningEntry e rest s)).setArb (activatedArb s)).setScan (scanBegun e.tag e.slot q.steps s) := by
  have same : { e with target := resolve e.motion s } = e := by
    have unresolved : resolve e.motion s = e.target := by
      rw [motion, unheld]
      rfl
    rw [unresolved]
  rw [activate_cons active closing queue, same]
  unfold begun
  rw [startCheck_scan (s := activated e rest s) motion pan tilt high park]
  dsimp only
  refine (if_pos supply).trans ?_
  unfold startEntry
  rw [motion]
  dsimp only
  rw [beginScan_eq]
  rfl

/-- A submission that is one scan begins it (R20, R54, R69, R145). -/
theorem submit_scans (idles : idlesInHeld s) (success : status.success = true)
    (entries : entriesOf s.exe.nextTag (.port p) s.exe.nextTag ds = [e]) (motion : e.motion = .scan q)
    (unheld : e.target = none) (pan : s.pose.faulted.pan = false) (tilt : s.pose.faulted.tilt = false)
    (high : 1200 ≤ s.pose.position.mast) (park : s.safe.park = true) (supply : s.exe.supply = .available) :
    ∃ t, submit p ds (respond p r status fields) s = t ∧ responds [] p r status fields s t ∧ t.exe.queue = [e]
      ∧ t.exe.drives = s.exe.drives ∧ t.scan = scanBegun e.tag e.slot q.steps s ∧ t.arb = movingArb s ∧ Outside s t
      ∧ t.cache = s.cache := by
  obtain ⟨held, empty, idle, still⟩ := idles
  obtain ⟨v, v_eq⟩ : ∃ v, v = submitted p r status fields ds s := ⟨_, rfl⟩
  have queue : v.exe.queue = [e] := by rw [v_eq, submitted_queue empty, entries]
  have active : v.exe.active = none := by rw [v_eq]; exact idle
  have closing : v.exe.closing = none := by rw [v_eq]; exact still
  have begins : activate v =
      ((v.setExe (scanningEntry e [] v)).setArb (activatedArb v)).setScan (scanBegun e.tag e.slot q.steps v) := by
    subst v_eq
    exact activate_scans active closing queue motion unheld pan tilt high park supply
  refine ⟨_, rfl, ?_⟩
  rw [submit_eq p r fields ds s success, ← v_eq]
  unfold goAhead
  rw [begins, advance_still
    (s := ((v.setExe (scanningEntry e [] v)).setArb (activatedArb v)).setScan (scanBegun e.tag e.slot q.steps v)) closing]
  have ports : v.ports = answer p (requestCode r) status fields s.ports := by rw [v_eq]; rfl
  refine ⟨responds_of (keepsLists_refl [] s) ports (keepsLists_of_ports rfl), rfl, ?_, ?_, ?_, ?_, ?_⟩
  · subst v_eq
    rfl
  · subst v_eq
    rfl
  · subst v_eq
    exact submitted_activatedArb held
  · subst v_eq
    exact ⟨rfl, rfl, rfl, rfl, rfl, rfl, rfl⟩
  · subst v_eq
    rfl

end Sys2Proof.Machine
end

section
/-! The first move of an idle holder: driven, settling, complete, suspended, or failed (R20, R54, R55, R61, R73). -/

namespace Sys2Proof.Machine

variable {s t u v w : State} {e e0 : Entry} {rest : List Entry} {p : Port} {r : Request} {status : Status}
  {fields : List Byte} {ds : List Draft} {a : Axis} {target : Int} {m : RawMove} {motion : Motion} {rate : Rate}

/-- The first entry of a submission has become active, and nothing else has followed yet (R51, R54). -/
def opened (p : Port) (r : Request) (status : Status) (fields : List Byte) (ds : List Draft) (e : Entry) (rest : List Entry)
    (s : State) : State :=
  activated e rest (submitted p r status fields ds s)

/-- What stands when the first entry has become active, whatever its drives are then told. -/
structure Opened (p : Port) (r : Request) (status : Status) (fields : List Byte) (s w : State) : Prop where
  arb : w.arb = movingArb s
  outside : Outside s w
  ports : w.ports = answer p (requestCode r) status fields s.ports
  scan : w.scan = s.scan

theorem opened_opened (held : s.arb.auth = .held) :
    Opened p r status fields s (opened p r status fields ds e rest s) :=
  ⟨submitted_activatedArb held, ⟨rfl, rfl, rfl, rfl, rfl, rfl, rfl⟩, rfl, rfl⟩

theorem opened_same (open_ : Opened p r status fields s w) (k : Nat) : sameNotices k s w := by
  refine sameNotices_then _ _ ?_ (respond_same k p r status fields s)
  rw [open_.ports, respond_ports]

/-- The first entry of a submission becomes active, and what follows is taken (R53, R54). -/
theorem submit_begins (idles : idlesInHeld s) (success : status.success = true)
    (entries : entriesOf s.exe.nextTag (.port p) s.exe.nextTag ds = e0 :: rest)
    (resolves : e = { e0 with target := resolve e0.motion s }) :
    submit p ds (respond p r status fields) s = advance (begun e (opened p r status fields ds e rest s)) := by
  obtain ⟨held, empty, idle, still⟩ := idles
  rw [submit_eq p r fields ds s success]
  unfold goAhead opened
  have queue : (submitted p r status fields ds s).exe.queue = e0 :: rest := by rw [submitted_queue empty, entries]
  rw [activate_cons (s := submitted p r status fields ds s) idle still queue, resolves]
  rfl

/-- The axis of a first move settles (R55, R56). -/
theorem submit_settles (idles : idlesInHeld s) (success : status.success = true)
    (entries : entriesOf s.exe.nextTag (.port p) s.exe.nextTag ds = e :: rest) (sound : passes e a target s)
    (supply : s.exe.supply = .available) (near : within a (s.pose.position.get a) target = true)
    (moves : s.pose.atRest.get a = false) :
    submit p ds (respond p r status fields) s =
      answeredState p r status fields
        ((s.setExe
              { begunOn a target e rest s with
                active := some (activeOn a target .running ((Axes.all .idle).set a .settling) s)
                drives := s.exe.drives.set a (settlingToward target a s) }).setArb
          (movingArb s)) := by
  obtain ⟨held, empty, idle, still⟩ := idles
  obtain ⟨v, v_eq⟩ : ∃ v, v = submitted p r status fields ds s := ⟨_, rfl⟩
  have queue : v.exe.queue = e :: rest := by rw [v_eq, submitted_queue empty, entries]
  have active : v.exe.active = none := by rw [v_eq]; exact idle
  have closing : v.exe.closing = none := by rw [v_eq]; exact still
  have soundNow : passes e a target v := by rw [v_eq]; exact sound
  have supplyNow : v.exe.supply = .available := by rw [v_eq]; exact supply
  have nearNow : within a (v.pose.position.get a) target = true := by rw [v_eq]; exact near
  have movesNow : v.pose.atRest.get a = false := by rw [v_eq]; exact moves
  rw [submit_eq p r fields ds s success, ← v_eq]
  unfold goAhead
  rw [activate_settles active closing queue soundNow supplyNow nearNow movesNow,
    advance_still (s := (v.setExe (settlingEntry a target e rest v)).setArb (activatedArb v)) closing, v_eq,
    submitted_activatedArb held]
  unfold begunOn
  rw [← length_of_entries entries]
  rfl

/-- A first move that stands at its target is complete (R55, R57). -/
theorem opened_arrives (open_ : Opened p r status fields s w) (holder : s.arb.holder = some (.port p))
    (active : w.exe.active.isSome = true) (queue : w.exe.queue = [e]) (origin : e.origin = .port p) :
    ∃ t, advance (completeActive w) = t ∧ responds [4] p r status fields s t ∧ t.exe = goneExe e [] w
      ∧ t.arb = heldBy p s ∧ t.scan = s.scan ∧ Outside s t ∧ tellsIf p (.segmentDone e.tag 1 0) s t := by
  have goneArb : (entryGone e [] w).arb = movingArb s := (entryGone_like e [] w).arb.trans open_.arb
  have goneOutside : Outside s (entryGone e [] w) := outside_trans open_.outside (entryGone_like e [] w).outside
  have given : advance (completeActive w) = (entryGone e [] w).setArb (heldBy p (entryGone e [] w)) := by
    rw [advance_complete_last active queue]
    exact takeBoundary_moving (by rw [goneArb]; rfl) (by rw [goneArb]; exact holder)
  have placed : keepsLists [4] (w.setExe (goneExe e [] w)) (entryGone e [] w) :=
    placeOrigin_keeps e.origin (.segmentDone e.tag 1 0) _ List.mem_cons_self
  refine ⟨_, given, responds_of (keepsLists_refl [4] s) open_.ports (fun q => placed q), entryGone_exe e [] w, ?_, ?_, ?_, ?_⟩
  · show heldBy p (entryGone e [] w) = heldBy p s
    unfold heldBy
    rw [goneArb, goneOutside.settings]
    rfl
  · show (entryGone e [] w).scan = s.scan
    rw [← open_.scan]
    simp [entryGone]
  · exact ⟨goneOutside.pending, goneOutside.powered, goneOutside.pose, goneOutside.store, goneOutside.heading,
      goneOutside.settings, goneOutside.sensed⟩
  · exact tellsIf_after (opened_same open_ 4) (entryGone_told (e := e) (rest := []) (s := w) origin)

/-- A first entry without the supply is SUSPENDED (R55, R73). -/
theorem opened_suspends (open_ : Opened p r status fields s w) (active : w.exe.active.isSome = true)
    (queue : w.exe.queue = e :: rest) (still : w.exe.closing = none) :
    ∃ t, advance (suspendOrAbandon w) = t ∧ responds [14] p r status fields s t ∧ t.exe = suspendedExe e w
      ∧ t.arb = movingArb s ∧ t.scan = s.scan ∧ Outside s t
      ∧ tellsAll (.supplySuspended e.tag e.origin e.purpose s.settings.inForce.suspension) s t := by
  have entry : activeEntry w = some e := activeEntry_of active queue
  have unpending : ¬w.arb.auth = .manualPending := by
    rw [open_.arb]
    exact fun hit => by cases hit
  have suspends : suspendOrAbandon w = suspendActive w := if_neg unpending
  have exe := suspendActive_exe entry
  obtain ⟨only, told⟩ := suspendActive_told entry
  obtain ⟨pending, powered, arb, -, pose, safe, store, -, heading, scan, settings⟩ := onlyOutputs_frame only
  have stays : advance (suspendActive w) = suspendActive w := by
    refine advance_still ?_
    rw [exe]
    exact still
  rw [suspends, stays]
  refine ⟨_, rfl, responds_of (keepsLists_refl [14] s) open_.ports (fun q => keepsLists_of_onlyOutputs only q), exe,
    arb.trans open_.arb, scan.trans open_.scan, ?_, ?_⟩
  · exact outside_trans open_.outside ⟨pending, powered, pose, store, heading, settings, by rw [safe]; rfl⟩
  · rw [← open_.outside.settings]
    exact tellsAll_after (opened_same open_ 14) told

/-- A first entry that fails a start check drives nothing, and its holder stands in HELD again (R32, R54, R61). -/
theorem opened_fails {why : EndReason} (open_ : Opened p r status fields s w) (holder : s.arb.holder = some (.port p))
    (noScan : s.scan.scan = none) (active : w.exe.active.isSome = true) (queue : w.exe.queue = [e]) (origin : e.origin = .port p) :
    ∃ t, advance (failActive why false w) = t ∧ responds [5] p r status fields s t ∧ t.exe = goneExe e [] w
      ∧ t.arb = heldBy p s ∧ t.scan = s.scan ∧ Outside s t
      ∧ tellsIf p (.segmentFailed e.tag e.motion.axis e.purpose e.slot why 0 1) s t := by
  have failedArb : (entryFailed why e 0 w).arb = movingArb s := (entryFailed_arb why e 0 w).trans open_.arb
  have failedOutside : Outside s (entryFailed why e 0 w) := outside_trans open_.outside (entryFailed_outside why e 0 w)
  have given : advance (failActive why false w) = (entryFailed why e 0 w).setArb (heldBy p (entryFailed why e 0 w)) := by
    rw [advance_fail false active queue]
    refine (if_pos rfl).trans ?_
    exact takeBoundary_moving (s := entryFailed why e 0 w) (by rw [failedArb]; rfl) (by rw [failedArb]; exact holder)
  have scanless : finishScan why false w = w := by
    unfold finishScan
    rw [open_.scan, noScan]
  have failed : entryFailed why e 0 w =
      (placeOn p (.segmentFailed e.tag e.motion.axis e.purpose e.slot why 0 1) (dropActive e w)).setExe (goneExe e [] w) := by
    unfold entryFailed
    rw [scanless, origin]
    rfl
  have placed : keepsLists [5] w (entryFailed why e 0 w) := by
    rw [failed]
    exact fun q => placeOn_keeps (kinds := [5]) p (.segmentFailed e.tag e.motion.axis e.purpose e.slot why 0 1)
      (dropActive e w) List.mem_cons_self q
  refine ⟨_, given, responds_of (keepsLists_refl [5] s) open_.ports (fun q => placed q), rfl, ?_, ?_, ?_, ?_⟩
  · show heldBy p (entryFailed why e 0 w) = heldBy p s
    unfold heldBy
    rw [failedArb, failedOutside.settings]
    rfl
  · show (entryFailed why e 0 w).scan = s.scan
    rw [failed, ← open_.scan]
    simp [dropActive]
  · exact ⟨failedOutside.pending, failedOutside.powered, failedOutside.pose, failedOutside.store, failedOutside.heading,
      failedOutside.settings, failedOutside.sensed⟩
  · exact tellsIf_after (opened_same open_ 5) (entryFailed_told (e := e) (s := w) origin 0)

/-! ### QUEUE MOVES of one move -/

/-- The entry of one move, not locked, before it is resolved (R47, R48). -/
def moveEntry (p : Port) (motion : Motion) (rate : Rate) (s : State) : Entry :=
  { tag := s.exe.nextTag, group := none, motion := motion, rate := rate, origin := .port p, purpose := .plain, slot := none
    target := none }

/-- One move as a draft. -/
def moveDraft (motion : Motion) (rate : Rate) : Draft :=
  { motion := motion, rate := rate, purpose := .plain, slot := none, locked := false }

theorem queueMoves_one (empty : s.exe.queue = []) (good : goodForm m = true) (inRange : valueFits m = true)
    (known : RawMove.motion m = some motion) (rated : Rate.ofByte? m.rate = some rate) :
    queueMoves p 0x00 [m] s =
      submit p [moveDraft motion rate] (respond p (.queueMoves 0x00 [m]) .accepted [byteOf s.exe.nextTag, 0x01, 0x01]) s := by
  have allGood : [m].all goodForm = true := by simp [good]
  have allFit : [m].all valueFits = true := by simp [inRange]
  have drafts : [m].filterMap (RawMove.draft ((0x00 : Byte) == 0x01)) = [moveDraft motion rate] := by
    simp [RawMove.draft, known, rated, moveDraft]
  have inside := firstPosition_none (drafts_inRange ((0x00 : Byte) == 0x01) allFit)
  rw [queueMoves_goodForm p (form_of (Or.inl rfl) (by simp) (by simp)) allGood, inside, drafts]
  dsimp only
  rw [if_pos (show s.exe.queue.length + [m].length ≤ 16 by simp [empty])]
  rw [empty]
  rfl

end Sys2Proof.Machine
end

section
/-! The first move of a holder in HELD starts or fails (R20, R54, R55). -/

namespace Sys2Proof.Machine

variable {s w : State} {e : Entry} {p : Port} {a : Axis} {target : Int} {motion : Motion} {rate : Rate} {m : RawMove}
  {why : EndReason}

theorem resolve_first (kind : motion = .moveTo a target ∨ motion = .moveBy a (target - s.pose.position.get a)) :
    resolve motion s = some target ∧ motion.axis = some a := by
  rcases kind with rfl | rfl
  · exact ⟨rfl, rfl⟩
  · refine ⟨?_, rfl⟩
    show some (s.pose.position.get a + (target - s.pose.position.get a)) = some target
    exact congrArg some (by omega)

/-- The start checks of a first move that fails one, in their order (R54). -/
theorem startCheck_first (known : RawMove.motion m = some e.motion) (held : e.target = some target)
    (origin : e.origin = .port p) (kind : e.motion = .moveTo a target ∨ e.motion = .moveBy a (target - s.pose.position.get a))
    (fails : (s.pose.faulted.get a = true ∧ why = .axisFaulted)
      ∨ (s.pose.faulted.get a = false ∧ m.kind = 0x01 ∧ inRange a target = false ∧ why = .limit)
      ∨ (s.pose.faulted.get a = false ∧ inRange a target = true ∧ envelope s (some a) target = some why)
      ∨ (s.pose.faulted.get a = false ∧ inRange a target = true ∧ envelope s (some a) target = none
          ∧ s.safe.park = false ∧ why = .interlock)) : startCheck e s = some why := by
  have axis : e.motion.axis = some a := (resolve_first kind).2
  have faulted : axisFaulted e.motion s = s.pose.faulted.get a := by
    rcases kind with kind | kind <;> rw [kind] <;> rfl
  have inside (fits : inRange a target = true) : beyondLimit e.motion (some target) = false := by
    rcases kind with kind | kind <;> rw [kind]
    · rfl
    · show (!inRange a target) = false
      rw [fits]
      rfl
  unfold startCheck
  rw [faulted, held, axis]
  rcases fails with ⟨bad, rfl⟩ | ⟨good, byMove, beyond, rfl⟩ | ⟨good, fits, verdict⟩ | ⟨good, fits, verdict, negated, rfl⟩
  · exact if_pos bad
  · have limit : beyondLimit e.motion (some target) = true := by
      rcases kind with kind | kind
      · obtain ⟨b, -, ⟨toKind, -⟩ | ⟨-, byMotion⟩⟩ := motion_some known
        · rw [byMove] at toKind
          exact absurd toKind (by decide)
        · rw [kind] at byMotion
          cases byMotion
      · rw [kind]
        show (!inRange a target) = true
        rw [beyond]
        rfl
    rw [good]
    exact if_pos limit
  · rw [good, inside fits]
    simp [verdict]
  · rw [good, inside fits]
    simp [verdict, negated, origin]

/-- What a first move that stops at once leaves of its own drive, and of the others (R3). -/
theorem goneExe_first (axis : e.motion.axis = some a) (drives : w.exe.drives = s.exe.drives.set a drive) :
    (goneExe e [] w).drives = s.exe.drives.set a drive.stop := by
  unfold goneExe stopAxes
  rw [axes_of_axis axis, drives]
  cases a <;> rfl

theorem idle_exe {x : Executor} (queue : x.queue = []) (active : x.active = none) (closing : x.closing = none) :
    { x with queue := [], active := none, closing := none } = x := by
  cases x
  simp_all

/-- An entry that has become active and passes its start checks starts, or is suspended (R55, R73). -/
theorem begun_passes {e0 : Entry} (sound : passes e0 a target w) (resolved : e = { e0 with target := some target }) :
    begun e w = if w.exe.supply = .available then startMove a target e.rate w else suspendOrAbandon w := by
  rw [resolved]
  unfold begun
  rw [startCheck_of_passes sound]
  dsimp only
  rw [startEntry_move (e := { e0 with target := some target }) (axis_of_passes sound) rfl]

theorem opened_setDirection {r : Request} {status : Status} {fields : List Byte} (open_ : Opened p r status fields s w) :
    Opened p r status fields s (setDirection a target w) := by
  obtain ⟨arb, ⟨pending, powered, pose, store, heading, settings, sensed⟩, ports, scan⟩ := open_
  exact ⟨arb, ⟨pending, powered, pose, store, heading, settings, sensed⟩, ports, scan⟩

/-- Settles O20: the first entry becomes active, and each of its outcomes has its lemma. -/
theorem aFirstMoveStartsOrFails : Obligations.AFirstMoveStartsOrFails := by
  rintro p m a target motion rate r e b s rfl h holder held undeferred empty idle still good fits known rated kind rfl rfl
  have may : maySubmit p s := ⟨holder, Or.inl held, undeferred⟩
  have idles : idlesInHeld s := ⟨held, empty, idle, still⟩
  obtain ⟨resolves, axis⟩ := resolve_first kind
  obtain ⟨e, e_eq⟩ : ∃ e : Entry, e = { moveEntry p motion rate s with target := some target } := ⟨_, rfl⟩
  have made : exec (.queueMoves p 0x00 [m]) s =
      .next (submit p [moveDraft motion rate]
        (respond p (.queueMoves 0x00 [m]) .accepted [byteOf s.exe.nextTag, 0x01, 0x01]) s) := by
    have arm : exec (.queueMoves p 0x00 [m]) s = .next (onRequest p (.queueMoves 0x00 [m])
      (asHolder p (.queueMoves 0x00 [m]) true (queueMoves p 0x00 [m])) s) := rfl
    rw [exec_of_takes arm h, asHolder_submits may, queueMoves_one empty good fits known rated]
  have entries : entriesOf s.exe.nextTag (.port p) s.exe.nextTag [moveDraft motion rate] = [moveEntry p motion rate s] := rfl
  obtain ⟨w, w_eq⟩ : ∃ w, w = opened p (.queueMoves 0x00 [m]) .accepted [byteOf s.exe.nextTag, 0x01, 0x01]
    [moveDraft motion rate] e [] s := ⟨_, rfl⟩
  have open_ : Opened p (.queueMoves 0x00 [m]) .accepted [byteOf s.exe.nextTag, 0x01, 0x01] s w := by
    rw [w_eq]
    exact opened_opened held
  have begins : exec (.queueMoves p 0x00 [m]) s = .next (advance (begun e w)) := by
    rw [made, submit_begins idles rfl entries (e := e) (by rw [e_eq]; unfold moveEntry; rw [resolves]), w_eq]
  have active : w.exe.active.isSome = true := by rw [w_eq]; rfl
  have queue : w.exe.queue = [e] := by rw [w_eq]; rfl
  have origin : e.origin = .port p := by rw [e_eq]; rfl
  have axisNow : e.motion.axis = some a := by rw [e_eq]; exact axis
  have rested := idle_exe empty idle still
  have drives : w.exe.drives = s.exe.drives.set a (s.exe.drives.get a) := by
    rw [axes_set_get, w_eq]
    rfl
  have stopped := goneExe_first axisNow drives
  refine ⟨fun sound => ?_, fun why noScan fails => ?_⟩
  · have soundNow : passes (moveEntry p motion rate s) a target w := by
      rw [w_eq]
      exact sound
    have starts := begun_passes soundNow e_eq
    refine ⟨fun supply far => ?_, fun supply near moves => ?_, fun supply near stands => ?_, fun supply => ?_⟩
    · rw [made, submit_drives idles rfl entries sound supply far]
      rfl
    · rw [made, submit_settles idles rfl entries sound supply near moves]
      rfl
    · have supplyNow : w.exe.supply = .available := by rw [w_eq]; exact supply
      have arrives : begun e w = completeActive (setDirection a target w) := by
        rw [starts, if_pos supplyNow]
        exact startMove_there e.rate (by rw [w_eq]; exact near) (by rw [w_eq]; exact stands)
      rw [begins, arrives]
      obtain ⟨t, ends, answers, exe, arb, scan, outside, told⟩ :=
        opened_arrives (opened_setDirection open_) holder (w := setDirection a target w) active queue origin
      refine ⟨t, congrArg _ ends, answers, ?_, arb, scan, outside, by subst e_eq; exact told⟩
      have drives : (setDirection a target w).exe.drives =
          s.exe.drives.set a { settlingToward target a s with
            enable := (s.exe.drives.get a).enable, rate := (s.exe.drives.get a).rate, brake := (s.exe.drives.get a).brake } := by
        rw [w_eq]
        rfl
      have stopped := goneExe_first axisNow drives
      have gone : goneExe e [] (setDirection a target w) =
          { ({ s.exe with queue := [], active := none, closing := none } : Executor) with
            nextTag := tagAfter s.exe.nextTag, suspension := none
            drives := (goneExe e [] (setDirection a target w)).drives } := by
        rw [w_eq]
        rfl
      rw [exe, gone, stopped, rested]
      rfl
    · have supplyNow : ¬w.exe.supply = .available := by rw [w_eq]; exact supply
      rw [begins, starts, if_neg supplyNow]
      obtain ⟨t, ends, answers, exe, arb, scan, outside, told⟩ :=
        opened_suspends open_ active queue (by rw [w_eq]; exact still)
      refine ⟨t, congrArg _ ends, answers, ?_, arb, scan, outside, by subst e_eq; exact told⟩
      have class_ : freshOn e s = activeOn a target .running (Axes.all .idle) s := by
        rw [e_eq]
        exact freshOn_move (e := moveEntry p motion rate s) axis
      have paused : suspendedExe e w =
          { s.exe with
            queue := [e], nextTag := tagAfter s.exe.nextTag
            active := some { freshOn e s with execution := .suspended, phases := Axes.all .idle }
            suspension := some s.settings.inForce.suspension
            drives := (goneExe e [] w).drives } := by
        rw [w_eq]
        unfold opened activated suspendedExe
        rfl
      rw [exe, paused, class_, stopped, e_eq]
      rfl
  · have check : startCheck e w = some why := by
      subst e_eq w_eq
      exact startCheck_first (p := p) known rfl rfl kind fails
    have ended : begun e w = failActive why false w := by
      unfold begun
      rw [check]
    rw [begins, ended]
    obtain ⟨t, ends, answers, exe, arb, scan, outside, told⟩ := opened_fails (why := why) open_ holder noScan active queue origin
    refine ⟨t, congrArg _ ends, answers, ?_, ?_, ?_, fun c other => ?_, fun still => ?_, arb, scan, outside, ?_⟩
    · rw [exe]; rfl
    · rw [exe]; rfl
    · rw [exe]; rfl
    · rw [exe, stopped]
      simp [Axes.get_set, other]
    · rw [exe, stopped]
      simp [← still]
    · rw [axisNow] at told
      subst e_eq
      exact told

end Sys2Proof.Machine
end

section
/-! PEAK: the parameters of its scan, and its one entry (R143 to R145). -/

namespace Sys2Proof.Machine

variable {s : State} {p : Port} {q : PeakParams} {base given : ScanParams}

theorem pattern_of_fits (fits : peakFits q) {x : Byte × Nat} (present : q.pattern = some x) :
    ScanPattern.ofByte? x.1 = some (if x.1 = 0x00 then .spiral else .raster) := by
  obtain ⟨pattern, -⟩ := fits
  unfold ScanPattern.ofByte?
  rcases pattern x present with spiral | ⟨raster, -⟩
  · rw [if_pos spiral, if_pos spiral]
  · rw [raster]
    rfl

theorem source_of_fits (fits : peakFits q) {b : Byte} (present : q.source = some b) :
    LevelSource.ofByte? b = some (if b = 0x00 then .analog else .link) := by
  obtain ⟨-, source, -⟩ := fits
  unfold LevelSource.ofByte?
  rcases source b present with analog | link
  · rw [if_pos analog, if_pos analog]
  · rw [link]
    rfl

theorem whole_of_fits (fits : peakFits q) (slot : q.slot = none) :
    q.pattern.isSome = true ∧ q.stepSize.isSome = true ∧ q.steps.isSome = true := by
  obtain ⟨-, -, whole, -⟩ := fits
  exact whole slot

theorem source_given (fits : peakFits q) (b : LevelSource) :
    (q.source.bind LevelSource.ofByte?).getD b =
      match q.source with
      | some x => if x = 0x00 then .analog else .link
      | none => b := by
  cases present : q.source with
  | none => rfl
  | some x =>
    rw [Option.bind_some, source_of_fits fits present]
    rfl

theorem dwell_given (o : Option Nat) (d : Int) :
    (o.map Int.ofNat).getD d =
      match o with
      | some n => (n : Int)
      | none => d := by
  cases o <;> rfl

theorem steps_given (o : Option Nat) (d : Nat) :
    (o.map stepCount).getD d =
      match o with
      | some n => if n = 0 then 256 else n
      | none => d := by
  cases o <;> rfl

/-- The parameters given over those of a record or of the settings (R144). -/
theorem peakOver_eq (fits : peakFits q)
    (present : ∀ x, q.pattern = some x →
      given.pattern = (if x.1 = 0x00 then .spiral else .raster) ∧ given.rowLength = x.2)
    (absent : q.pattern = none → given.pattern = base.pattern ∧ given.rowLength = base.rowLength)
    (stepSize : given.stepSize = q.stepSize.getD base.stepSize)
    (steps : given.steps = match q.steps with
      | some n => if n = 0 then 256 else n
      | none => base.steps)
    (source : given.source = match q.source with
      | some b => if b = 0x00 then .analog else .link
      | none => base.source)
    (dwell : given.dwell = match q.dwell with
      | some n => (n : Int)
      | none => base.dwell)
    (block : given.block = q.block.getD base.block) : peakOver q base = given := by
  have scans : (q.pattern.bind (fun x => ScanPattern.ofByte? x.1)).getD base.pattern = given.pattern
      ∧ (q.pattern.map Prod.snd).getD base.rowLength = given.rowLength := by
    cases known : q.pattern with
    | none =>
      obtain ⟨pattern, rowLength⟩ := absent known
      exact ⟨pattern.symm, rowLength.symm⟩
    | some x =>
      obtain ⟨pattern, rowLength⟩ := present x known
      rw [Option.bind_some, pattern_of_fits fits known]
      exact ⟨pattern.symm, rowLength.symm⟩
  unfold peakOver
  rw [scans.1, scans.2, ← stepSize, steps_given, source_given fits, dwell_given, ← block]
  cases given
  simp_all

/-- A PEAK of good form places its scan, the base being the settings or a record (R143, R144). -/
theorem peak_places (fits : peakFits q)
    (known : (q.slot = none ∧ peakOver q (settingsScan s.settings.inForce) = given)
      ∨ ∃ n k, q.slot = some n ∧ s.store.engine.erasing = false ∧ (s.store.slotAt n).state = .committed
          ∧ (s.store.slotAt n).contents = some k ∧ peakOver q (recordScan k.site s.settings.inForce) = given) :
    peak p q s = placeScan p (.peak q) q.slot given s := by
  rw [peak_good p fits]
  unfold buildPeak
  rcases known with ⟨slot, same⟩ | ⟨n, k, slot, still, committed, contents, same⟩
  · rw [slot]
    dsimp only
    rw [same]
  · rw [slot]
    dsimp only
    rw [slotRefusal_committed still committed, committedSite_of_committed still committed contents]
    dsimp only
    rw [same]

theorem exec_peak (h : takes p (.peak q) s) (may : maySubmit p s) : exec (.peak p q) s = .next (peak p q s) := by
  have arm : exec (.peak p q) s = .next (onRequest p (.peak q) (asHolder p (.peak q) true (peak p q)) s) := rfl
  rw [exec_of_takes arm h, asHolder_submits may]

theorem placeScan_fits {r : Request} {slot : Option Nat} (room : s.exe.queue.length < 16) :
    placeScan p r slot given s =
      submit p [scanDraft slot given]
        (respond p r .accepted (byteOf s.exe.nextTag :: byteOf (s.exe.queue.length + 1) :: scanParamBytes given)) s :=
  if_pos (fits_iff.mpr room)

/-- Settles O40. -/
theorem peakPlacesItsScan : Obligations.PeakPlacesItsScan := by
  intro p q base given s h may fits known baseDwell baseBlock present absent stepSize steps source dwell block
  have whole := whole_of_fits fits
  have placed : exec (.peak p q) s = .next (placeScan p (.peak q) q.slot given s) := by
    rw [exec_peak h may, peak_places fits]
    rcases known with ⟨slot, base_source⟩ | ⟨n, k, slot, still, committed, contents, pattern, rowLength, size, count, base_source⟩
    · obtain ⟨somePattern, someSize, someSteps⟩ := whole slot
      refine Or.inl ⟨slot, peakOver_eq fits present (fun none_ => ?_) ?_ ?_ ?_ ?_ ?_⟩
      · rw [none_] at somePattern
        cases somePattern
      · obtain ⟨n, size⟩ := Option.isSome_iff_exists.mp someSize
        rw [stepSize, size]
        rfl
      · obtain ⟨n, count⟩ := Option.isSome_iff_exists.mp someSteps
        rw [steps, count]
      · rw [source, base_source]
        rfl
      · rw [dwell, baseDwell]
        rfl
      · rw [block, baseBlock]
        rfl
    · refine Or.inr ⟨n, k, slot, still, committed, contents, peakOver_eq fits present (fun none_ => ?_) ?_ ?_ ?_ ?_ ?_⟩
      · obtain ⟨samePattern, sameLength⟩ := absent none_
        exact ⟨samePattern.trans pattern, sameLength.trans rowLength⟩
      · rw [stepSize, size]
        rfl
      · rw [steps, count]
        rfl
      · rw [source, base_source]
        rfl
      · rw [dwell, baseDwell]
        rfl
      · rw [block, baseBlock]
        rfl
  refine ⟨fun full => ?_, fun room busy still => ?_⟩
  · have refused : placeScan p (.peak q) q.slot given s = respond p (.peak q) .queueFull [byteOf (freeRoom s)] s :=
      if_neg (fun fits => absurd (fits_iff.mp fits) (by omega))
    rw [placed, refused, respond_refused _ _ _ _ _ rfl]
    rfl
  · rw [placed, placeScan_fits room, submit_waits_done p _ _ _ rfl busy still]
    rfl

/-- Settles O41: the one entry becomes active, and its scan begins. -/
theorem aPeakBeginsItsScan : Obligations.APeakBeginsItsScan := by
  intro p q s h fits slot holder held undeferred empty idle still pan tilt high park supply
  obtain ⟨somePattern, someSize, someSteps⟩ := whole_of_fits fits slot
  obtain ⟨given, given_eq⟩ : ∃ given, given = peakOver q (settingsScan s.settings.inForce) := ⟨_, rfl⟩
  have placed := exec_peak h ⟨holder, Or.inl held, undeferred⟩
  rw [peak_places fits (Or.inl ⟨slot, given_eq.symm⟩), placeScan_fits (by simp [empty])] at placed
  obtain ⟨t, made, answers, queue, drives, scan, arb, outside, -⟩ :=
    submit_scans (p := p) (r := .peak q) (status := .accepted) (ds := [scanDraft q.slot given])
      (fields := byteOf s.exe.nextTag :: byteOf (s.exe.queue.length + 1) :: scanParamBytes given)
      ⟨held, empty, idle, still⟩ rfl rfl rfl rfl pan tilt high park supply
  refine ⟨t, _, given, _, placed.trans (congrArg _ made), queue, rfl, answers, fun x present => ?_, ?_, fun n count => ?_, ?_, ?_,
    ?_, rfl, drives, outside, arb, ?_⟩
  · rw [given_eq]
    unfold peakOver
    rw [present, Option.bind_some, pattern_of_fits fits present]
    exact ⟨rfl, rfl⟩
  · obtain ⟨n, size⟩ := Option.isSome_iff_exists.mp someSize
    rw [given_eq]
    unfold peakOver
    rw [size]
    rfl
  · rw [given_eq]
    unfold peakOver
    rw [count]
    rfl
  · rw [given_eq]
    exact source_given fits _
  · rw [given_eq]
    exact dwell_given _ _
  · rw [given_eq]
    rfl
  · rw [scan, slot]
    rfl

end Sys2Proof.Machine
end

section
/-! STOW: the axes not parked, the pose that can be stowed, and the group in the stow order (R18, R142). -/

namespace Sys2Proof.Machine

variable {s : State} {p : Port} {e : Entry} {rest : List Entry} {a : Axis} {target : Int} {ds : List Draft}
  {position : Axes Int} {faulted : Axes Bool} {r : Request} {status : Status} {fields : List Byte}

/-! ### Locked groups -/

/-- Locked drafts of one kind are queued as a group with the first tag (R47, R52). -/
theorem queuedAs_entriesOf {first tag : Nat} {rate : Rate} {purpose : Purpose} {slot : Option Nat}
    (shape : ∀ d, d ∈ ds → d.locked = true ∧ d.rate = rate ∧ d.purpose = purpose ∧ d.slot = slot) :
    queuedAs (entriesOf first (.port p) tag ds) (ds.map Draft.motion) first rate purpose slot p := by
  refine ⟨entriesOf_motion first (.port p) tag ds, fun e member => ?_⟩
  obtain ⟨n, d, listed, rfl⟩ := mem_entriesOf member
  obtain ⟨locked, rate, purpose, slot⟩ := shape d listed
  refine ⟨?_, rate, purpose, slot, rfl, rfl⟩
  show (if d.locked = true then some first else none) = some first
  rw [if_pos locked]

theorem passes_of_mayDrive (may : mayDrive a target s) (motion : e.motion = .moveTo a target) : passes e a target s := by
  obtain ⟨sound, verdict, park, -, -⟩ := may
  exact ⟨Or.inl motion, sound, verdict, Or.inl park⟩

/-- The first move of an idle holder's group is driven (R20, R54, R55). -/
theorem submit_group_drives (idles : idlesInHeld s) (success : status.success = true)
    (entries : entriesOf s.exe.nextTag (.port p) s.exe.nextTag ds = e :: rest) (motion : e.motion = .moveTo a target)
    (may : mayDrive a target s) :
    submit p ds (respond p r status fields) s =
      answeredState p r status fields ((s.setExe (begunOn a target e rest s)).setArb (movingArb s)) := by
  have sound := passes_of_mayDrive may motion
  obtain ⟨-, -, -, supply, far⟩ := may
  exact submit_drives idles success entries sound supply far

/-! ### Stowability -/

theorem parked_eq_false (a : Axis) (v : Int) : parked a v = false ↔ tolerance a < (v - parkValue a).natAbs := by
  simp [parked, within]

theorem mem_stowAxes : a ∈ stowAxes position ↔ tolerance a < (position.get a - parkValue a).natAbs := by
  have listed : a ∈ [Axis.pol, .tilt, .pan, .mast] := by cases a <;> decide
  unfold stowAxes
  rw [List.mem_filter, ← parked_eq_false]
  simp [listed]

theorem parked_of_notMem (spared : a ∉ stowAxes position) : parked a (position.get a) = true := by
  rw [mem_stowAxes, ← parked_eq_false] at spared
  exact eq_true_of_ne_false spared

theorem notMem_of_parked (rests : parked a (position.get a) = true) : a ∉ stowAxes position := by
  rw [mem_stowAxes, ← parked_eq_false, rests]
  exact fun hit => by cases hit

theorem clearToStow_iff :
    clearToStow position = true ↔ 1200 ≤ position.mast ∨ (Axis.pan ∉ stowAxes position ∧ Axis.tilt ∉ stowAxes position) := by
  unfold clearToStow
  rw [Bool.or_eq_true, decide_eq_true_iff, Bool.and_eq_true]
  refine or_congr Iff.rfl (and_congr ?_ ?_)
  · exact ⟨fun rests => notMem_of_parked (a := .pan) rests, fun spared => parked_of_notMem (a := .pan) spared⟩
  · exact ⟨fun rests => notMem_of_parked (a := .tilt) rests, fun spared => parked_of_notMem (a := .tilt) spared⟩

theorem stowFault_none (sound : ∀ b, b ∈ stowAxes position → faulted.get b = false) : stowFault position faulted = none := by
  unfold stowFault
  rw [List.find?_eq_none]
  intro b needed
  simp [sound b needed]

theorem stowFault_isNone_iff :
    (stowFault position faulted).isNone = true ↔ ∀ a, a ∈ stowAxes position → faulted.get a = false := by
  refine ⟨fun none_ a needed => ?_, fun sound => by rw [stowFault_none sound]; rfl⟩
  rw [Option.isNone_iff_eq_none] at none_
  unfold stowFault at none_
  rw [List.find?_eq_none] at none_
  exact eq_false_of_ne_true (none_ a needed)

theorem stowable_iff :
    stowable position faulted = true ↔
      (1200 ≤ position.mast ∨ (Axis.pan ∉ stowAxes position ∧ Axis.tilt ∉ stowAxes position))
        ∧ ∀ a, a ∈ stowAxes position → faulted.get a = false := by
  unfold stowable
  rw [Bool.and_eq_true, clearToStow_iff, stowFault_isNone_iff]

theorem stowFault_first {front others : List Axis} (needed : stowAxes position = front ++ a :: others)
    (sound : ∀ b, b ∈ front → faulted.get b = false) (bad : faulted.get a = true) : stowFault position faulted = some a := by
  have skipped : front.find? (fun b => faulted.get b) = none := by
    rw [List.find?_eq_none]
    intro b listed
    simp [sound b listed]
  unfold stowFault
  rw [needed, List.find?_append, skipped, List.find?_cons_of_pos bad]
  rfl

/-! ### STOW -/

theorem length_stowDrafts (position : Axes Int) : (stowDrafts position).length = (stowAxes position).length :=
  List.length_map ..

theorem motions_stowDrafts (position : Axes Int) :
    (stowDrafts position).map Draft.motion = (stowAxes position).map (fun a => Motion.moveTo a (parkValue a)) := by
  unfold stowDrafts
  rw [List.map_map]
  rfl

theorem shape_stowDrafts (d : Draft) (listed : d ∈ stowDrafts position) :
    d.locked = true ∧ d.rate = .normal ∧ d.purpose = .stow ∧ d.slot = none := by
  obtain ⟨a, -, rfl⟩ := List.mem_map.mp listed
  exact ⟨rfl, rfl, rfl, rfl⟩

theorem exec_stow (h : takes p .stow s) (may : maySubmit p s) : exec (.stow p) s = .next (stow p s) := by
  have arm : exec (.stow p) s = .next (onRequest p .stow (asHolder p .stow true (stow p)) s) := rfl
  rw [exec_of_takes arm h, asHolder_submits may]

/-- A STOW that is not blocked: nothing to do, a group, or no room (R142). -/
theorem stow_unblocked (clear : clearToStow s.pose.position = true)
    (sound : ∀ b, b ∈ stowAxes s.pose.position → s.pose.faulted.get b = false) :
    stow p s =
      if stowDrafts s.pose.position = [] then respond p .stow .done [0x00] s
      else if fits (stowDrafts s.pose.position).length s then
        submit p (stowDrafts s.pose.position)
          (respond p .stow .accepted
            [byteOf s.exe.nextTag, byteOf (stowDrafts s.pose.position).length,
              byteOf (s.exe.queue.length + (stowDrafts s.pose.position).length)]) s
      else respond p .stow .queueFull [byteOf (freeRoom s)] s := by
  unfold stow
  dsimp only
  rw [clear, stowFault_none sound]
  rfl

theorem stow_unclear (unclear : clearToStow s.pose.position = false) :
    stow p s = respond p .stow .stowBlocked [0x00] s := by
  unfold stow
  dsimp only
  rw [if_pos unclear]

theorem stow_faulted (clear : clearToStow s.pose.position = true) (bad : stowFault s.pose.position s.pose.faulted = some a) :
    stow p s = respond p .stow .stowBlocked [0x01, axisCode a] s := by
  unfold stow
  dsimp only
  rw [clear, bad]
  rfl

/-- Settles O39. -/
theorem stowQueuesItsGroup : Obligations.StowQueuesItsGroup := by
  refine ⟨fun position faulted => ⟨fun a => mem_stowAxes, List.filter_sublist, stowable_iff⟩, ?_⟩
  rintro p needed s h may rfl
  have made := exec_stow h may
  refine ⟨fun low blocks => ?_, fun free => ?_⟩
  · have unclear : clearToStow s.pose.position = false := by
      refine eq_false_of_ne_true fun clear => ?_
      rcases clearToStow_iff.mp clear with high | ⟨pan, tilt⟩
      · omega
      · exact blocks.elim pan tilt
    rw [made, stow_unclear unclear, respond_refused _ _ _ _ _ rfl]
  have clear := clearToStow_iff.mpr free
  refine ⟨fun front a others needed sound bad => ?_, fun nothing => ?_, fun some_ sound => ?_⟩
  · rw [made, stow_faulted clear (stowFault_first needed sound bad), respond_refused _ _ _ _ _ rfl]
  · have sound : ∀ b, b ∈ stowAxes s.pose.position → s.pose.faulted.get b = false := by
      rw [nothing]
      exact fun b listed => by cases listed
    have empty : stowDrafts s.pose.position = [] := by
      unfold stowDrafts
      rw [nothing]
      rfl
    rw [made, stow_unblocked clear sound, if_pos empty, respond_done _ _ _ _ _ rfl]
  · have length := length_stowDrafts s.pose.position
    have present : stowDrafts s.pose.position ≠ [] := fun empty => some_ (List.map_eq_nil_iff.mp empty)
    have few := stowAxes_length s.pose.position
    rw [stow_unblocked clear sound, if_neg present, length] at made
    have queued := queuedAs_entriesOf (p := p) (first := s.exe.nextTag) (tag := s.exe.nextTag)
      (shape_stowDrafts (position := s.pose.position))
    rw [motions_stowDrafts] at queued
    refine ⟨fun full => ?_, _, _, rfl, queued, entriesOf_tagged _ _ _ (by omega), fun room busy still => ?_,
      fun a others e rest idles needed group may => ?_⟩
    · rw [made, if_neg (fun fits => absurd (fits_iff.mp fits) (by omega)), respond_refused _ _ _ _ _ rfl]
      rfl
    · rw [made, if_pos (fits_iff.mpr room), submit_waits_done p _ _ _ rfl busy still, length]
    · obtain ⟨motions, -⟩ := queued
      rw [group, needed] at motions
      have motion : e.motion = .moveTo a (parkValue a) := (List.cons.inj motions).1
      have room : s.exe.queue.length + (stowAxes s.pose.position).length ≤ 16 := by
        obtain ⟨-, empty, -⟩ := idles
        rw [empty, List.length_nil]
        omega
      rw [made, if_pos (fits_iff.mpr room), submit_group_drives idles rfl group motion may]
      rfl

end Sys2Proof.Machine
end

section
/-! AIM: the cache's entry or the record, the locked group, and the SCAN entry (R129, R138 to R141). -/

namespace Sys2Proof.Machine

variable {s u : State} {p : Port} {e : Entry} {r : Request} {status : Status} {fields : List Byte} {slot : Nat} {flag : Byte}
  {hit : Bool} {aim_ : AimFields} {site : SiteFields} {h : Int}

/-- The aim fields of a cache entry found, or of the record (R138). -/
def fieldsFound (found : Option CacheEntry) (site : SiteFields) : AimFields :=
  match found with
  | some e => aimOfEntry e
  | none => aimOfSite site

/-- A move of an AIM as a draft (R141). -/
def aimDraft (slot : Nat) (t : Axis × Int) : Draft :=
  { motion := .moveTo t.1 t.2, rate := .normal, purpose := .aim, slot := some slot, locked := true }

/-- The targets of an AIM that lie outside tolerance (R139 to R141). -/
def aimTargets (aim_ : AimFields) (h : Int) (s : State) : List (Axis × Int) :=
  [(Axis.mast, min aim_.height (windCeiling s)), (.pan, panTarget aim_.bearing h s.pose.position.pan), (.tilt, aim_.tilt),
      (.pol, aim_.polarisation)].filter
    (fun t => !within t.1 (s.pose.position.get t.1) t.2)

/-- The SCAN entry of an AIM, if it is wanted, as drafts (R141, R144). -/
def scanDrafts (slot : Nat) (flag : Byte) (hit : Bool) (site : SiteFields) (s : State) : List Draft :=
  if scanWanted flag hit then [scanDraft (some slot) (recordScan site s.settings.inForce)] else []

/-- The submission of an AIM: its group, and its scan behind it (R141). -/
def aimed (slot : Nat) (flag : Byte) (hit : Bool) (aim_ : AimFields) (site : SiteFields) (h : Int) (s : State) : List Draft :=
  (aimTargets aim_ h s).map (aimDraft slot) ++ scanDrafts slot flag hit site s

/-- The fields of AIMED (R141). -/
def aimedFields (n : Nat) (hit low scans : Bool) (s : State) : List Byte :=
  [if n = 0 then 0x00 else byteOf s.exe.nextTag, byteOf n, boolByte hit, boolByte low, boolByte scans]

theorem aimAt_eq (found : (cacheEntry s.cache slot).isSome = hit) (known : fieldsFound (cacheEntry s.cache slot) site = aim_)
    (u_eq : u = s.setCache (s.cache.lookedUp slot)) :
    aimAt p r slot flag site h s =
      if fits (aimed slot flag hit aim_ site h u).length u then
        submit p (aimed slot flag hit aim_ site h u)
          (respond p r .aimed
            (aimedFields (aimed slot flag hit aim_ site h u).length hit (decide (windCeiling u < aim_.height))
              (scanWanted flag hit) u)) u
      else respond p r .queueFull [byteOf (freeRoom u)] u := by
  have tags : (if aimed slot flag hit aim_ site h u = [] then 0x00 else byteOf u.exe.nextTag) =
      if (aimed slot flag hit aim_ site h u).length = 0 then (0x00 : Byte) else byteOf u.exe.nextTag := by
    simp only [List.length_eq_zero_iff]
  unfold aimedFields
  rw [← tags]
  subst found known u_eq
  rfl

theorem aim_aims (good : flag.toNat ≤ 2) (small : slot ≤ 47) {heading : Option Int} {k : Contents}
    (fits : ∀ v, heading = some v → 0 ≤ v ∧ v ≤ 35999) (still : s.store.engine.erasing = false)
    (committed : (s.store.slotAt slot).state = .committed) (contents : (s.store.slotAt slot).contents = some k)
    (known : heading.or s.heading = some h) :
    aim p slot heading flag s = aimAt p (.aim slot heading flag) slot flag k.site h (s.setHeading (some h)) := by
  rw [aim_good p good small fits, known]
  unfold resolveAim
  rw [State.setHeading_store, slotRefusal_committed still committed, committedSite_of_committed still committed contents]
  rfl

theorem exec_aim {heading : Option Int} (taken : takes p (.aim slot heading flag) s) (may : maySubmit p s) :
    exec (.aim p slot heading flag) s = .next (aim p slot heading flag s) := by
  have arm : exec (.aim p slot heading flag) s = .next (onRequest p (.aim slot heading flag)
    (asHolder p (.aim slot heading flag) true (aim p slot heading flag)) s) := rfl
  rw [exec_of_takes arm taken, asHolder_submits may]

theorem shape_aimDrafts {targets : List (Axis × Int)} (d : Draft) (listed : d ∈ targets.map (aimDraft slot)) :
    d.locked = true ∧ d.rate = .normal ∧ d.purpose = .aim ∧ d.slot = some slot := by
  obtain ⟨t, -, rfl⟩ := List.mem_map.mp listed
  exact ⟨rfl, rfl, rfl, rfl⟩

theorem motions_aimDrafts (targets : List (Axis × Int)) :
    (targets.map (aimDraft slot)).map Draft.motion = targets.map (fun t => Motion.moveTo t.1 t.2) := by
  rw [List.map_map]
  rfl

theorem length_aimTargets (aim_ : AimFields) (h : Int) (s : State) : (aimTargets aim_ h s).length ≤ 4 :=
  List.length_filter_le _ _

theorem scanWanted_iff : scanWanted flag hit = true ↔ flag = 0x02 ∨ (flag = 0x01 ∧ hit = false) := by
  simp [scanWanted]

theorem motions_scanDrafts (slot : Nat) (flag : Byte) (hit : Bool) (site : SiteFields) (s : State) :
    (scanDrafts slot flag hit site s).map Draft.motion =
      if flag = 0x02 ∨ (flag = 0x01 ∧ hit = false) then [Motion.scan (recordScan site s.settings.inForce)] else [] := by
  unfold scanDrafts
  by_cases wanted : scanWanted flag hit = true
  · rw [if_pos wanted, if_pos (scanWanted_iff.mp wanted)]
    rfl
  · rw [if_neg wanted, if_neg (fun hit => wanted (scanWanted_iff.mpr hit))]
    rfl

theorem length_scanDrafts (slot : Nat) (flag : Byte) (hit : Bool) (site : SiteFields) (s : State) :
    (scanDrafts slot flag hit site s).length ≤ 1 := by
  unfold scanDrafts
  split
  · exact Nat.le_refl _
  · exact Nat.zero_le 1

theorem scanEntries_present (first tag : Nat) (origin : Party) (slot : Nat) (flag : Byte) (hit : Bool) (site : SiteFields) (s : State) :
    (!(entriesOf first origin tag (scanDrafts slot flag hit site s)).isEmpty) = scanWanted flag hit := by
  unfold scanDrafts
  cases scanWanted flag hit <;> rfl

theorem tag_of_entries {first tag : Nat} {origin : Party} {ds : List Draft} {rest : List Entry}
    (entries : entriesOf first origin tag ds = e :: rest) : e.tag = tag := by
  cases ds with
  | nil => cases entries
  | cons d ds =>
    unfold entriesOf at entries
    obtain ⟨rfl, -⟩ := List.cons.inj entries
    rfl

/-- The entries of an AIM's scan (R47, R141). -/
theorem scanEntry_shape {first tag : Nat} (member : e ∈ entriesOf first (.port p) tag (scanDrafts slot flag hit site s)) :
    e.group = none ∧ e.rate = .slow ∧ e.purpose = .scan ∧ e.slot = some slot ∧ e.origin = .port p ∧ e.target = none := by
  obtain ⟨n, d, listed, rfl⟩ := mem_entriesOf member
  unfold scanDrafts at listed
  split at listed
  · obtain rfl := List.mem_singleton.mp listed
    exact ⟨rfl, rfl, rfl, rfl, rfl, rfl⟩
  · cases listed

/-- With nothing to place a submission is answered alone (R51). -/
theorem submit_nothing (idles : idlesInHeld s) (success : status.success = true) :
    submit p [] (respond p r status fields) s = doneState p r status fields s := by
  obtain ⟨-, empty, -, still⟩ := idles
  have same : append (.port p) [] s = s := by
    refine setExe_same ?_
    show s.exe = { s.exe with queue := s.exe.queue ++ [], nextTag := s.exe.nextTag }
    rw [List.append_nil]
  rw [submit_eq p r fields [] s success]
  unfold goAhead submitted
  rw [same, activate_nil (s := doneState p r status fields s) empty, advance_still (s := doneState p r status fields s) still]

/-- What the cache offers to an AIM, from what it holds for the slot (R129, R138). -/
theorem lookedUp_of {found : Cache} {k : Contents}
    (fields : match s.cache.entries.find? (fun e => e.slot == slot) with
      | some e =>
        hit = true ∧ aim_ = { bearing := e.bearing, tilt := e.elevation, polarisation := e.polarisation, height := e.height }
      | none =>
        hit = false
          ∧ aim_ =
            { bearing := k.site.bearing.toNat, tilt := k.site.elevation.toInt
              polarisation := k.site.polarisation.toInt, height := k.site.height.toNat })
    (cache : found = match s.cache.entries.find? (fun e => e.slot == slot) with
      | some e => { s.cache with entries := e :: s.cache.entries.filter (fun x => x.slot != slot) }
      | none => s.cache) :
    (cacheEntry s.cache slot).isSome = hit ∧ fieldsFound (cacheEntry s.cache slot) k.site = aim_
      ∧ s.cache.lookedUp slot = found := by
  unfold Cache.lookedUp cacheEntry
  cases held : s.cache.entries.find? (fun e => e.slot == slot) with
  | none =>
    rw [held] at fields cache
    obtain ⟨rfl, rfl⟩ := fields
    exact ⟨rfl, rfl, cache.symm⟩
  | some e =>
    rw [held] at fields cache
    obtain ⟨rfl, rfl⟩ := fields
    exact ⟨rfl, rfl, cache.symm⟩

/-- Settles O38. -/
theorem aimQueuesItsGroup : Obligations.AimQueuesItsGroup := by
  rintro p slot heading flag h height k aim_ hit targets found r s u rfl taken may small good fits still committed contents known
    fields rfl targets_eq found_eq rfl
  obtain ⟨isHit, aims, cache⟩ := lookedUp_of fields found_eq
  obtain ⟨u, u_eq⟩ : ∃ u, u = (s.setHeading (some h)).setCache found := ⟨_, rfl⟩
  rw [← u_eq]
  have exeNow : u.exe = s.exe := by rw [u_eq]; rfl
  have targetsNow : aimTargets aim_ h u = targets := by
    rw [targets_eq, u_eq]
    rfl
  have scansNow : scanDrafts slot flag hit k.site u = scanDrafts slot flag hit k.site s := by
    rw [u_eq]
    rfl
  obtain ⟨ds, ds_eq⟩ : ∃ ds, ds = aimed slot flag hit aim_ k.site h u := ⟨_, rfl⟩
  have split_ : ds = targets.map (aimDraft slot) ++ scanDrafts slot flag hit k.site s := by
    rw [ds_eq, ← targetsNow, ← scansNow]
    rfl
  obtain ⟨low, low_eq⟩ : ∃ low, low = decide (windCeiling s < aim_.height) := ⟨_, rfl⟩
  have made : exec (.aim p slot heading flag) s =
      .next (if Sys2Proof.Machine.fits ds.length u then
          submit p ds (respond p (.aim slot heading flag) .aimed (aimedFields ds.length hit low (scanWanted flag hit) s)) u
        else respond p (.aim slot heading flag) .queueFull [byteOf (freeRoom u)] u) := by
    rw [exec_aim taken may, aim_aims good small fits still committed contents known,
      aimAt_eq (s := s.setHeading (some h)) isHit aims (u := u) (by rw [u_eq, ← cache]; rfl), ← ds_eq, low_eq]
    have sameFields : aimedFields ds.length hit (decide (windCeiling u < aim_.height)) (scanWanted flag hit) u =
        aimedFields ds.length hit (decide (windCeiling s < aim_.height)) (scanWanted flag hit) s := by
      rw [u_eq]
      rfl
    rw [sameFields]
  obtain ⟨group, group_eq⟩ : ∃ group, group = entriesOf s.exe.nextTag (.port p) s.exe.nextTag (targets.map (aimDraft slot)) :=
    ⟨_, rfl⟩
  obtain ⟨scan, scan_eq⟩ : ∃ scan, scan = entriesOf s.exe.nextTag (.port p)
    (tagsAfter s.exe.nextTag (targets.map (aimDraft slot)).length) (scanDrafts slot flag hit k.site s) := ⟨_, rfl⟩
  have entries : entriesOf s.exe.nextTag (.port p) s.exe.nextTag ds = group ++ scan := by
    rw [split_, entriesOf_append, group_eq, scan_eq]
  have count : ds.length = group.length + scan.length := by
    rw [← List.length_append, ← entries, entriesOf_length]
  have queued : queuedAs group (targets.map (fun t => Motion.moveTo t.1 t.2)) s.exe.nextTag .normal .aim (some slot) p := by
    rw [group_eq, ← motions_aimDrafts (slot := slot)]
    exact queuedAs_entriesOf shape_aimDrafts
  have scanMotions : scan.map Entry.motion =
      if flag = 0x02 ∨ (flag = 0x01 ∧ hit = false) then [Motion.scan (recordScan k.site s.settings.inForce)] else [] := by
    rw [scan_eq, entriesOf_motion, motions_scanDrafts]
  have few : ds.length ≤ 5 := by
    have groupFew : (targets.map (aimDraft slot)).length ≤ 4 := by
      rw [List.length_map, ← targetsNow]
      exact length_aimTargets aim_ h u
    have scanFew := length_scanDrafts slot flag hit k.site s
    rw [split_, List.length_append]
    omega
  have scanFlag : (!scan.isEmpty) = scanWanted flag hit := by
    rw [scan_eq]
    exact scanEntries_present ..
  refine ⟨group, scan, ds.length, aimedFields ds.length hit low (scanWanted flag hit) s, count, ?_, queued, scanMotions,
    fun e member => scanEntry_shape (scan_eq ▸ member), ?_, fun full => ?_, fun room busy closing => ?_, fun idles => ?_⟩
  · rw [scanFlag, low_eq]
    rfl
  · rw [← entries]
    exact entriesOf_tagged _ _ _ (by omega)
  · rw [made, if_neg (fun fits => absurd (fits_iff.mp fits) (by rw [exeNow]; omega)), respond_refused _ _ _ _ _ rfl]
    unfold freeRoom
    rw [exeNow]
    rfl
  · have appended : s.exe.queue ++ group ++ scan = s.exe.queue ++ entriesOf s.exe.nextTag (.port p) s.exe.nextTag ds := by
      rw [entries, List.append_assoc]
    rw [made, if_pos (fits_iff.mpr (by rw [exeNow]; exact room)),
      submit_waits_done p _ _ _ rfl (by rw [exeNow]; exact busy) (by rw [exeNow]; exact closing), appended, exeNow]
  · have idlesNow : idlesInHeld u := by
      rw [u_eq]
      exact idles
    have room : Sys2Proof.Machine.fits ds.length u = true := by
      obtain ⟨-, empty, -⟩ := idles
      refine fits_iff.mpr ?_
      rw [exeNow, empty, List.length_nil]
      omega
    rw [made, if_pos room]
    refine ⟨fun none_ => ?_, fun a v e others first group_cons may => ?_, fun e alone one pan tilt high park supply => ?_⟩
    · obtain rfl := List.length_eq_zero_iff.mp none_
      rw [submit_nothing idlesNow rfl]
    · have entriesNow : entriesOf u.exe.nextTag (.port p) u.exe.nextTag ds = e :: (others ++ scan) := by
        rw [exeNow, entries, group_cons, List.cons_append]
      have motion : e.motion = .moveTo a v := by
        obtain ⟨motions, -⟩ := queued
        have heads := congrArg List.head? motions
        rw [group_cons, List.head?_map, List.head?_map, first] at heads
        exact Option.some.inj heads
      rw [submit_group_drives idlesNow rfl entriesNow motion (by rw [u_eq]; exact may), u_eq]
      rfl
    · have entriesNow : entriesOf u.exe.nextTag (.port p) u.exe.nextTag ds = [e] := by
        rw [exeNow, entries, alone, one, List.nil_append]
      obtain ⟨-, -, -, ofSlot, -, unheld⟩ := scanEntry_shape (scan_eq ▸ one ▸ List.mem_singleton_self e)
      have motion : e.motion = .scan (recordScan k.site s.settings.inForce) := by
        rw [one] at scanMotions
        split at scanMotions
        · exact (List.cons.inj scanMotions).1
        · cases scanMotions
      obtain ⟨t, ends, answers, queue, drives, begun, arb, outside, kept⟩ :=
        submit_scans (p := p) (r := .aim slot heading flag) (status := .aimed)
          (fields := aimedFields ds.length hit low (scanWanted flag hit) s) idlesNow rfl entriesNow motion unheld
          (by rw [u_eq]; exact pan) (by rw [u_eq]; exact tilt) (by rw [u_eq]; exact high) (by rw [u_eq]; exact park)
          (by rw [u_eq]; exact supply)
      have tag : e.tag = s.exe.nextTag := (tag_of_entries entriesNow).trans (by rw [exeNow])
      rw [tag, ofSlot] at begun
      subst u_eq
      exact ⟨t, congrArg _ ends, answers, queue, drives, begun, arb, outside.heading, kept⟩

end Sys2Proof.Machine
end

section
/-! A lockout reason ends the work of a holder, and LOCKOUT is entered (R42, R45, R62, R66). -/

namespace Sys2Proof.Machine

variable {s t u v w : State} {k : LockReason} {left : Reasons} {why : EndReason} {p q : Port}

/-! ### The halt of another block -/

/-- The executor once another block has halted it (R66). -/
def haltedExe (s : State) : Executor :=
  { s.exe with
    queue := [], active := none, closing := none, suspension := none
    drives :=
      { mast := haltedDrive .mast s, pan := haltedDrive .pan s, tilt := haltedDrive .tilt s, pol := haltedDrive .pol s } }

theorem haltedExe_get (s : State) (a : Axis) : (haltedExe s).drives.get a = haltedDrive a s := by cases a <;> rfl

theorem haltByOrder_exe (why : EndReason) (s : State) : (haltByOrder why s).exe = haltedExe s := by
  have scanned : (finishScan why false s).exe = s.exe := finishScan_exe why false s
  unfold haltByOrder haltAll haltedExe haltedDrive
  cases entry : activeEntry s with
  | none =>
    simp only [State.setExe_exe, scanned]
    rfl
  | some e =>
    simp only [State.setExe_exe, stopAxes, scanned]
    rfl

theorem haltByOrder_scan (why : EndReason) (s : State) : (haltByOrder why s).scan = (finishScan why false s).scan := by
  unfold haltByOrder haltAll
  cases activeEntry s <;> rfl

theorem haltedExe_of_exe (exe : t.exe = s.exe) : haltedExe t = haltedExe s := by
  unfold haltedExe haltedDrive activeEntry
  rw [exe]

/-- With nothing queued, active or closing a halt changes nothing. -/
theorem haltedExe_idle (queue : s.exe.queue = []) (active : s.exe.active = none) (closing : s.exe.closing = none)
    (suspension : s.exe.suspension = none) : haltedExe s = s.exe := by
  have entry : activeEntry s = none := activeEntry_none active
  unfold haltedExe haltedDrive
  rw [entry, ← queue, ← suspension]
  cases exe : s.exe
  rw [exe] at active closing
  cases active
  cases closing
  rfl

theorem finishScan_scan_of (exe : t.exe = s.exe) (scan : t.scan = s.scan) :
    (finishScan why false t).scan = (finishScan why false s).scan := by
  have entry : activeEntry t = activeEntry s := by
    unfold activeEntry
    rw [exe]
  unfold finishScan
  rw [scan, entry]
  split <;> simp [scan]

/-- The work before another block takes authority: halted, a port holder told, and a safety group cut short (R40, R42, R62). -/
def haltedFor (why : EndReason) (lost : AuthReason) (s : State) : State :=
  groupCut
    (placeAuthority s.arb.holder .lost (some lost) (activeTag s) (waitingCount s) (haltByOrder why s))

/-- What the halt for another block leaves (R40, R42, R62, R66, R94, R98). -/
structure HaltedFor (why : EndReason) (lost : AuthReason) (s v : State) : Prop where
  arb : v.arb = s.arb
  exe : v.exe = haltedExe s
  scan : ∀ x e rest, activeIs x e rest s → scanEnds why s v
  told : ∀ q : Port, s.arb.holder = some (.port q) →
    tells q (.authority .lost (some lost) (activeTag s) (waitingCount s)) s v
  lists : keepsLists [2, 7, 12] s v
  outside : Outside s v
  cache : v.cache = s.cache
  group : v.safe.group = none
  park : v.safe.alarmPark = s.safe.alarmPark
  masked : masked 12 s v
  kept : s.safe.group ≠ some .windLowering →
    v.safe.alarmWind = s.safe.alarmWind ∧ v.safe.alarm = s.safe.alarm ∧ keepsLists [2, 7] s v
  raised : s.safe.group = some .windLowering →
    v.safe.alarmWind = true ∧ v.safe.alarm = true
      ∧ (s.safe.alarm = false →
          tellsAll (.condition .alarm s.arb.reasons s.pose.latch s.safe.alarmPark true s.settings.defaulted) s v)

theorem groupCut_masked (s : State) : masked 12 s (groupCut s) := by
  unfold groupCut
  dsimp only
  split
  · exact fun p hidden => setAlarmCauses_masked _ _ (s.setSafe { s.safe with group := none }) p hidden
  · exact masked_of_ports rfl

theorem haltedFor_halted (why : EndReason) (lost : AuthReason) (s : State) : HaltedFor why lost s (haltedFor why lost s) := by
  obtain ⟨c, c_eq⟩ : ∃ c, c = haltByOrder why s := ⟨_, rfl⟩
  obtain ⟨d, d_eq⟩ : ∃ d, d = placeAuthority s.arb.holder .lost (some lost) (activeTag s) (waitingCount s) c := ⟨_, rfl⟩
  have made : haltedFor why lost s = groupCut d := by
    unfold haltedFor
    rw [d_eq, c_eq]
  have halted : keepsLists [7] s c := by
    rw [c_eq]
    exact haltByOrder_keeps why s List.mem_cons_self
  have placed : keepsLists [2] c d := by
    rw [d_eq]
    exact placeAuthority_keeps _ _ _ _ _ c List.mem_cons_self
  have cut : keepsLists [12] d (groupCut d) := groupCut_keeps d List.mem_cons_self
  have before : keepsLists [2, 7] s d :=
    keepsLists_trans (keepsLists_mono (by decide) halted) (keepsLists_mono (by decide) placed)
  have arb : d.arb = s.arb := by rw [d_eq, c_eq]; simp
  have safe : d.safe = s.safe := by rw [d_eq, c_eq]; simp
  have pose : d.pose = s.pose := by rw [d_eq, c_eq]; simp
  have settings : d.settings = s.settings := by rw [d_eq, c_eq]; simp
  have sameBefore : sameNotices 12 s d := sameNotices_of_keeps before (by decide)
  obtain ⟨group, park, kept, raised⟩ := groupCut_cut d
  rw [safe] at park kept raised
  rw [made]
  refine ⟨by simp [arb], ?_, fun x e rest active => ?_, fun q holder => ?_, ?_, ?_, ?_, group, park, ?_, fun other => ?_,
    fun lowering => ?_⟩
  · have exe : d.exe = haltedExe s := by
      rw [d_eq, c_eq, ← haltByOrder_exe why s]
      simp
    simp [exe]
  · refine finishScan_scanEnds (activeEntry_of_activeIs active) ?_
    rw [← haltByOrder_scan why s, ← c_eq]
    rw [d_eq]
    simp
  · have told : tells q (.authority .lost (some lost) (activeTag s) (waitingCount s)) c d := by
      rw [d_eq, holder]
      exact placeAlways_tells q (.authority .lost (some lost) (activeTag s) (waitingCount s)) c
    exact tells_same (tells_after (sameNotices_of_keeps halted (show 2 ∉ [7] by decide)) told)
      (sameNotices_of_keeps cut (show 2 ∉ [12] by decide))
  · exact keepsLists_trans (keepsLists_mono (by decide) before) (keepsLists_mono (by decide) cut)
  · rw [d_eq, c_eq]
    exact ⟨by simp, by simp, by simp, by simp, by simp, by simp,
      sensed_of (by simp) (by simp) (by simp) (by simp) (by simp) (by simp) (by simp) (by simp) (by simp) (by simp)⟩
  · rw [d_eq, c_eq]
    simp
  · exact masked_trans (fun p => (before p).2) (masked_of_same sameBefore) (groupCut_masked d)
  · obtain ⟨wind, alarm, ports⟩ := kept other
    exact ⟨wind, alarm, keepsLists_then before ports⟩
  · obtain ⟨wind, alarm, told⟩ := raised lowering
    refine ⟨wind, alarm, fun silent => ?_⟩
    have toldNow := told silent
    rw [arb, pose, settings] at toldNow
    exact tellsAll_after sameBefore toldNow

/-! ### The ending report outstanding -/

/-- The reasons with the one that an outstanding ending report adds (R42, R62, R98). -/
def withOutstanding (reasons : Reasons) (s : State) : Reasons :=
  { reasons with
    stowFailed := reasons.stowFailed || (decide (closingFailed s = some .parkStow) && !s.safe.park) }

theorem failedStowWaits_eq (s : State) : failedStowWaits s = decide (closingFailed s = some .parkStow) := by
  unfold failedStowWaits closingFailed
  cases s.exe.closing with
  | none => rfl
  | some c => exact Bool.beq_eq_decide_eq _ _

theorem withOutstanding_none (none_ : closingFailed s ≠ some .parkStow) (reasons : Reasons) :
    withOutstanding reasons s = reasons := by
  unfold withOutstanding
  simp [none_]

/-- The report outstanding adds its reason exactly where the set then changes. -/
theorem outstanding_iff (s : State) :
    (failedStowWaits s = true ∧ s.safe.park = false ∧ s.arb.reasons.stowFailed = false) ↔
      withOutstanding s.arb.reasons s ≠ s.arb.reasons := by
  rw [failedStowWaits_eq]
  unfold withOutstanding
  cases s.arb.reasons
  cases decide (closingFailed s = some .parkStow) <;> cases s.safe.park <;> simp

theorem withOutstanding_put (changes : withOutstanding s.arb.reasons s ≠ s.arb.reasons) :
    withOutstanding s.arb.reasons s = s.arb.reasons.put .stowFailed true := by
  obtain ⟨waits, negated, -⟩ := (outstanding_iff s).mpr changes
  unfold withOutstanding
  rw [← failedStowWaits_eq, waits, negated]
  simp [Reasons.put]

theorem takeOutstanding_eq (s : State) :
    takeOutstanding s =
      if withOutstanding s.arb.reasons s = s.arb.reasons then s else enlistReason .stowFailed s := by
  unfold takeOutstanding
  by_cases same : withOutstanding s.arb.reasons s = s.arb.reasons
  · rw [if_pos same, if_neg (fun hit => (outstanding_iff s).mp hit same)]
  · rw [if_neg same, if_pos ((outstanding_iff s).mpr same)]

/-- The reason of an outstanding report joins the set, told if it is new (R45, R62). -/
theorem takeOutstanding_told (s : State) :
    onlyOutputs (fun _ => [12]) (s.setArb { s.arb with reasons := withOutstanding s.arb.reasons s }) (takeOutstanding s)
      ∧ (withOutstanding s.arb.reasons s ≠ s.arb.reasons →
          tellsAll
            (.condition .lockout (withOutstanding s.arb.reasons s) s.pose.latch s.safe.alarmPark s.safe.alarmWind
              s.settings.defaulted) s (takeOutstanding s)) := by
  rw [takeOutstanding_eq]
  by_cases same : withOutstanding s.arb.reasons s = s.arb.reasons
  · rw [if_pos same, same]
    exact ⟨onlyOutputs_refl _ s, fun other => absurd rfl other⟩
  · rw [if_neg same, withOutstanding_put same]
    obtain ⟨only, told⟩ := enlistReason_told .stowFailed s
    exact ⟨only, fun _ => told⟩

/-! ### What stands before LOCKOUT is entered -/

/-- The work of a holder has been ended for a lockout reason, and LOCKOUT is about to be entered with this set (R42, R62, R66,
R94, R98). -/
structure Locking (why : EndReason) (lost : AuthReason) (left : Reasons) (s v : State) : Prop where
  arb : v.arb = { s.arb with reasons := left }
  exe : v.exe = haltedExe s
  scan : ∀ x e rest, activeIs x e rest s → scanEnds why s v
  told : ∀ q : Port, s.arb.holder = some (.port q) →
    tells q (.authority .lost (some lost) (activeTag s) (waitingCount s)) s v
  lists : keepsLists [2, 7, 12] s v
  outside : Outside s v
  cache : v.cache = s.cache
  group : v.safe.group = none
  park : v.safe.alarmPark = s.safe.alarmPark
  kept : s.safe.group ≠ some .windLowering →
    v.safe.alarmWind = s.safe.alarmWind ∧ v.safe.alarm = s.safe.alarm
      ∧ tellsAll
          (.condition .lockout left s.pose.latch s.safe.alarmPark s.safe.alarmWind s.settings.defaulted) s v
  raised : s.safe.group = some .windLowering →
    v.safe.alarmWind = true ∧ v.safe.alarm = true
      ∧ (s.safe.alarm = false →
          tellsAll (.condition .alarm left s.pose.latch s.safe.alarmPark true s.settings.defaulted) s v)

/-- LOCKOUT is entered, and a crank that was waited for is granted (R42, R82). -/
def lockedState (auth : AuthState) (v : State) : State :=
  if auth = .manualPending then grantCrank 0 0 0 0 (enterLockout v) else enterLockout v

theorem lockOut_eq (k : LockReason) (s : State) :
    lockOut k s = lockedState s.arb.auth (haltedFor (haltReason k) (lostReason k) (takeOutstanding s)) := by
  have holder : (takeOutstanding s).arb.holder = s.arb.holder := by
    rw [takeOutstanding_eq]
    split <;> simp [enlistReason]
  have tag : activeTag (takeOutstanding s) = activeTag s := by simp [activeTag, activeEntry]
  have count : waitingCount (takeOutstanding s) = waitingCount s := by simp [waitingCount]
  unfold lockOut lockedState haltedFor
  rw [holder, tag, count]
  dsimp only
  by_cases pending : s.arb.auth = .manualPending
  · rw [if_pos pending, pending]
    rfl
  · rw [if_neg pending, if_neg (by simpa using pending)]

theorem holder_of_port (port : (holderPort s).isSome = true) : ∃ p, s.arb.holder = some (.port p) := by
  unfold holderPort at port
  split at port
  · exact ⟨_, by assumption⟩
  · cases port

theorem addReason_held (held : s.arb.reasons.has k = true) : addReason k s = s := if_pos held

theorem addReason_locksOut (new : s.arb.reasons.has k = false)
    (auth : s.arb.auth = .held ∨ s.arb.auth = .moving ∨ s.arb.auth = .yielding ∨ s.arb.auth = .manualPending)
    (owner : (holderPort s).isSome = true ∨ k = .estop) : addReason k s = lockOut k (enlistReason k s) := by
  have absent : ¬s.arb.reasons.has k = true := by simp [new]
  unfold addReason
  rw [if_neg absent]
  dsimp only
  rcases owner with port | rfl
  · obtain ⟨p, holder⟩ := holder_of_port port
    rw [holder]
    rcases auth with held | moving | yielding | pending
    · rw [held]
    · rw [moving]
    · rw [yielding]
    · rw [pending]
  · rcases auth with auth | auth | auth | auth <;> rw [auth] <;> rcases s.arb.holder with _ | _ | _ <;> rfl

theorem addReason_free (new : s.arb.reasons.has k = false) (free : s.arb.auth = .free) :
    addReason k s = enterLockout (enlistReason k s) := by
  have absent : ¬s.arb.reasons.has k = true := by simp [new]
  unfold addReason
  rw [if_neg absent, free]

theorem addReason_joins (new : s.arb.reasons.has k = false) (auth : s.arb.auth = .manual ∨ s.arb.auth = .lockout) :
    addReason k s = enlistReason k s := by
  have absent : ¬s.arb.reasons.has k = true := by simp [new]
  unfold addReason
  rw [if_neg absent]
  rcases auth with manual | lockout
  · rw [manual]
  · rw [lockout]

theorem withOutstanding_of (exe : t.exe = s.exe) (park : t.safe.park = s.safe.park) (reasons : Reasons) :
    withOutstanding reasons t = withOutstanding reasons s := by
  unfold withOutstanding closingFailed
  rw [exe, park]

/-- The reasons join the set before the work is ended, each told (R42, R45). -/
theorem enlisted_told (k : LockReason) (s : State) :
    onlyOutputs (fun _ => [12]) (s.setArb { s.arb with reasons := withOutstanding (s.arb.reasons.put k true) s })
        (takeOutstanding (enlistReason k s))
      ∧ tellsAll
          (.condition .lockout (withOutstanding (s.arb.reasons.put k true) s) s.pose.latch s.safe.alarmPark s.safe.alarmWind
            s.settings.defaulted) s (takeOutstanding (enlistReason k s)) := by
  obtain ⟨a, a_eq⟩ : ∃ a, a = enlistReason k s := ⟨_, rfl⟩
  obtain ⟨onlyA, toldA⟩ := enlistReason_told k s
  rw [← a_eq] at onlyA toldA ⊢
  obtain ⟨-, -, arb, exe, pose, safe, -, -, -, -, settings⟩ := onlyOutputs_frame onlyA
  have park : a.safe.park = s.safe.park := congrArg SafetyMonitor.park safe
  have left : withOutstanding a.arb.reasons a = withOutstanding (s.arb.reasons.put k true) s := by
    rw [arb, withOutstanding_of exe park]
    rfl
  obtain ⟨onlyB, toldB⟩ := takeOutstanding_told a
  rw [left] at onlyB toldB
  refine ⟨?_, ?_⟩
  · have joined := onlyOutputs_setArb onlyA { s.arb with reasons := withOutstanding (s.arb.reasons.put k true) s }
    have same : { a.arb with reasons := withOutstanding (s.arb.reasons.put k true) s } =
        { s.arb with reasons := withOutstanding (s.arb.reasons.put k true) s } := by
      rw [arb]
      rfl
    rw [same] at onlyB
    exact onlyOutputs_trans joined onlyB
  · by_cases same : withOutstanding (s.arb.reasons.put k true) s = s.arb.reasons.put k true
    · have unchanged : takeOutstanding a = a := by
        rw [takeOutstanding_eq, left, if_pos (by rw [same, arb]; rfl)]
      rw [unchanged, same]
      exact toldA
    · have changes : withOutstanding (s.arb.reasons.put k true) s ≠ a.arb.reasons := by
        rw [arb]
        exact same
      have told := toldB changes
      rw [pose, safe, settings] at told
      exact tellsAll_again toldA told rfl (plain_condition _ _ _ _ _ _) fun p => onlyOutputs_mask onlyA p

/-- The state in which LOCKOUT is entered for a reason (R42). -/
def lockingFor (k : LockReason) (s : State) : State :=
  haltedFor (haltReason k) (lostReason k) (takeOutstanding (enlistReason k s))

/-- What ends the work of a holder (R42). -/
theorem locking_lockingFor (k : LockReason) (s : State) :
    Locking (haltReason k) (lostReason k) (withOutstanding (s.arb.reasons.put k true) s) s (lockingFor k s) := by
  unfold lockingFor
  obtain ⟨b, b_eq⟩ : ∃ b, b = takeOutstanding (enlistReason k s) := ⟨_, rfl⟩
  obtain ⟨only, told⟩ := enlisted_told k s
  rw [← b_eq] at only told ⊢
  have halted := haltedFor_halted (haltReason k) (lostReason k) b
  obtain ⟨pending, powered, arb, exe, pose, safe, store, cache, heading, scan, settings⟩ := onlyOutputs_frame only
  have lists : keepsLists [12] s b := fun p => keepsLists_of_onlyOutputs only p
  have outside : Outside s b := ⟨pending, powered, pose, store, heading, settings, by rw [safe]; rfl⟩
  have holder : b.arb.holder = s.arb.holder := (congrArg Arbiter.holder arb :)
  have exeNow : b.exe = s.exe := exe
  have safeNow : b.safe = s.safe := safe
  have poseNow : b.pose = s.pose := pose
  have settingsNow : b.settings = s.settings := settings
  have tag : activeTag b = activeTag s := by
    unfold activeTag activeEntry
    rw [exeNow]
  have count : waitingCount b = waitingCount s := by
    unfold waitingCount
    rw [exeNow]
  refine ⟨halted.arb.trans arb, halted.exe.trans (haltedExe_of_exe exe), fun x e rest active => ?_, fun q owner => ?_,
    keepsLists_trans (keepsLists_mono (by decide) lists) halted.lists, outside_trans outside halted.outside,
    halted.cache.trans cache, halted.group, halted.park.trans (by rw [safeNow]), fun other => ?_, fun lowering => ?_⟩
  · have activeNow : activeIs x e rest b := by
      unfold activeIs
      rw [exeNow]
      exact active
    have ends := halted.scan x e rest activeNow
    have scanNow : b.scan = s.scan := scan
    unfold scanEnds at ends ⊢
    rw [scanNow] at ends
    exact ends
  · have placed := halted.told q (holder.trans owner)
    rw [tag, count] at placed
    exact tells_after (sameNotices_of_keeps lists (show 2 ∉ [12] by decide)) placed
  · obtain ⟨wind, alarm, kept⟩ := halted.kept (by rw [safeNow]; exact other)
    exact ⟨by rw [wind, safeNow], by rw [alarm, safeNow],
      tellsAll_same told (sameNotices_of_keeps kept (show 12 ∉ [2, 7] by decide))⟩
  · obtain ⟨wind, alarm, sounded⟩ := halted.raised (by rw [safeNow]; exact lowering)
    refine ⟨wind, alarm, fun silent => ?_⟩
    have placed := sounded (by rw [safeNow]; exact silent)
    rw [arb, poseNow, safeNow, settingsNow] at placed
    have hidden : masked 12 s b := masked_of_tellsAll told
    exact tellsAll_masked (plain_condition _ _ _ _ _ _) (fun p => (lists p).2) hidden placed

/-! ### LOCKOUT entered -/

/-- What entering LOCKOUT, and then granting a crank that was waited for, leaves (R42, R45, R82). -/
theorem lockedState_rest (auth : AuthState) (v : State) :
    (lockedState auth v).safe = v.safe ∧ (lockedState auth v).scan = v.scan ∧ (lockedState auth v).cache = v.cache
      ∧ (lockedState auth v).exe = { v.exe with closing := none } ∧ Outside v (lockedState auth v)
      ∧ keepsLists [3, 13] v (lockedState auth v) := by
  have entered : keepsLists [3, 13] v (enterLockout v) := enterLockout_keeps v (by decide)
  unfold lockedState
  split
  · refine ⟨by simp, by simp, by simp, by simp [enterLockout_exe], ?_, ?_⟩
    · exact ⟨by simp, by simp, by simp, by simp, by simp, by simp, by simp⟩
    · have granted := grantCrank_onlyOutputs 0 0 0 0 (enterLockout v)
      have quiet_ : (fun p => if (enterLockout v).arb.holder = some (.port p) ∧ (enterLockout v).arb.releaseMark = false
          then [2, 13] else [13]) = fun _ => [13] := by
        funext p
        exact if_neg (fun hit => by cases hit.1)
      rw [quiet_] at granted
      exact keepsLists_trans entered
        (keepsLists_mono (by decide) fun p => keepsLists_of_onlyOutputs granted p)
  · refine ⟨by simp, by simp, by simp, enterLockout_exe v, ?_, entered⟩
    exact ⟨by simp, by simp, by simp, by simp, by simp, by simp, by simp⟩

/-- A reason added to a holder's work locks it out (R42). -/
theorem addReason_lockedState (new : s.arb.reasons.has k = false)
    (auth : s.arb.auth = .held ∨ s.arb.auth = .moving ∨ s.arb.auth = .yielding ∨ s.arb.auth = .manualPending)
    (owner : (holderPort s).isSome = true ∨ k = .estop) : addReason k s = lockedState s.arb.auth (lockingFor k s) := by
  have same : (enlistReason k s).arb.auth = s.arb.auth := by simp [enlistReason]
  rw [addReason_locksOut new auth owner, lockOut_eq, same]
  rfl

/-- The work has been ended, and LOCKOUT is entered with it (R42, R45, R62, R82). -/
theorem lockedOut_of (before : Locking why lost left s v) : LockedOut why lost left s (lockedState s.arb.auth v) := by
  obtain ⟨-, scan, -, exe, -, lists⟩ := lockedState_rest s.arb.auth v
  have arb : (enterLockout v).arb = lockedOut left s := by
    rw [enterLockout_arb, before.arb]
    rfl
  have entered : keepsLists [2, 3, 7, 12] s (enterLockout v) :=
    keepsLists_trans (keepsLists_mono (by decide) before.lists) (enterLockout_keeps v (by decide))
  refine ⟨fun unpending => ?_, fun pending => ?_, ?_, fun x e rest active => ?_, fun q holder => ?_, fun c claimed => ?_⟩
  · unfold lockedState
    rw [if_neg unpending, arb]
  · unfold lockedState
    rw [if_pos pending, grantCrank_arb]
    refine ⟨?_, ?_⟩
    · unfold crankGranted
      rw [arb]
      rfl
    · have begun := grantCrank_begun 0 0 0 0 (enterLockout v)
      rw [arb] at begun
      exact tellsAll_after (sameNotices_of_keeps entered (show 13 ∉ [2, 3, 7, 12] by decide)) begun
  · rw [exe, before.exe]
    exact ⟨rfl, rfl, rfl, rfl, rfl, rfl, rfl⟩
  · have ends := before.scan x e rest active
    unfold scanEnds at ends ⊢
    rw [scan, ends]
  · exact tells_same (before.told q holder) (sameNotices_of_keeps lists (show 2 ∉ [3, 13] by decide))
  · have listed : c ∈ v.arb.claims := by
      rw [before.arb]
      exact claimed
    have refused : tells c .claimRefused s (enterLockout v) :=
      tells_after (sameNotices_of_keeps before.lists (show 3 ∉ [2, 7, 12] by decide)) (enterLockout_tells v listed)
    unfold lockedState
    split
    · exact tells_same refused (sameNotices_of_keeps
        (grantCrank_keeps (kinds := [2, 13]) 0 0 0 0 (enterLockout v) (by decide) (by decide)) (show 3 ∉ [2, 13] by decide))
    · exact refused

end Sys2Proof.Machine
end

section
/-! The emergency stop locks out (R42, R45, R62, R100 to R102). -/

namespace Sys2Proof.Machine

variable {s t u v : State} {left : Reasons}

/-- The state in which the ESTOP reason is added: the line recorded, every drive stopped (R101). -/
def estopped (s : State) : State := stopAxes (Axes.all true) (setEstop true s)

theorem estopAsserted_rises (on : s.powered = true) (negated : s.safe.estop = false) :
    exec .estopAsserted s = .next (addReason .estop (estopped s)) := by
  have lowered : ¬s.safe.estop = true := by simp [negated]
  have arm : exec .estopAsserted s = .next (whenPowered (fun s => if s.safe.estop then s else takeEstop s) s) := rfl
  rw [exec_of_powered arm on, if_neg lowered]
  rfl

theorem stopped_stop (d : Drive) : d.stop.stop = d.stop := rfl

theorem estopped_get (s : State) (a : Axis) : (estopped s).exe.drives.get a = (s.exe.drives.get a).stop := by
  cases a <;> rfl

theorem estopped_haltedDrive (s : State) (a : Axis) : haltedDrive a (estopped s) = (s.exe.drives.get a).stop := by
  unfold haltedDrive
  rw [estopped_get]
  split
  · split <;> rfl
  · rfl

/-- The drives stay stopped whatever the reason then does. -/
theorem stopsOnly_estopped (drives : ∀ a, t.exe.drives.get a = (s.exe.drives.get a).stop) : stopsOnly (Axes.all true) s t := by
  intro a
  rw [drives a]
  cases a <;> rfl

/-- What was ended is counted from the state before the line was recorded. -/
theorem lockedOut_estopped {why : EndReason} {lost : AuthReason} (h : LockedOut why lost left (estopped s) t) :
    LockedOut why lost left s t := by
  obtain ⟨locks, crank, work, scan, told, refused⟩ := h
  exact ⟨locks, crank, work, fun x e rest active => scan x e rest active, told, refused⟩

/-- The emergency stop leaves every drive stopped, whatever the reason then ends (R101). -/
theorem addReason_estopped_drives (s : State) (a : Axis) :
    ((addReason .estop (estopped s)).exe.drives).get a = (s.exe.drives.get a).stop := by
  cases new : s.arb.reasons.estop with
  | true =>
    rw [addReason_held (k := .estop) (s := estopped s) new]
    exact estopped_get s a
  | false =>
    have fresh : (estopped s).arb.reasons.has .estop = false := new
    have halts (auth : s.arb.auth = .held ∨ s.arb.auth = .moving ∨ s.arb.auth = .yielding ∨ s.arb.auth = .manualPending) :
        ((addReason .estop (estopped s)).exe.drives).get a = (s.exe.drives.get a).stop := by
      obtain ⟨-, -, -, exe, -⟩ := lockedState_rest s.arb.auth (lockingFor .estop (estopped s))
      have drives : (lockedState s.arb.auth (lockingFor .estop (estopped s))).exe.drives = (haltedExe (estopped s)).drives := by
        rw [exe, (locking_lockingFor .estop (estopped s)).exe]
      rw [addReason_lockedState fresh auth (Or.inr rfl)]
      show ((lockedState s.arb.auth (lockingFor .estop (estopped s))).exe.drives).get a = _
      rw [drives, haltedExe_get, estopped_haltedDrive]
    have stays (exe : (addReason .estop (estopped s)).exe.drives = (estopped s).exe.drives) :
        ((addReason .estop (estopped s)).exe.drives).get a = (s.exe.drives.get a).stop := by
      rw [exe, estopped_get]
    cases auth : s.arb.auth with
    | free => exact stays (by rw [addReason_free fresh auth, enterLockout_exe]; simp)
    | manual => exact stays (by rw [addReason_joins fresh (Or.inl auth)]; simp)
    | lockout => exact stays (by rw [addReason_joins fresh (Or.inr auth)]; simp)
    | held => exact halts (Or.inl auth)
    | moving => exact halts (Or.inr (Or.inl auth))
    | yielding => exact halts (Or.inr (Or.inr (Or.inl auth)))
    | manualPending => exact halts (Or.inr (Or.inr (Or.inr auth)))

/-- Settles O30. -/
theorem estopLocksOut : Obligations.EstopLocksOut := by
  rintro left s on left_eq
  refine ⟨fun asserted => ?_, fun negated => ?_, exec_of_powered (f := setEstop false) rfl on⟩
  · have arm : exec .estopAsserted s = .next (whenPowered (fun s => if s.safe.estop then s else takeEstop s) s) := rfl
    rw [exec_of_powered arm on, if_pos asserted]
  have lists : keepsLists [2, 3, 7, 12, 13] (estopped s) (addReason .estop (estopped s)) :=
    addReason_keeps .estop (estopped s) (by decide) (by decide) (by decide) (by decide) (by decide)
  obtain ⟨only, told⟩ := enlistReason_told .estop (estopped s)
  have joined : keepsLists [12] s (enlistReason .estop (estopped s)) := fun p => keepsLists_of_onlyOutputs only p
  obtain ⟨-, -, enlisted, -⟩ := onlyOutputs_frame only
  have besidesNow : sameBesides [2, 3, 7, 12, 13] s (addReason .estop (estopped s)) :=
    sameBesides_of_keeps fun p => lists p
  refine ⟨_, estopAsserted_rises on negated, by simp [estopped, stopAxes], stopsOnly_estopped (fun a => ?_),
    by simp [estopped, stopAxes], by simp [estopped, stopAxes], by simp [estopped, stopAxes], by simp [estopped, stopAxes],
    by simp [estopped, stopAxes], besidesNow, fun held => ?_, fun new => ⟨fun free => ?_, fun auth => ?_, fun auth => ?_, fun auth => ?_⟩⟩
  · exact addReason_estopped_drives s a
  · rw [addReason_held (k := .estop) (s := estopped s) held]
    exact ⟨rfl, rfl, rfl, rfl⟩
  · rw [addReason_free (k := .estop) (s := estopped s) new free]
    refine ⟨?_, fun c claimed => ?_⟩
    · rw [enterLockout_arb, enlisted]
      rfl
    · refine tells_after (sameNotices_of_keeps (fun p => joined p) (show 3 ∉ [12] by decide)) (enterLockout_tells _ ?_)
      rw [enlisted]
      exact claimed
  · rw [addReason_joins (k := .estop) (s := estopped s) new auth]
    exact enlisted
  · rcases auth with free | auth
    · rw [addReason_free (k := .estop) (s := estopped s) new free]
      exact tellsAll_same told
        (sameNotices_of_keeps (enterLockout_keeps (kinds := [3]) _ (by decide)) (show 12 ∉ [3] by decide))
    · rw [addReason_joins (k := .estop) (s := estopped s) new auth]
      exact told
  · have locking := locking_lockingFor .estop (estopped s)
    have out := lockedOut_of locking
    obtain ⟨safe, -, -, -, -, entered⟩ := lockedState_rest s.arb.auth (lockingFor .estop (estopped s))
    have later : sameNotices 12 (lockingFor .estop (estopped s)) (lockedState s.arb.auth (lockingFor .estop (estopped s))) :=
      sameNotices_of_keeps entered (by decide)
    rw [addReason_lockedState (k := .estop) (s := estopped s) new auth (Or.inr rfl)]
    subst left_eq
    refine ⟨lockedOut_estopped out, ?_, fun other => ?_, fun lowering => ?_⟩
    · rw [← locking.group]
      exact congrArg SafetyMonitor.group safe
    · obtain ⟨wind, -, toldNow⟩ := locking.kept other
      exact ⟨(congrArg SafetyMonitor.alarmWind safe).trans wind, tellsAll_same toldNow later⟩
    · obtain ⟨wind, alarm, sounded⟩ := locking.raised lowering
      exact ⟨(congrArg SafetyMonitor.alarmWind safe).trans wind, (congrArg SafetyMonitor.alarm safe).trans alarm,
        fun silent => tellsAll_same (sounded silent) later⟩

end Sys2Proof.Machine
end

section
/-! SAFETY takes authority: what stands before its first entry becomes active, and the park stow that begins (R38, R40, R97). -/

namespace Sys2Proof.Machine

variable {s t u v w : State} {e : Entry} {rest : List Entry} {x : Active} {a : Axis} {target : Int} {group : SafetyGroup}
  {ds : List Draft} {p : Port}

/-! ### The taking -/

/-- The arbiter once SAFETY has taken authority (R38, R40). -/
def takenArb (s : State) : Arbiter :=
  { s.arb with
    auth := if s.arb.auth = .manualPending then .manualPending else .moving
    holder := some .safety, releaseMark := false, idle := none, deferred := none }

/-- SAFETY has taken authority, and its entries are queued (R38, R40, R53). -/
def takenBy (group : SafetyGroup) (ds : List Draft) (s : State) : State :=
  let v := haltedFor .safety .safety s
  append .safety ds ((v.setArb (takenArb s)).setSafe { v.safe with group := some group })

/-- What the taking leaves (R38, R40, R62, R66, R94, R98). -/
structure Taken (group : SafetyGroup) (ds : List Draft) (s w : State) : Prop where
  arb : w.arb = takenArb s
  exe : w.exe =
    { haltedExe s with
      queue := entriesOf s.exe.nextTag .safety s.exe.nextTag ds, nextTag := tagsAfter s.exe.nextTag ds.length }
  scan : ∀ x e rest, activeIs x e rest s → scanEnds .safety s w
  told : ∀ q : Port, s.arb.holder = some (.port q) →
    tells q (.authority .lost (some .safety) (activeTag s) (waitingCount s)) s w
  lists : keepsLists [2, 7, 12] s w
  outside : Outside s w
  cache : w.cache = s.cache
  group : w.safe.group = some group
  park : w.safe.alarmPark = s.safe.alarmPark
  masked : masked 12 s w
  kept : s.safe.group ≠ some .windLowering →
    w.safe.alarmWind = s.safe.alarmWind ∧ w.safe.alarm = s.safe.alarm ∧ keepsLists [2, 7] s w
  raised : s.safe.group = some .windLowering →
    w.safe.alarmWind = true ∧ w.safe.alarm = true
      ∧ (s.safe.alarm = false →
          tellsAll (.condition .alarm s.arb.reasons s.pose.latch s.safe.alarmPark true s.settings.defaulted) s w)

theorem takeSafety_eq (group : SafetyGroup) (ds : List Draft) (s : State) :
    takeSafety group ds s = goAhead (takenBy group ds s) := by
  have arb : (haltedFor .safety .safety s).arb = s.arb := (haltedFor_halted .safety .safety s).arb
  unfold takenBy takenArb
  dsimp only
  rw [← arb]
  show _ = goAhead (append .safety ds (((haltedFor .safety .safety s).setArb
    { (haltedFor .safety .safety s).arb with
      auth := if (haltedFor .safety .safety s).arb.auth = .manualPending then .manualPending else .moving
      holder := some .safety, releaseMark := false, idle := none, deferred := none }).setSafe
    { (haltedFor .safety .safety s).safe with group := some group }))
  have auth : (haltedFor .safety .safety s).arb.auth = s.arb.auth := by rw [arb]
  rw [auth]
  rfl

theorem taken_takenBy (group : SafetyGroup) (ds : List Draft) (s : State) : Taken group ds s (takenBy group ds s) := by
  have halted := haltedFor_halted .safety .safety s
  unfold takenBy
  obtain ⟨v, v_eq⟩ : ∃ v, v = haltedFor .safety .safety s := ⟨_, rfl⟩
  rw [← v_eq] at halted ⊢
  dsimp only
  obtain ⟨-, exe, scan, told, lists, ⟨pending, powered, pose, store, heading, settings, sensed⟩, cache, -, park, masked, kept,
    raised⟩ := halted
  refine ⟨rfl, ?_, scan, told, lists, ⟨pending, powered, pose, store, heading, settings, ?_⟩, cache, rfl, park, masked, kept,
    raised⟩
  · show { v.exe with
        queue := v.exe.queue ++ entriesOf v.exe.nextTag .safety v.exe.nextTag ds
        nextTag := tagsAfter v.exe.nextTag ds.length } = _
    rw [exe]
    rfl
  · show { v.safe with group := some group } = _
    rw [sensed]
    rfl

theorem taken_unheld (taken : Taken group ds s w) : w.arb.auth ≠ .held := by
  rw [taken.arb]
  unfold takenArb
  dsimp only
  split <;> exact fun hit => by cases hit

theorem taken_ready (taken : Taken group ds s w) : w.exe.active = none ∧ w.exe.closing = none := by
  rw [taken.exe]
  exact ⟨rfl, rfl⟩

theorem activatedArb_unheld (unheld : s.arb.auth ≠ .held) : activatedArb s = s.arb := if_neg unheld

/-- The first entry of SAFETY's group is driven (R55). -/
theorem taken_drives (taken : Taken group ds s w) (queue : w.exe.queue = e :: rest) (sound : passes e a target w)
    (supply : s.exe.supply = .available) (far : within a (s.pose.position.get a) target = false) :
    goAhead w = w.setExe (drivenEntry a target e rest w) := by
  obtain ⟨active, closing⟩ := taken_ready taken
  have supplyNow : w.exe.supply = .available := by
    rw [taken.exe]
    exact supply
  have farNow : within a (w.pose.position.get a) target = false := by
    rw [taken.outside.pose]
    exact far
  have starts := activate_drives active closing queue sound supplyNow farNow
  rw [activatedArb_unheld (taken_unheld taken)] at starts
  unfold goAhead
  rw [starts]
  exact advance_still (s := (w.setExe (drivenEntry a target e rest w)).setArb w.arb) closing

/-! ### An entry suspended as it becomes active -/

/-- The ending of an entry abandoned for the crank is reported, at once or later, and that is all (R62, R81). -/
theorem advance_abandonForCrank (h : activeIs x e rest s) :
    ∃ closing, advance (abandonForCrank s) = (abandonForCrank s).setExe { goneExe e [] s with closing := closing } := by
  obtain ⟨a, a_eq⟩ : ∃ a, a = abandonForCrank s := ⟨_, rfl⟩
  have exe : a.exe = { goneExe e [] s with closing := some (abandonClosing e rest.length) } := by
    rw [a_eq, abandonForCrank_eq h]
    simp [abandoned]
  have arb : a.arb = crankGranted s := by
    rw [a_eq]
    exact (abandonForCrank_abandoned h).arb
  have closing : a.exe.closing = some (abandonClosing e rest.length) := by rw [exe]
  have queue : a.exe.queue = [] := by rw [exe]; rfl
  rw [← a_eq]
  by_cases rested : restedOn e.motion.axes a
  · refine ⟨none, ?_⟩
    rw [advance_closing closing rfl queue rested,
      takeBoundary_granted _ (by rw [State.setExe_arb, arb]; rfl) (by rw [State.setExe_arb, arb]; rfl), exe]
  · refine ⟨some (abandonClosing e rest.length), ?_⟩
    rw [advance_waits closing rested]
    exact (setExe_same exe).symm

/-- What an entry abandoned for the crank leaves of the alarm (R94, R98, R100). -/
theorem advance_abandoned_alarm (h : activeIs x e rest s) :
    (advance (abandonForCrank s)).safe.alarmPark = s.safe.alarmPark
      ∧ (s.safe.group ≠ some .windLowering →
          (advance (abandonForCrank s)).safe.alarm = s.safe.alarm ∧ keepsLists [2, 7, 13] s (advance (abandonForCrank s))) := by
  obtain ⟨closing, ends⟩ := advance_abandonForCrank h
  obtain ⟨b, b_eq⟩ : ∃ b, b = abandoned e rest.length s := ⟨_, rfl⟩
  have safe : b.safe = s.safe := by rw [b_eq]; simp [abandoned]
  obtain ⟨-, park, kept, -⟩ := groupCut_cut b
  rw [ends, abandonForCrank_eq h, ← b_eq]
  have safeAfter : (grantCrank e.tag rest.length e.tag rest.length (groupCut b)).safe = (groupCut b).safe := by simp
  refine ⟨?_, fun other => ?_⟩
  · show (grantCrank e.tag rest.length e.tag rest.length (groupCut b)).safe.alarmPark = _
    rw [safeAfter, park, safe]
  · obtain ⟨-, alarm, ports⟩ := kept (by rw [safe]; exact other)
    refine ⟨?_, ?_⟩
    · show (grantCrank e.tag rest.length e.tag rest.length (groupCut b)).safe.alarm = _
      rw [safeAfter, alarm, safe]
    · have ended : keepsLists [2, 7, 13] s b := by
        rw [b_eq]
        exact fun p => finishScan_keeps (kinds := [2, 7, 13]) .endedManual false s (by decide) p
      have granted : keepsLists [2, 7, 13] (groupCut b) (grantCrank e.tag rest.length e.tag rest.length (groupCut b)) :=
        grantCrank_keeps _ _ _ _ _ (by decide) (by decide)
      exact fun q => keepsLists_trans (keepsLists_then ended ports) granted q

/-- An entry of SAFETY becomes active without the supply: it is suspended, or abandoned for a crank that was waited for (R73,
R82). -/
theorem taken_suspends (taken : Taken group ds s w) (queue : w.exe.queue = e :: rest) (sound : passes e a target w)
    (supply : s.exe.supply ≠ .available) :
    goAhead w = advance (suspendOrAbandon (activated { e with target := some target } rest w)) := by
  obtain ⟨active, closing⟩ := taken_ready taken
  have supplyNow : w.exe.supply ≠ .available := by
    rw [taken.exe]
    exact supply
  unfold goAhead
  rw [activate_suspends active closing queue sound supplyNow]

theorem activated_unheld (unheld : w.arb.auth ≠ .held) :
    activated e rest w = w.setExe { w.exe with queue := e :: rest, active := some (freshOn e w) } := by
  unfold activated
  rw [activatedArb_unheld unheld]
  rfl

/-- What the suspension of an entry leaves of the alarm and the lists, in MANUAL PENDING too (R73, R82, R100). -/
theorem suspendOrAbandon_alarm (active : s.exe.active = some x) (closing : s.exe.closing = none) (queue : s.exe.queue = e :: rest) :
    (advance (suspendOrAbandon s)).safe.alarmPark = s.safe.alarmPark
      ∧ keepsLists [2, 7, 12, 13, 14] s (advance (suspendOrAbandon s))
      ∧ (s.safe.group ≠ some .windLowering →
          (advance (suspendOrAbandon s)).safe.alarmWind = s.safe.alarmWind
            ∧ (advance (suspendOrAbandon s)).safe.alarm = s.safe.alarm
            ∧ keepsLists [2, 7, 13, 14] s (advance (suspendOrAbandon s))) := by
  have entry : activeEntry s = some e := activeEntry_of (by rw [active]; rfl) queue
  obtain ⟨only, -⟩ := suspendActive_told entry
  have lists : keepsLists [14] s (suspendActive s) := fun p => keepsLists_of_onlyOutputs only p
  obtain ⟨v, v_eq⟩ : ∃ v, v = suspendActive s := ⟨_, rfl⟩
  obtain ⟨-, -, -, exe, -, safe, -⟩ := onlyOutputs_frame only
  have safeNow : (suspendActive s).safe = s.safe := safe
  unfold suspendOrAbandon
  dsimp only
  by_cases pending : s.arb.auth = .manualPending
  · rw [if_pos pending, ← v_eq]
    rw [← v_eq] at lists exe safeNow
    have activeNow : activeIs { x with execution := .suspended, phases := Axes.all .idle } e rest v := by
      unfold activeIs
      rw [exe]
      refine ⟨?_, closing, queue⟩
      show s.exe.active.map _ = _
      rw [active]
      rfl
    obtain ⟨park, kept⟩ := advance_abandoned_alarm activeNow
    have gone := advance_abandoned activeNow
    refine ⟨park.trans (by rw [safeNow]),
      keepsLists_trans (keepsLists_mono (by decide) lists) (keepsLists_mono (by decide) gone.lists), fun other => ?_⟩
    have otherNow : v.safe.group ≠ some .windLowering := by
      rw [safeNow]
      exact other
    obtain ⟨alarm, keptLists⟩ := kept otherNow
    exact ⟨(gone.kept otherNow).trans (by rw [safeNow]), alarm.trans (by rw [safeNow]),
      keepsLists_trans (keepsLists_mono (by decide) lists) (keepsLists_mono (by decide) keptLists)⟩
  · have stays : advance (suspendActive s) = suspendActive s := by
      refine advance_still ?_
      rw [exe]
      exact closing
    rw [if_neg pending, stays, safeNow]
    exact ⟨rfl, keepsLists_mono (by decide) lists, fun _ => ⟨rfl, rfl, keepsLists_mono (by decide) lists⟩⟩

end Sys2Proof.Machine
end

section
/-! The park rule: the reason or the park stow that it brings, and then the PARK cause (R96, R97, R100). -/

namespace Sys2Proof.Machine

variable {s t u v w : State} {e : Entry} {rest : List Entry} {x : Active} {a : Axis} {target : Int} {k : LockReason}
  {left : Reasons} {why : EndReason} {lost : AuthReason} {p : Port} {position : Axes Int} {few more : List Nat}

/-! ### The first move of a park stow -/

/-- The mast stands last in the stow order (R18). -/
theorem parked_of_mast_first {others : List Axis} (needed : stowAxes position = .mast :: others) :
    parked .pan position.pan = true ∧ parked .tilt position.tilt = true := by
  have listed (b : Axis) (b_listed : b ∈ [Axis.pol, .tilt, .pan]) : parked b (position.get b) = true := by
    have split_ : stowAxes position =
        [Axis.pol, .tilt, .pan].filter (fun c => !parked c (position.get c)) ++
          [Axis.mast].filter (fun c => !parked c (position.get c)) :=
      List.filter_append (p := fun c => !parked c (position.get c)) [Axis.pol, .tilt, .pan] [Axis.mast]
    have empty : [Axis.pol, .tilt, .pan].filter (fun c => !parked c (position.get c)) = [] := by
      rw [split_] at needed
      cases filtered : [Axis.pol, .tilt, .pan].filter (fun c => !parked c (position.get c)) with
      | nil => rfl
      | cons c cs =>
        rw [filtered] at needed
        have isMast : c = .mast := (List.cons.inj needed).1
        have member : c ∈ [Axis.pol, .tilt, .pan] :=
          (List.mem_filter.mp (filtered ▸ List.mem_cons_self : c ∈ _)).1
        rw [isMast] at member
        exact absurd member (by decide)
    have out := List.filter_eq_nil_iff.mp empty b b_listed
    simpa using out
  exact ⟨listed .pan (by decide), listed .tilt (by decide)⟩

/-- The first move of a park stow passes its checks, outside tolerance (R15, R16, R18, R54). -/
theorem stow_first {others : List Axis} (needed : stowAxes s.pose.position = a :: others)
    (can : stowable s.pose.position s.pose.faulted = true) (low : 0 ≤ s.pose.position.mast) :
    s.pose.faulted.get a = false ∧ envelope s (some a) (parkValue a) = none
      ∧ within a (s.pose.position.get a) (parkValue a) = false := by
  obtain ⟨clear, sound⟩ := stowable_iff.mp can
  have listed : a ∈ stowAxes s.pose.position := needed ▸ List.mem_cons_self
  have far : parked a (s.pose.position.get a) = false := (parked_eq_false a _).mpr (mem_stowAxes.mp listed)
  refine ⟨sound a listed, ?_, far⟩
  cases a with
  | pol => rfl
  | pan =>
    rcases clear with high | ⟨spared, -⟩
    · exact clearanceVerdict_high high
    · exact absurd listed spared
  | tilt =>
    rcases clear with high | ⟨-, spared⟩
    · exact clearanceVerdict_high high
    · exact absurd listed spared
  | mast =>
    obtain ⟨pan, tilt⟩ := parked_of_mast_first needed
    have away := mem_stowAxes.mp listed
    have lowers : mastClassOf s.pose.position.mast 0 = .lowering := by
      have above : 0 < s.pose.position.mast := by
        change 10 < (s.pose.position.mast - 0).natAbs at away
        omega
      unfold mastClassOf
      rw [if_neg (by omega), if_pos above]
    show mastVerdict s 0 = none
    unfold mastVerdict
    rw [lowers]
    exact if_neg (fun hit => hit.2 ⟨pan, tilt⟩)

/-- The entries of a park stow (R97). -/
theorem parkStow_entries {others : List Axis} (needed : stowAxes position = a :: others) (n : Nat) :
    ∃ e rest, entriesOf n .safety n (parkStowDrafts position) = e :: rest ∧ e.motion = .moveTo a (parkValue a)
      ∧ e.origin = .safety ∧ e.rate = .fast ∧ e.tag = n ∧ e.purpose = .stow := by
  unfold parkStowDrafts
  rw [needed]
  exact ⟨_, _, rfl, rfl, rfl, rfl, rfl, rfl⟩

theorem parkStow_shape {n tag : Nat} (member : e ∈ entriesOf n .safety tag (parkStowDrafts position)) :
    e.rate = .fast ∧ e.origin = .safety ∧ e.purpose = .stow ∧ e.group = some n := by
  obtain ⟨m, d, listed, rfl⟩ := mem_entriesOf member
  obtain ⟨b, -, rfl⟩ := List.mem_map.mp listed
  exact ⟨rfl, rfl, rfl, rfl⟩

theorem parkStow_motions (n tag : Nat) (position : Axes Int) :
    (entriesOf n .safety tag (parkStowDrafts position)).map Entry.motion =
      (stowAxes position).map (fun b => Motion.moveTo b (parkValue b)) := by
  rw [entriesOf_motion]
  unfold parkStowDrafts
  rw [List.map_map]
  rfl

/-- SAFETY has taken authority with a park stow, and its first move is about to be looked at. -/
theorem parkStow_ready {others : List Axis} (taken : Taken .parkStow (parkStowDrafts s.pose.position) s w)
    (needed : stowAxes s.pose.position = a :: others) (can : stowable s.pose.position s.pose.faulted = true)
    (low : 0 ≤ s.pose.position.mast) :
    ∃ e rest, w.exe.queue = e :: rest ∧ entriesOf s.exe.nextTag .safety s.exe.nextTag (parkStowDrafts s.pose.position) = e :: rest
      ∧ passes e a (parkValue a) w ∧ e.rate = .fast := by
  obtain ⟨e, rest, entries, motion, origin, rate, -, -⟩ := parkStow_entries needed s.exe.nextTag
  obtain ⟨sound, verdict, -⟩ := stow_first needed can low
  refine ⟨e, rest, by rw [taken.exe]; exact entries, entries, passes_of_outside taken.outside ?_, rate⟩
  exact ⟨Or.inl motion, sound, verdict, Or.inr origin⟩

/-- The park stow begins, its first move driven (R38, R40, R97). -/
theorem takeSafety_begins (needed : stowAxes s.pose.position ≠ []) (can : stowable s.pose.position s.pose.faulted = true)
    (low : 0 ≤ s.pose.position.mast) (supply : s.exe.supply = .available) :
    ∃ w exe, Taken .parkStow (parkStowDrafts s.pose.position) s w
      ∧ takeSafety .parkStow (parkStowDrafts s.pose.position) s = w.setExe exe ∧ exe.closing = none
      ∧ StowBegun s (w.setExe exe) := by
  obtain ⟨a, others, first⟩ := List.exists_cons_of_ne_nil needed
  obtain ⟨w, w_eq⟩ : ∃ w, w = takenBy .parkStow (parkStowDrafts s.pose.position) s := ⟨_, rfl⟩
  have taken : Taken .parkStow (parkStowDrafts s.pose.position) s w := by
    rw [w_eq]
    exact taken_takenBy ..
  obtain ⟨e, rest, queue, entries, sound, rate⟩ := parkStow_ready taken first can low
  obtain ⟨-, -, far⟩ := stow_first first can low
  refine ⟨w, drivenEntry a (parkValue a) e rest w, taken, ?_, (taken_ready taken).2, ?_⟩
  · rw [takeSafety_eq, ← w_eq]
    exact taken_drives taken queue sound supply far
  · refine ⟨taken.arb, taken.group, ?_, fun f member => ?_, fun b others' needed' c => ?_, taken.scan, taken.told⟩
    · rw [← parkStow_motions s.exe.nextTag s.exe.nextTag, entries]
      rfl
    · obtain ⟨g, listed, same⟩ : ∃ g, g ∈ e :: rest ∧ f.rate = g.rate ∧ f.origin = g.origin ∧ f.purpose = g.purpose
          ∧ f.group = g.group := by
        rcases List.mem_cons.mp member with rfl | later
        · exact ⟨e, List.mem_cons_self, rfl, rfl, rfl, rfl⟩
        · exact ⟨f, List.mem_cons_of_mem e later, rfl, rfl, rfl, rfl⟩
      obtain ⟨sameRate, sameOrigin, samePurpose, sameGroup⟩ := same
      rw [← entries] at listed
      rw [sameRate, sameOrigin, samePurpose, sameGroup]
      exact parkStow_shape listed
    · obtain rfl : a = b := by
        rw [first] at needed'
        exact (List.cons.inj needed').1
      show (w.exe.drives.set a (drivenToward (parkValue a) e.rate a w)).get c = _
      rw [rate, drivenToward_of taken.outside.pose (outside_estop taken.outside), taken.exe, Axes.get_set]
      show (if c = a then _ else (haltedExe s).drives.get c) = _
      rw [haltedExe_get]

/-- What the park stow leaves of the alarm and the lists, with the supply or without (R73, R82, R94, R100). -/
theorem takeSafety_alarm (needed : stowAxes s.pose.position ≠ []) (can : stowable s.pose.position s.pose.faulted = true)
    (low : 0 ≤ s.pose.position.mast) :
    (takeSafety .parkStow (parkStowDrafts s.pose.position) s).safe.alarmPark = s.safe.alarmPark
      ∧ keepsLists [2, 7, 12, 13, 14] s (takeSafety .parkStow (parkStowDrafts s.pose.position) s)
      ∧ (s.safe.group ≠ some .windLowering →
          (takeSafety .parkStow (parkStowDrafts s.pose.position) s).safe.alarmWind = s.safe.alarmWind
            ∧ (takeSafety .parkStow (parkStowDrafts s.pose.position) s).safe.alarm = s.safe.alarm
            ∧ keepsLists [2, 7, 13, 14] s (takeSafety .parkStow (parkStowDrafts s.pose.position) s)) := by
  by_cases supply : s.exe.supply = .available
  · obtain ⟨w, exe, taken, made, -, -⟩ := takeSafety_begins needed can low supply
    rw [made]
    refine ⟨taken.park, keepsLists_mono (by decide) (keepsLists_then taken.lists rfl), fun other => ?_⟩
    obtain ⟨wind, alarm, lists⟩ := taken.kept other
    exact ⟨wind, alarm, keepsLists_mono (by decide) (keepsLists_then lists rfl)⟩
  · obtain ⟨a, others, first⟩ := List.exists_cons_of_ne_nil needed
    obtain ⟨w, w_eq⟩ : ∃ w, w = takenBy .parkStow (parkStowDrafts s.pose.position) s := ⟨_, rfl⟩
    have taken : Taken .parkStow (parkStowDrafts s.pose.position) s w := by
      rw [w_eq]
      exact taken_takenBy ..
    obtain ⟨e, rest, queue, -, sound, -⟩ := parkStow_ready taken first can low
    have made : takeSafety .parkStow (parkStowDrafts s.pose.position) s =
        advance (suspendOrAbandon (activated { e with target := some (parkValue a) } rest w)) := by
      rw [takeSafety_eq, ← w_eq]
      exact taken_suspends taken queue sound supply
    have opened := activated_unheld (e := { e with target := some (parkValue a) }) (rest := rest) (taken_unheld taken)
    obtain ⟨v, v_eq⟩ : ∃ v, v = activated { e with target := some (parkValue a) } rest w := ⟨_, rfl⟩
    have active : v.exe.active = some (freshOn { e with target := some (parkValue a) } w) := by rw [v_eq, opened]; rfl
    have closing : v.exe.closing = none := by
      rw [v_eq, opened]
      exact (taken_ready taken).2
    have queueNow : v.exe.queue = { e with target := some (parkValue a) } :: rest := by rw [v_eq, opened]; rfl
    have safe : v.safe = w.safe := by rw [v_eq, opened]; rfl
    have ports : v.ports = w.ports := by rw [v_eq, opened]; rfl
    obtain ⟨park, lists, kept⟩ := suspendOrAbandon_alarm active closing queueNow
    have group : v.safe.group ≠ some .windLowering := by
      rw [safe, taken.group]
      exact fun hit => by cases hit
    obtain ⟨wind, alarm, keptLists⟩ := kept group
    rw [made, ← v_eq]
    refine ⟨by rw [park, safe, taken.park],
      keepsLists_trans (keepsLists_then (keepsLists_mono (by decide) taken.lists) ports) (keepsLists_mono (by decide) lists),
      fun other => ?_⟩
    obtain ⟨windKept, alarmKept, listsKept⟩ := taken.kept other
    exact ⟨by rw [wind, safe, windKept], by rw [alarm, safe, alarmKept],
      keepsLists_trans (keepsLists_then (keepsLists_mono (by decide) listsKept) ports) keptLists⟩

end Sys2Proof.Machine
end

section
/-! A negation of PARK, and the park rule by its rows (R42, R88, R95 to R97, R100, R131). -/

namespace Sys2Proof.Machine

variable {s t u v w : State} {e : Entry} {rest : List Entry} {x : Active} {a : Axis} {target : Int} {k : LockReason}
  {left : Reasons} {why : EndReason} {lost : AuthReason} {p : Port} {position : Axes Int} {few more : List Nat}

/-! ### What stays beside the work -/

/-- The work, the authority and the pose are left as they stand. -/
structure SameWork (s t : State) : Prop where
  arb : t.arb = s.arb
  exe : t.exe = s.exe
  scan : t.scan = s.scan
  pose : t.pose = s.pose
  estop : t.safe.estop = s.safe.estop
  group : t.safe.group = s.safe.group

/-- The notices of the work, AUTHORITY, CLAIM REFUSED and MANUAL, are left as they stand. -/
structure WorkNoticesKept (s t : State) : Prop where
  authority : sameNotices 2 s t
  claims : sameNotices 3 s t
  manual : sameNotices 13 s t

theorem workNoticesKept_of_keeps (lists : keepsLists few s t) (spared : 2 ∉ few ∧ 3 ∉ few ∧ 13 ∉ few) : WorkNoticesKept s t := by
  obtain ⟨two, three, thirteen⟩ := spared
  exact ⟨sameNotices_of_keeps lists two, sameNotices_of_keeps lists three, sameNotices_of_keeps lists thirteen⟩

theorem activeTag_of_exe (exe : t.exe = s.exe) : activeTag t = activeTag s := by
  unfold activeTag activeEntry
  rw [exe]

theorem waitingCount_of_exe (exe : t.exe = s.exe) : waitingCount t = waitingCount s := by
  unfold waitingCount
  rw [exe]

theorem haltedDrive_of_exe (exe : t.exe = s.exe) (a : Axis) : haltedDrive a t = haltedDrive a s := by
  unfold haltedDrive activeEntry
  rw [exe]

theorem scanEnds_around (before : u.scan = s.scan) (after : t.scan = v.scan) (h : scanEnds why u v) : scanEnds why s t := by
  unfold scanEnds at *
  rw [after, h, before]

/-- A lockout, between changes that leave the work as it stands. -/
theorem lockedOut_around (before : SameWork s u) (after : SameWork v t) (first : WorkNoticesKept s u) (last : WorkNoticesKept v t)
    (h : LockedOut why lost left u v) : LockedOut why lost left s t := by
  obtain ⟨locks, crank, work, scan, told, refused⟩ := h
  have same := lockedOut_of_arb before.arb left
  rw [before.exe] at work
  refine ⟨fun unpending => ?_, fun pending => ?_, by rw [after.exe]; exact work, fun x e rest active => ?_, fun q holder => ?_,
    fun c claimed => ?_⟩
  · rw [after.arb, locks (by rw [before.arb]; exact unpending), same]
  · obtain ⟨granted, begun⟩ := crank (by rw [before.arb]; exact pending)
    refine ⟨by rw [after.arb, granted, same], ?_⟩
    exact tellsAll_same (tellsAll_after first.manual begun) last.manual
  · refine scanEnds_around before.scan after.scan (scan x e rest ?_)
    unfold activeIs
    rw [before.exe]
    exact active
  · have placed := told q (by rw [before.arb]; exact holder)
    rw [activeTag_of_exe before.exe, waitingCount_of_exe before.exe] at placed
    exact tells_same (tells_after first.authority placed) last.authority
  · have placed := refused c (by rw [before.arb]; exact claimed)
    exact tells_same (tells_after first.claims placed) last.claims

/-- A park stow that begins, between changes that leave the work as it stands. -/
theorem stowBegun_around (before : SameWork s u) (after : SameWork v t) (first : sameNotices 2 s u) (last : sameNotices 2 v t)
    (h : StowBegun u v) : StowBegun s t := by
  obtain ⟨arb, group, queue, entries, drives, scan, told⟩ := h
  rw [before.arb] at arb
  rw [before.pose] at queue
  rw [before.exe] at entries
  refine ⟨by rw [after.arb, arb], by rw [after.group, group], by rw [after.exe, queue], by rw [after.exe]; exact entries,
    fun b others needed c => ?_, fun x e rest active => ?_, fun q holder => ?_⟩
  · rw [after.exe, drives b others (by rw [before.pose]; exact needed) c, drivenToward_of before.pose before.estop,
      haltedDrive_of_exe before.exe]
  · refine scanEnds_around before.scan after.scan (scan x e rest ?_)
    unfold activeIs
    rw [before.exe]
    exact active
  · have placed := told q (by rw [before.arb]; exact holder)
    rw [activeTag_of_exe before.exe, waitingCount_of_exe before.exe] at placed
    exact tells_same (tells_after first placed) last

/-! ### What a reason leaves of the alarm -/

theorem addReason_cases (k : LockReason) (s : State) :
    addReason k s = s ∨ addReason k s = enlistReason k s ∨ addReason k s = enterLockout (enlistReason k s)
      ∨ addReason k s = lockedState s.arb.auth (lockingFor k s) := by
  have locks : lockOut k (enlistReason k s) = lockedState s.arb.auth (lockingFor k s) := by
    have same : (enlistReason k s).arb.auth = s.arb.auth := by simp [enlistReason]
    rw [lockOut_eq, same]
    rfl
  unfold addReason
  split
  · exact Or.inl rfl
  · dsimp only
    rw [locks]
    split
    · exact Or.inr (Or.inr (Or.inl rfl))
    · exact Or.inr (Or.inl rfl)
    · exact Or.inr (Or.inl rfl)
    · exact Or.inr (Or.inr (Or.inr rfl))
    · exact Or.inr (Or.inl rfl)
    · exact Or.inr (Or.inr (Or.inr rfl))

/-- What a reason leaves of the alarm (R94, R98, R100). -/
theorem addReason_alarm (k : LockReason) (s : State) :
    (addReason k s).safe.alarmPark = s.safe.alarmPark
      ∧ (s.safe.group ≠ some .windLowering →
          (addReason k s).safe.alarmWind = s.safe.alarmWind ∧ (addReason k s).safe.alarm = s.safe.alarm
            ∧ masked 12 s (addReason k s)) := by
  have enlisted : masked 12 s (enlistReason k s) := masked_of_tellsAll (enlistReason_told k s).2
  have masks : keepsLists [12] s (enlistReason k s) := enlistReason_keeps k s (by decide)
  have safe : (enlistReason k s).safe = s.safe := by simp
  have locking := locking_lockingFor k s
  obtain ⟨lockedSafe, -, -, -, -, lists⟩ := lockedState_rest s.arb.auth (lockingFor k s)
  rcases addReason_cases k s with same | same | same | same
  · rw [same]
    exact ⟨rfl, fun _ => ⟨rfl, rfl, masked_of_ports rfl⟩⟩
  · rw [same, safe]
    exact ⟨rfl, fun _ => ⟨rfl, rfl, enlisted⟩⟩
  · have entered : (enterLockout (enlistReason k s)).safe = s.safe := by simp
    rw [same, entered]
    refine ⟨rfl, fun _ => ⟨rfl, rfl, masked_trans (fun p => (masks p).2) enlisted (masked_of_same ?_)⟩⟩
    exact sameNotices_of_keeps (enterLockout_keeps (kinds := [3]) _ (by decide)) (show 12 ∉ [3] by decide)
  · rw [same, lockedSafe]
    refine ⟨locking.park, fun other => ?_⟩
    obtain ⟨wind, alarm, told⟩ := locking.kept other
    have hidden : masked 12 s (lockingFor k s) := masked_of_tellsAll told
    exact ⟨wind, alarm, masked_trans (fun p => (locking.lists p).2) hidden
      (masked_of_same (sameNotices_of_keeps lists (show 12 ∉ [3, 13] by decide)))⟩

/-- In MANUAL and in LOCKOUT a reason joins the set, told if it is new, and nothing else follows (R42, R45). -/
theorem addReason_joins_told (auth : s.arb.auth = .manual ∨ s.arb.auth = .lockout) :
    onlyOutputs (fun _ => [12]) (s.setArb { s.arb with reasons := s.arb.reasons.put k true }) (addReason k s)
      ∧ (s.arb.reasons.has k = false →
          tellsAll
            (.condition .lockout (s.arb.reasons.put k true) s.pose.latch s.safe.alarmPark s.safe.alarmWind
              s.settings.defaulted) s (addReason k s)) := by
  cases held : s.arb.reasons.has k with
  | true =>
    rw [addReason_held held, put_of_has held]
    exact ⟨onlyOutputs_refl _ s, fun new => by cases new⟩
  | false =>
    obtain ⟨only, told⟩ := enlistReason_told k s
    rw [addReason_joins held auth]
    exact ⟨only, fun _ => told⟩

/-! ### The PARK cause -/

/-- The PARK cause is raised where the STOWED lamp is negated, told if the alarm output changes (R96, R100). -/
theorem raiseParkAlarm_raised (s : State) :
    SameWork s (raiseParkAlarm s) ∧ keepsLists [12] s (raiseParkAlarm s)
      ∧ ((raiseParkAlarm s).safe.alarmPark = true ↔ s.safe.alarmPark = true ∨ s.pose.lamp = false)
      ∧ (raiseParkAlarm s).safe.alarmWind = s.safe.alarmWind
      ∧ (s.pose.lamp = false → s.safe.alarm = false →
          tellsAll (.condition .alarm s.arb.reasons s.pose.latch true s.safe.alarmWind s.settings.defaulted) s (raiseParkAlarm s))
      ∧ (s.safe.alarm = true → (raiseParkAlarm s).safe.alarm = true ∧ (raiseParkAlarm s).ports = s.ports) := by
  have work : SameWork s (raiseParkAlarm s) := ⟨by simp, by simp, by simp, by simp, by simp, by simp⟩
  refine ⟨work, ?_⟩
  unfold raiseParkAlarm
  by_cases lamp : s.pose.lamp = true
  · rw [if_pos lamp]
    refine ⟨keepsLists_refl _ s, ⟨fun hit => Or.inl hit, fun hit => ?_⟩, rfl, fun dark => ?_, fun alarm => ⟨alarm, rfl⟩⟩
    · rcases hit with raised | dark
      · exact raised
      · rw [lamp] at dark
        cases dark
    · rw [lamp] at dark
      cases dark
  · have dark : s.pose.lamp = false := eq_false_of_ne_true lamp
    rw [if_neg lamp]
    obtain ⟨park, wind, alarm⟩ := setAlarmCauses_causes true s.safe.alarmWind s
    refine ⟨setAlarmCauses_keeps _ _ s (by decide), ⟨fun _ => Or.inr dark, fun _ => park⟩, wind, fun _ silent => ?_,
      fun sounding => ⟨by rw [alarm]; rfl, ?_⟩⟩
    · exact setAlarmCauses_tells (by simp [silent])
    · rw [setAlarmCauses_silent (by rw [sounding]; rfl)]
      rfl

/-- A stowed pose shows the STOWED lamp (R18, R19). -/
theorem lamp_of_stowed (stowed : stowAxes position = []) : lampOf position = true := by
  have rests (b : Axis) : parked b (position.get b) = true := parked_of_notMem (by rw [stowed]; exact fun hit => by cases hit)
  have mast : position.mast ≤ 20 := by
    have near := rests .mast
    unfold parked within at near
    change decide ((position.mast - 0).natAbs ≤ 10) = true at near
    rw [decide_eq_true_iff] at near
    omega
  have pan : parked .pan position.pan = true := rests .pan
  have tilt : parked .tilt position.tilt = true := rests .tilt
  unfold lampOf mastStowed
  rw [pan, tilt]
  simp [mast]

theorem raiseParkAlarm_lit (lit : s.pose.lamp = true) : raiseParkAlarm s = s := if_pos lit

theorem parkRuleAlarms_eq (alarmOnly : Bool) (follows : lampFollows s) :
    parkRuleAlarms s.pose.position alarmOnly s = raiseParkAlarm s := by
  unfold parkRuleAlarms
  split
  · next stowed =>
    obtain ⟨-, stowed⟩ := stowed
    unfold raiseParkAlarm
    rw [follows, lamp_of_stowed stowed]
    rfl
  · rfl

/-! ### The rows of the rule -/

theorem parkRuleAlarms_rest (position : Axes Int) (alarmOnly : Bool) (s : State) :
    SameWork s (parkRuleAlarms position alarmOnly s) ∧ keepsLists [12] s (parkRuleAlarms position alarmOnly s) := by
  unfold parkRuleAlarms
  split
  · exact ⟨⟨rfl, rfl, rfl, rfl, rfl, rfl⟩, keepsLists_refl _ s⟩
  · obtain ⟨work, lists, -⟩ := raiseParkAlarm_raised s
    exact ⟨work, lists⟩

/-- The reason or the group that the park rule brings to the pose as it stands (R96). -/
def parkActed (s : State) : State :=
  if s.arb.auth = .manual ∨ holdsParkStow s = true then s
  else if s.arb.auth = .lockout then parkRuleLockout s.pose.position s
  else parkRuleAct s.pose.position s

theorem parkActed_pose (s : State) : (parkActed s).pose = s.pose := by
  unfold parkActed
  split
  · rfl
  · split <;> simp

theorem parkActed_frame (s : State) :
    (parkActed s).heading = s.heading ∧ (parkActed s).store = s.store ∧ (parkActed s).settings = s.settings
      ∧ (parkActed s).cache = s.cache ∧ (parkActed s).safe.park = s.safe.park := by
  unfold parkActed
  split
  · exact ⟨rfl, rfl, rfl, rfl, rfl⟩
  · split <;> simp

theorem parkRule_split (s : State) :
    parkRule s.pose.position false s =
      parkRuleAlarms s.pose.position ((s.arb.auth == .manual && !false) || holdsParkStow s) (parkActed s) := by
  have acted : (if ((s.arb.auth == .manual && !false) || holdsParkStow s) = true then s
      else if s.arb.auth = .lockout then parkRuleLockout s.pose.position s
      else parkRuleAct s.pose.position s) = parkActed s := ite_congr (propext (by simp)) (fun _ => rfl) (fun _ => rfl)
  unfold parkRule
  dsimp only
  rw [acted]

theorem parkRule_acted (s : State) :
    ∃ alarmOnly, parkRule s.pose.position false s = parkRuleAlarms (parkActed s).pose.position alarmOnly (parkActed s) := by
  rw [parkActed_pose]
  exact ⟨_, parkRule_split s⟩

theorem parkRule_eq (follows : lampFollows s) : parkRule s.pose.position false s = raiseParkAlarm (parkActed s) := by
  have followsNow : lampFollows (parkActed s) := by
    unfold lampFollows
    rw [parkActed_pose]
    exact follows
  obtain ⟨alarmOnly, acted⟩ := parkRule_acted s
  rw [acted]
  exact parkRuleAlarms_eq _ followsNow

theorem holdsParkStow_eq (s : State) :
    holdsParkStow s = decide (s.safe.group = some .parkStow ∨ closingFailed s = some .parkStow) := by
  unfold holdsParkStow
  rw [failedStowWaits_eq]
  by_cases running : s.safe.group = some .parkStow <;> simp [running]

theorem parkActed_holds (holds : s.arb.auth = .manual ∨ s.safe.group = some .parkStow ∨ closingFailed s = some .parkStow) :
    parkActed s = s := by
  refine if_pos (holds.imp id fun stow => ?_)
  rw [holdsParkStow_eq]
  exact decide_eq_true stow

/-- The row of a stowed pose, of one that cannot be stowed, and of one that can (R96). -/
theorem parkActed_acts (manual : s.arb.auth ≠ .manual) (lockout : s.arb.auth ≠ .lockout) (group : s.safe.group ≠ some .parkStow)
    (failed : closingFailed s ≠ some .parkStow) :
    (stowAxes s.pose.position = [] → parkActed s = addReason .interlock s)
      ∧ (stowAxes s.pose.position ≠ [] → stowable s.pose.position s.pose.faulted = false →
          parkActed s = addReason .stowBlocked s)
      ∧ (stowAxes s.pose.position ≠ [] → stowable s.pose.position s.pose.faulted = true →
          parkActed s = takeSafety .parkStow (parkStowDrafts s.pose.position) s) := by
  have acts : parkActed s = parkRuleAct s.pose.position s := by
    unfold parkActed
    rw [if_neg, if_neg lockout]
    rw [holdsParkStow_eq, decide_eq_true_iff]
    exact fun hit => hit.elim manual fun stow => stow.elim group failed
  rw [acts]
  unfold parkRuleAct
  refine ⟨fun stowed => if_pos stowed, fun needed cannot => ?_, fun needed can => ?_⟩
  · rw [if_neg needed, if_neg (by simp [cannot])]
  · rw [if_neg needed, if_pos can]

theorem parkActed_lockout (lockout : s.arb.auth = .lockout) (group : s.safe.group ≠ some .parkStow)
    (failed : closingFailed s ≠ some .parkStow) :
    parkActed s = if stowAxes s.pose.position = [] then addReason .interlock s else s := by
  unfold parkActed
  rw [if_neg, if_pos lockout]
  · rfl
  · rw [holdsParkStow_eq, decide_eq_true_iff]
    refine fun hit => hit.elim (fun manual => ?_) fun stow => stow.elim group failed
    rw [lockout] at manual
    cases manual

/-- The PARK cause, the lists but for the kinds of the work, and the alarm where no lowering is cut short are left as they
stand. -/
structure AlarmKept (s t : State) : Prop where
  park : t.safe.alarmPark = s.safe.alarmPark
  lists : keepsLists [2, 3, 7, 12, 13, 14] s t
  kept : s.safe.group ≠ some .windLowering →
    t.safe.alarmWind = s.safe.alarmWind ∧ t.safe.alarm = s.safe.alarm ∧ masked 12 s t

theorem alarmKept_refl (s : State) : AlarmKept s s :=
  ⟨rfl, keepsLists_refl _ s, fun _ => ⟨rfl, rfl, masked_of_ports rfl⟩⟩

theorem alarmKept_addReason (k : LockReason) (s : State) : AlarmKept s (addReason k s) := by
  obtain ⟨park, kept⟩ := addReason_alarm k s
  exact ⟨park, addReason_keeps k s (by decide) (by decide) (by decide) (by decide) (by decide), kept⟩

theorem alarmKept_takeSafety (needed : stowAxes s.pose.position ≠ []) (can : stowable s.pose.position s.pose.faulted = true)
    (low : 0 ≤ s.pose.position.mast) : AlarmKept s (takeSafety .parkStow (parkStowDrafts s.pose.position) s) := by
  obtain ⟨park, lists, kept⟩ := takeSafety_alarm needed can low
  refine ⟨park, keepsLists_mono (by decide) lists, fun other => ?_⟩
  obtain ⟨wind, alarm, keptLists⟩ := kept other
  exact ⟨wind, alarm, masked_of_same (sameNotices_of_keeps keptLists (by decide))⟩

/-- What the rule leaves of the alarm and the lists, before the PARK cause (R94, R98, R100). -/
theorem parkActed_alarm (low : 0 ≤ s.pose.position.mast) : AlarmKept s (parkActed s) := by
  by_cases holds : s.arb.auth = .manual ∨ s.safe.group = some .parkStow ∨ closingFailed s = some .parkStow
  · rw [parkActed_holds holds]
    exact alarmKept_refl s
  obtain ⟨manual, other⟩ := not_or.mp holds
  obtain ⟨group, failed⟩ := not_or.mp other
  by_cases lockout : s.arb.auth = .lockout
  · rw [parkActed_lockout lockout group failed]
    split
    · exact alarmKept_addReason .interlock s
    · exact alarmKept_refl s
  obtain ⟨stowedRow, blockedRow, stowRow⟩ := parkActed_acts manual lockout group failed
  by_cases stowed : stowAxes s.pose.position = []
  · rw [stowedRow stowed]
    exact alarmKept_addReason .interlock s
  by_cases can : stowable s.pose.position s.pose.faulted = true
  · rw [stowRow stowed can]
    exact alarmKept_takeSafety stowed can low
  · rw [blockedRow stowed (eq_false_of_ne_true can)]
    exact alarmKept_addReason .stowBlocked s

end Sys2Proof.Machine
end

section
/-! PARK is negated (R42, R88, R95 to R97, R100, R131). -/

namespace Sys2Proof.Machine

variable {s t u v w : State} {k : LockReason}

/-- The state in which the park rule is applied to a negation of PARK (R95). -/
def negatedState (s : State) : State := flushCache .park none ((setPark false s).setHeading none)

theorem parkNegated_falls (on : s.powered = true) (asserted : s.safe.park = true) (follows : lampFollows s) :
    exec .parkNegated s = .next (raiseParkAlarm (parkActed (negatedState s))) := by
  have arm : exec .parkNegated s = .next (whenPowered (fun s => if s.safe.park then takeParkNegation s else s) s) := rfl
  have lamp : lampFollows (negatedState s) := by
    unfold lampFollows negatedState
    simp only [flushCache_frame]
    exact follows
  rw [exec_of_powered arm on, if_pos asserted, ← parkRule_eq lamp]
  rfl

/-- The heading and the cache go, PARK is recorded, and the work is left as it stands (R95, R131). -/
theorem negatedState_rest (s : State) :
    SameWork s (negatedState s) ∧ (negatedState s).heading = none ∧ (negatedState s).cache = { entries := [], reference := none }
      ∧ (negatedState s).safe = { s.safe with park := false } ∧ (negatedState s).store = s.store
      ∧ (negatedState s).settings = s.settings ∧ keepsLists [10] s (negatedState s)
      ∧ tellsAll (.cacheFlushed .park none none s.cache.entries.length 0) s (negatedState s) := by
  obtain ⟨only, told⟩ := flushCache_told .park none ((setPark false s).setHeading none)
  obtain ⟨-, -, arb, exe, pose, safe, store, cache, heading, scan, settings⟩ := onlyOutputs_frame only
  have safeNow : (negatedState s).safe = { s.safe with park := false } := safe
  exact ⟨⟨arb, exe, scan, pose, (congrArg SafetyMonitor.estop safeNow :),
    (congrArg SafetyMonitor.group safeNow :)⟩, heading, cache,
    safeNow, store, settings, fun p => keepsLists_of_onlyOutputs only p, told⟩

theorem mast_nonneg (follows : poseFollows s) : 0 ≤ s.pose.position.mast := by
  rw [follows]
  show 0 ≤ clamp 0 15000 _
  unfold clamp
  repeat' split
  all_goals omega

/-- A port holds authority with no safety group, or nobody does and nothing is under way: the park rule acts (R96). -/
def ruleActs (s : State) : Prop :=
  (s.arb.auth = .free ∧ s.exe.queue = [] ∧ s.exe.active = none ∧ s.exe.closing = none ∧ s.exe.suspension = none
      ∧ s.safe.group = none ∧ s.arb.holder = none)
    ∨ ((s.arb.auth = .held ∨ s.arb.auth = .moving ∨ s.arb.auth = .yielding ∨ s.arb.auth = .manualPending)
      ∧ (holderPort s).isSome = true ∧ s.safe.group = none ∧ closingFailed s = none)

theorem ruleActs_of_work (work : SameWork s t) (acts : ruleActs s) : ruleActs t := by
  unfold ruleActs holderPort closingFailed at *
  rw [work.arb, work.exe, work.group]
  exact acts

theorem ruleActs_groups (acts : ruleActs s) :
    s.arb.auth ≠ .manual ∧ s.arb.auth ≠ .lockout ∧ s.safe.group = none ∧ closingFailed s = none := by
  rcases acts with ⟨free, -, -, closing, -, group, -⟩ | ⟨auth, -, group, failed⟩
  · refine ⟨by simp [free], by simp [free], group, ?_⟩
    unfold closingFailed
    rw [closing]
    rfl
  · rcases auth with auth | auth | auth | auth <;> exact ⟨by simp [auth], by simp [auth], group, failed⟩

/-- With nothing under way a reason has nothing to end. -/
theorem locking_idle (queue : s.exe.queue = []) (active : s.exe.active = none) (closing : s.exe.closing = none)
    (suspension : s.exe.suspension = none) (group : s.safe.group = none) (holder : s.arb.holder = none) :
    Locking .lockout .lockout (s.arb.reasons.put k true) s (enlistReason k s) := by
  obtain ⟨only, told⟩ := enlistReason_told k s
  obtain ⟨pending, powered, arb, exe, pose, safe, store, cache, heading, scan, settings⟩ := onlyOutputs_frame only
  have lists : keepsLists [12] s (enlistReason k s) := fun p => keepsLists_of_onlyOutputs only p
  have exeNow : (enlistReason k s).exe = s.exe := exe
  have safeNow : (enlistReason k s).safe = s.safe := safe
  refine ⟨arb, exeNow.trans (haltedExe_idle queue active closing suspension).symm, fun x e rest current => ?_,
    fun q owner => ?_, keepsLists_mono (by decide) lists, ⟨pending, powered, pose, store, heading, settings, by rw [safeNow]⟩,
    cache, by rw [safeNow, group], by rw [safeNow], fun _ => ⟨by rw [safeNow], by rw [safeNow], told⟩, fun lowering => ?_⟩
  · obtain ⟨present, -⟩ := current
    rw [active] at present
    cases present
  · rw [holder] at owner
    cases owner
  · rw [group] at lowering
    cases lowering

/-- A reason that joins the set where the park rule acts locks out (R42, R96). -/
theorem addReason_lockedOut (acts : ruleActs s) (new : s.arb.reasons.has k = false) (other : k ≠ .estop) :
    LockedOut .lockout .lockout (s.arb.reasons.put k true) s (addReason k s) := by
  obtain ⟨-, -, -, failed⟩ := ruleActs_groups acts
  rcases acts with ⟨free, queue, active, closing, suspension, group, holder⟩ | ⟨auth, port, -, -⟩
  · have entered := lockedOut_of (locking_idle (k := k) queue active closing suspension group holder)
    unfold lockedState at entered
    rw [if_neg (by simp [free])] at entered
    rw [addReason_free new free]
    exact entered
  · have left : withOutstanding (s.arb.reasons.put k true) s = s.arb.reasons.put k true :=
      withOutstanding_none (by rw [failed]; exact fun hit => by cases hit) _
    have entered := lockedOut_of (locking_lockingFor k s)
    rw [left] at entered
    rw [addReason_lockedState new auth (Or.inl port)]
    cases k with
    | estop => exact absurd rfl other
    | interlock => exact entered
    | stowBlocked => exact entered
    | stowFailed => exact entered

/-- Settles O31: the rule acts on the state with the line, the heading and the cache taken, and the PARK cause follows. -/
theorem parkNegationActs : Obligations.ParkNegationActs := by
  intro s on follows
  obtain ⟨poseNow, lamp, alarmNow, -, -⟩ := follows
  refine ⟨fun negated => ?_, fun asserted => ?_⟩
  · have arm : exec .parkNegated s = .next (whenPowered (fun s => if s.safe.park then takeParkNegation s else s) s) := rfl
    rw [exec_of_powered arm on, if_neg (by simp [negated])]
  obtain ⟨work, heading, cache, safe, store, settings, lists, flushed⟩ := negatedState_rest s
  obtain ⟨u, u_eq⟩ : ∃ u, u = negatedState s := ⟨_, rfl⟩
  have made := parkNegated_falls on asserted lamp
  rw [← u_eq] at made work heading cache safe store settings lists flushed
  have pose : u.pose = s.pose := work.pose
  have low : 0 ≤ u.pose.position.mast := by
    rw [pose]
    exact mast_nonneg poseNow
  obtain ⟨v, v_eq⟩ : ∃ v, v = parkActed u := ⟨_, rfl⟩
  have acted : AlarmKept u v := by
    rw [v_eq]
    exact parkActed_alarm low
  obtain ⟨after, sounded, park, wind, alarmTold, sounding⟩ := raiseParkAlarm_raised v
  obtain ⟨t, t_eq⟩ : ∃ t, t = raiseParkAlarm v := ⟨_, rfl⟩
  rw [← v_eq, ← t_eq] at made
  rw [← t_eq] at after sounded park wind alarmTold sounding
  have poseV : v.pose = s.pose := by rw [v_eq, parkActed_pose, pose]
  have groupKept : u.safe.group = s.safe.group := work.group
  have listsAfter : keepsLists [2, 3, 7, 12, 13, 14] u t :=
    keepsLists_trans acted.lists (keepsLists_mono (by decide) sounded)
  have quiet_ : WorkNoticesKept s u := workNoticesKept_of_keeps lists (by decide)
  have quietAfter : WorkNoticesKept v t := workNoticesKept_of_keeps sounded (by decide)
  have rows (manual : s.arb.auth ≠ .manual) (lockout : s.arb.auth ≠ .lockout) (group : s.safe.group ≠ some .parkStow)
      (failed : closingFailed s ≠ some .parkStow) := parkActed_acts (s := u) (by rw [work.arb]; exact manual)
        (by rw [work.arb]; exact lockout) (by rw [groupKept]; exact group)
        (by unfold closingFailed; rw [work.exe]; exact failed)
  obtain ⟨headingV, storeV, settingsV, cacheV, parkV⟩ := parkActed_frame u
  rw [← v_eq] at headingV storeV settingsV cacheV parkV
  refine ⟨t, made, ?_, ?_, ?_, ?_, ?_, ?_, ?_, ?_, ?_, fun silent dark other => ?_, fun acts => ?_, fun auth holder lowering failed => ?_,
    fun holds => ?_, fun lockout group failed => ?_⟩
  · rw [t_eq, ← heading, ← headingV]
    simp
  · rw [t_eq, ← cache, ← cacheV]
    simp
  · have negated : u.safe.park = false := by rw [safe]
    rw [t_eq, ← negated, ← parkV]
    simp
  · rw [after.pose, poseV]
  · rw [t_eq, ← store, ← storeV]
    simp
  · rw [t_eq, ← settings, ← settingsV]
    simp
  · exact tellsAll_same flushed (sameNotices_of_keeps listsAfter (show 10 ∉ [2, 3, 7, 12, 13, 14] by decide))
  · exact sameBesides_of_keeps (keepsLists_trans (keepsLists_mono (by decide) lists) (keepsLists_mono (by decide) listsAfter))
  · rw [park, acted.park, poseV, safe]
  · have group : u.safe.group ≠ some .windLowering := by
      rw [groupKept]
      exact other
    obtain ⟨windKept, alarmKept, hidden⟩ := acted.kept group
    have causes : s.safe.alarmWind = false := by
      rw [alarmNow] at silent
      exact (Bool.or_eq_false_iff.mp silent).2
    have hiddenNow : masked 12 s v :=
      masked_trans (fun q => (lists q).2) (masked_of_same (sameNotices_of_keeps lists (show 12 ∉ [10] by decide))) hidden
    have told := alarmTold (by rw [poseV]; exact dark) (by rw [alarmKept, safe]; exact silent)
    rw [← after.arb, poseV, windKept, safe, settingsV, settings, causes] at told
    exact tellsAll_masked (plain_condition _ _ _ _ _ _) (fun q => ((acted.lists q).2).trans (lists q).2) hiddenNow told
  · obtain ⟨manual, lockout, group, failed⟩ := ruleActs_groups acts
    obtain ⟨stowedRow, blockedRow, stowRow⟩ := rows manual lockout (by simp [group]) (by simp [failed])
    have actsNow := ruleActs_of_work work acts
    rw [pose, ← v_eq] at stowedRow blockedRow stowRow
    refine ⟨fun stowed new => ?_, fun needed cannot new => ?_, fun needed can supply => ?_⟩
    · have locked := addReason_lockedOut (k := .interlock) actsNow (by rw [work.arb]; exact new) (by decide)
      rw [← stowedRow stowed, work.arb] at locked
      exact lockedOut_around work after quiet_ quietAfter locked
    · have locked := addReason_lockedOut (k := .stowBlocked) actsNow (by rw [work.arb]; exact new) (by decide)
      rw [← blockedRow needed cannot, work.arb] at locked
      exact lockedOut_around work after quiet_ quietAfter locked
    · obtain ⟨w, exe, -, begins, -, begun⟩ := takeSafety_begins (s := u) (by rw [pose]; exact needed) (by rw [pose]; exact can) low
        (by rw [work.exe]; exact supply)
      rw [← begins, pose, ← stowRow needed can] at begun
      exact stowBegun_around work after quiet_.authority quietAfter.authority begun
  · have manual : s.arb.auth ≠ .manual := by rcases auth with auth | auth <;> simp [auth]
    have lockout : s.arb.auth ≠ .lockout := by rcases auth with auth | auth <;> simp [auth]
    obtain ⟨stowedRow, blockedRow, stowRow⟩ := rows manual lockout (by simp [lowering]) (by simp [failed])
    rw [pose, ← v_eq] at stowedRow blockedRow stowRow
    have holderNow : u.arb.holder = some .safety := by rw [work.arb]; exact holder
    have authNow : u.arb.auth = .moving ∨ u.arb.auth = .manualPending := by rw [work.arb]; exact auth
    have beside (k : LockReason) (other : k ≠ .estop) (row : v = addReason k u) :
        t.arb = { s.arb with reasons := s.arb.reasons.put k true } ∧ t.exe = s.exe ∧ t.safe.group = some .windLowering := by
      obtain ⟨only, -⟩ := addReason_safety_told other holderNow authNow
      obtain ⟨-, -, arb, exe, -, safeV, -⟩ := onlyOutputs_frame only
      rw [after.arb, after.exe, after.group, row, arb, exe, safeV]
      refine ⟨?_, work.exe, by rw [← lowering]; exact groupKept⟩
      show { u.arb with reasons := u.arb.reasons.put k true } = _
      rw [work.arb]
    refine ⟨fun stowed => beside .interlock (by decide) (stowedRow stowed),
      fun needed cannot => beside .stowBlocked (by decide) (blockedRow needed cannot), fun needed can supply => ?_⟩
    obtain ⟨w, exe, taken, begins, -, begun⟩ := takeSafety_begins (s := u) (by rw [pose]; exact needed) (by rw [pose]; exact can) low
      (by rw [work.exe]; exact supply)
    have row := stowRow needed can
    rw [pose] at begins
    obtain ⟨windTaken, alarmTaken, toldTaken⟩ := taken.raised (groupKept.trans lowering)
    have v_w : v = w.setExe exe := row.trans begins
    rw [← v_w] at begun
    have alarmV : v.safe.alarm = true := by rw [v_w]; exact alarmTaken
    obtain ⟨-, portsKept⟩ := sounding alarmV
    refine ⟨stowBegun_around work after quiet_.authority quietAfter.authority begun, ?_, fun silent => ?_⟩
    · rw [wind, v_w]
      exact windTaken
    · have told := toldTaken (by rw [safe]; exact silent)
      rw [work.arb, pose, safe, settings] at told
      have ports : t.ports = w.ports := by rw [portsKept, v_w]; rfl
      exact tellsAll_after (sameNotices_of_keeps lists (show 12 ∉ [10] by decide)) (tellsAll_of_ports rfl ports told)
  · have still : v = u := by
      rw [v_eq]
      refine parkActed_holds ?_
      unfold closingFailed
      rw [work.arb, groupKept, work.exe]
      exact holds.imp id fun ⟨_, _, stow⟩ => stow
    exact ⟨by rw [after.arb, still, work.arb], by rw [after.exe, still, work.exe], by rw [after.scan, still, work.scan],
      by rw [after.group, still, groupKept]⟩
  · have lockoutNow : u.arb.auth = .lockout := by rw [work.arb]; exact lockout
    have acts := parkActed_lockout lockoutNow (by rw [groupKept, group]; exact fun hit => by cases hit)
      (by unfold closingFailed; rw [work.exe]; unfold closingFailed at failed; rw [failed]; exact fun hit => by cases hit)
    rw [pose, ← v_eq] at acts
    by_cases stowed : stowAxes s.pose.position = []
    · rw [if_pos stowed] at acts
      obtain ⟨only, told⟩ := addReason_joins_told (k := .interlock) (Or.inr lockoutNow)
      rw [← acts] at only told
      obtain ⟨-, -, arb, exe, -, -, -, -, -, scan, -⟩ := onlyOutputs_frame only
      have lit : v.pose.lamp = true := by
        rw [poseV, lamp]
        exact lamp_of_stowed stowed
      have same : t = v := t_eq.trans (raiseParkAlarm_lit lit)
      rw [same]
      refine ⟨exe.trans work.exe, scan.trans work.scan, fun _ => ⟨?_, fun new => ?_⟩, fun needed => absurd stowed needed⟩
      · rw [arb]
        show { u.arb with reasons := u.arb.reasons.put .interlock true } = _
        rw [work.arb]
        rfl
      · have placed := told (by rw [work.arb]; exact new)
        rw [work.arb, pose, safe, settings] at placed
        exact tellsAll_after (sameNotices_of_keeps lists (show 12 ∉ [10] by decide)) placed
    · rw [if_neg stowed] at acts
      exact ⟨by rw [after.exe, acts, work.exe], by rw [after.scan, acts, work.scan], fun hit => absurd hit stowed,
        fun _ => by rw [after.arb, acts, work.arb]⟩

end Sys2Proof.Machine
end

section
/-! CLEAR LOCKOUT: the reasons that leave the set, and what follows them (R43 to R45, R96). -/

namespace Sys2Proof.Machine

variable {s t u v w : State} {left later : Reasons} {p : Port} {k : LockReason}

/-! ### Reasons that leave the set -/

/-- Reasons have left the set, told on each port that admits it if the set changed (R43, R45). -/
structure ReasonsLeft (left : Reasons) (s t : State) : Prop where
  only : onlyOutputs (fun _ => if left = s.arb.reasons then [] else [12]) (s.setArb { s.arb with reasons := left }) t
  told : left ≠ s.arb.reasons →
    tellsAll (.condition .lockout left s.pose.latch s.safe.alarmPark s.safe.alarmWind s.settings.defaulted) s t

theorem reasonsLeft_refl (same : s.arb.reasons = left) : ReasonsLeft left s s := by
  subst same
  exact ⟨onlyOutputs_refl _ s, fun changed => absurd rfl changed⟩

theorem dropReason_left (k : LockReason) (s : State) : ReasonsLeft (s.arb.reasons.put k false) s (dropReason k s) := by
  unfold dropReason
  by_cases held : s.arb.reasons.has k = true
  · have changed : s.arb.reasons.put k false ≠ s.arb.reasons := by
      intro same
      rw [← same] at held
      cases k <;> cases held
    rw [if_pos held]
    refine ⟨?_, fun _ => ?_⟩
    · rw [if_neg changed]
      exact placeAll_onlyOutputs (told := fun _ => [12]) _ (fun _ => List.mem_singleton.mpr rfl) _
    · exact tellsAll_of_ports rfl rfl (placeAll_tells (conditionBody .lockout (s.setArb
        { s.arb with reasons := s.arb.reasons.put k false })) (s.setArb { s.arb with reasons := s.arb.reasons.put k false }))
  · rw [if_neg held]
    refine reasonsLeft_refl ?_
    have absent : s.arb.reasons.has k = false := eq_false_of_ne_true held
    cases reasons : s.arb.reasons
    rw [reasons] at absent
    cases k <;> cases absent <;> rfl

theorem reasonsLeft_frame (h : ReasonsLeft left s t) :
    t.arb = { s.arb with reasons := left } ∧ t.exe = s.exe ∧ t.pose = s.pose ∧ t.safe = s.safe ∧ t.scan = s.scan
      ∧ t.settings = s.settings ∧ keepsLists [12] s t := by
  obtain ⟨only, -⟩ := h
  obtain ⟨-, -, arb, exe, pose, safe, -, -, -, scan, settings⟩ := onlyOutputs_frame only
  refine ⟨arb, exe, pose, safe, scan, settings, fun p => ?_⟩
  exact keepsLists_of_onlyOutputs (onlyOutputs_mono (more := fun _ => [12]) (fun _ => by split <;> simp) only) p

/-- One removal after another, where the second puts nothing back. -/
theorem reasonsLeft_trans (first : ReasonsLeft left s t) (second : ReasonsLeft later t u)
    (falls : later = s.arb.reasons → left = s.arb.reasons) : ReasonsLeft later s u := by
  obtain ⟨arb, -, pose, safe, -, settings, masks⟩ := reasonsLeft_frame first
  obtain ⟨only, told⟩ := first
  obtain ⟨onlyLater, toldLater⟩ := second
  have reasons : t.arb.reasons = left := by rw [arb]
  rw [arb, pose, safe, settings] at toldLater
  rw [reasons] at onlyLater
  have between : t.setArb { t.arb with reasons := later } = t.setArb { s.arb with reasons := later } := by rw [arb]
  rw [between] at onlyLater
  refine ⟨?_, fun changed => ?_⟩
  · refine onlyOutputs_trans (onlyOutputs_mono (fun _ => listed_mono falls)
      (onlyOutputs_setArb only { s.arb with reasons := later })) ?_
    refine onlyOutputs_mono (fun _ => listed_mono fun same => ?_) onlyLater
    rw [same, falls same]
  · by_cases again : later = left
    · have ports : u.ports = t.ports := by
        simp only [again, if_true] at onlyLater
        rw [onlyOutputs_nil onlyLater]
        rfl
      rw [again]
      exact tellsAll_of_ports rfl ports (told (again ▸ changed))
    · by_cases same : left = s.arb.reasons
      · have ports : t.ports = s.ports := by
          simp only [same, if_true] at only
          rw [onlyOutputs_nil only]
          rfl
        exact tellsAll_of_ports ports.symm rfl (toldLater again)
      · exact tellsAll_again (told same) (toldLater again) rfl (plain_condition _ _ _ _ _ _) fun p => (masks p).2

/-- The set that CLEAR LOCKOUT leaves (R44). -/
def clearedSet (s : State) : Reasons :=
  { s.arb.reasons with
    estop := s.arb.reasons.estop && s.safe.estop
    stowFailed := s.arb.reasons.stowFailed && (s.arb.reasons.estop && s.safe.estop) }

/-- Both steps of R44. -/
def cleared (s : State) : State := clearStowFailed (clearEstop s)

theorem clearEstop_left (s : State) :
    ReasonsLeft { s.arb.reasons with estop := s.arb.reasons.estop && s.safe.estop } s (clearEstop s) := by
  unfold clearEstop
  by_cases line : s.safe.estop = true
  · rw [if_pos line, line, Bool.and_true]
    exact reasonsLeft_refl rfl
  · rw [if_neg line, eq_false_of_ne_true line, Bool.and_false]
    exact dropReason_left .estop s

theorem clearStowFailed_left (s : State) :
    ReasonsLeft { s.arb.reasons with stowFailed := s.arb.reasons.stowFailed && s.arb.reasons.estop } s (clearStowFailed s) := by
  unfold clearStowFailed
  by_cases held : s.arb.reasons.estop = true
  · rw [if_pos held, held, Bool.and_true]
    exact reasonsLeft_refl rfl
  · rw [if_neg held, eq_false_of_ne_true held, Bool.and_false]
    exact dropReason_left .stowFailed s

theorem cleared_left (s : State) : ReasonsLeft (clearedSet s) s (cleared s) := by
  have first := clearEstop_left s
  have second := clearStowFailed_left (clearEstop s)
  obtain ⟨arb, -⟩ := reasonsLeft_frame first
  rw [arb] at second
  refine reasonsLeft_trans first second fun same => ?_
  have estop : (s.arb.reasons.estop && s.safe.estop) = s.arb.reasons.estop := congrArg Reasons.estop same
  rw [estop]

/-! ### The answer and what follows it -/

theorem clearLockout_rack (s : State) :
    clearLockout .rack s =
      if s.arb.reasons = Reasons.empty then respond .rack .clearLockout .done [(clearedSet s).byte] (cleared s)
      else if clearedSet s = s.arb.reasons then respond .rack .clearLockout .lockedOut [(clearedSet s).byte] (cleared s)
      else afterRemoval (respond .rack .clearLockout .done [(clearedSet s).byte] (cleared s)) := by
  have arb : (cleared s).arb.reasons = clearedSet s := by rw [(reasonsLeft_frame (cleared_left s)).1]
  unfold clearLockout
  rw [if_neg (by simp)]
  dsimp only
  change (if s.arb.reasons.isEmpty = true then respond .rack .clearLockout .done [(cleared s).arb.reasons.byte] (cleared s)
    else if (cleared s).arb.reasons = s.arb.reasons then
      respond .rack .clearLockout .lockedOut [(cleared s).arb.reasons.byte] (cleared s)
    else afterRemoval (respond .rack .clearLockout .done [(cleared s).arb.reasons.byte] (cleared s))) = _
  rw [arb]
  exact ite_congr (propext (isEmpty_iff _)) (fun _ => rfl) (fun _ => rfl)

/-- What follows the removals, where they do not empty the set in LOCKOUT (R43). -/
theorem afterRemoval_stays (stays : s.arb.auth ≠ .lockout ∨ s.arb.reasons ≠ Reasons.empty) : afterRemoval s = s := by
  refine if_neg fun ⟨lockout, empty⟩ => ?_
  rcases stays with other | some_
  · exact other lockout
  · exact some_ ((isEmpty_iff _).mp empty)

/-- What follows the removals that empty the set in LOCKOUT, with PARK negated (R43, R96). -/
theorem afterRemoval_negated (lockout : s.arb.auth = .lockout) (empty : s.arb.reasons = Reasons.empty)
    (park : s.safe.park = false) :
    afterRemoval s = parkRule s.pose.position false (s.setArb (freed s)) := by
  unfold afterRemoval
  rw [if_pos ⟨lockout, (isEmpty_iff _).mpr empty⟩]
  simp only [toFree_eq, State.setArb_safe, park]
  rfl

theorem respond_unheld {r : Request} {status : Status} (fields : List Byte) (unheld : s.arb.auth ≠ .held)
    (success : status.success = true) : respond p r status fields s = answeredState p r status fields s := by
  rw [respond_done _ _ _ _ _ success]
  exact doneState_unheld (Or.inl unheld)

/-- An answer leaves the authority state and the set of reasons as they stand. -/
theorem respond_done_stands {r : Request} {status : Status} (fields : List Byte) (success : status.success = true) :
    (respond p r status fields s).arb.auth = s.arb.auth ∧ (respond p r status fields s).arb.reasons = s.arb.reasons := by
  rw [respond_done _ _ _ _ _ success]
  show (idleRestarted _ _ _).auth = _ ∧ (idleRestarted _ _ _).reasons = _
  unfold idleRestarted
  split <;> exact ⟨rfl, rfl⟩

/-! ### The park rule in FREE -/

/-- With nobody holding authority and nothing under way, the first entry of SAFETY's group is all that is told: it may be
suspended (R40, R73). -/
theorem takenBy_ports (active : s.exe.active = none) (holder : s.arb.holder = none) (group : s.safe.group = none)
    (g : SafetyGroup) (ds : List Draft) : (takenBy g ds s).ports = s.ports := by
  have halts : (haltByOrder .safety s).ports = s.ports := by
    have entry : activeEntry s = none := activeEntry_none active
    unfold haltByOrder haltAll finishScan
    rw [entry]
    cases s.scan.scan <;> cases s.scan.result <;> rfl
  have safe : (haltByOrder .safety s).safe = s.safe := by simp
  have made : haltedFor .safety .safety s = groupCut (haltByOrder .safety s) := by
    unfold haltedFor
    rw [holder]
    rfl
  obtain ⟨-, -, kept, -⟩ := groupCut_cut (haltByOrder .safety s)
  obtain ⟨-, -, ports⟩ := kept (by rw [safe, group]; exact fun hit => by cases hit)
  show (haltedFor .safety .safety s).ports = _
  rw [made, ports, halts]

/-- The first entry of SAFETY's group has become active (R54). -/
def firstActive (e : Entry) (rest : List Entry) (w : State) : State :=
  w.setExe { w.exe with queue := e :: rest, active := some (freshOn e w) }

theorem firstActive_entry (e : Entry) (rest : List Entry) (w : State) : activeEntry (firstActive e rest w) = some e :=
  activeEntry_of rfl rfl

/-- Without the supply, and with no crank waited for, the first entry of SAFETY's group is suspended (R73). -/
theorem taken_stays {g : SafetyGroup} {ds : List Draft} {e : Entry} {rest : List Entry} {a : Axis} {target : Int}
    (taken : Taken g ds s w) (queue : w.exe.queue = e :: rest) (sound : passes e a target w) (supply : s.exe.supply ≠ .available)
    (unpending : s.arb.auth ≠ .manualPending) :
    goAhead w = suspendActive (firstActive { e with target := some target } rest w) := by
  obtain ⟨v, v_eq⟩ : ∃ v, v = firstActive { e with target := some target } rest w := ⟨_, rfl⟩
  have auth : v.arb.auth ≠ .manualPending := by
    rw [v_eq]
    show w.arb.auth ≠ _
    rw [taken.arb]
    show (if s.arb.auth = .manualPending then AuthState.manualPending else .moving) ≠ _
    rw [if_neg unpending]
    exact fun hit => by cases hit
  have closing : (suspendActive v).exe.closing = none := by
    rw [v_eq, suspendActive_exe (firstActive_entry _ rest w)]
    exact (taken_ready taken).2
  rw [taken_suspends taken queue sound supply, activated_unheld (taken_unheld taken)]
  show advance (suspendOrAbandon (firstActive { e with target := some target } rest w)) = _
  rw [← v_eq]
  unfold suspendOrAbandon
  dsimp only
  rw [if_neg auth, advance_still closing]

theorem takeSafety_quiet (active : s.exe.active = none) (holder : s.arb.holder = none) (group : s.safe.group = none)
    (unpending : s.arb.auth ≠ .manualPending) (needed : stowAxes s.pose.position ≠ [])
    (can : stowable s.pose.position s.pose.faulted = true) (low : 0 ≤ s.pose.position.mast) :
    keepsLists [14] s (takeSafety .parkStow (parkStowDrafts s.pose.position) s) := by
  obtain ⟨a, others, first⟩ := List.exists_cons_of_ne_nil needed
  obtain ⟨w, w_eq⟩ : ∃ w, w = takenBy .parkStow (parkStowDrafts s.pose.position) s := ⟨_, rfl⟩
  have taken : Taken .parkStow (parkStowDrafts s.pose.position) s w := by
    rw [w_eq]
    exact taken_takenBy ..
  have ports : w.ports = s.ports := by
    rw [w_eq]
    exact takenBy_ports active holder group ..
  obtain ⟨e, rest, queue, -, sound, -⟩ := parkStow_ready taken first can low
  obtain ⟨-, -, far⟩ := stow_first first can low
  rw [takeSafety_eq, ← w_eq]
  by_cases supply : s.exe.supply = .available
  · rw [taken_drives taken queue sound supply far]
    exact keepsLists_of_ports ports
  · rw [taken_stays taken queue sound supply unpending]
    exact keepsLists_before ports (suspendActive_keeps (firstActive _ rest w) (by decide))

/-- A reason that joins the set in FREE, with nothing under way. -/
theorem addReason_entered (free : s.arb.auth = .free) (closing : s.exe.closing = none) (new : s.arb.reasons.has k = false) :
    (addReason k s).arb = lockedOut (s.arb.reasons.put k true) s ∧ (addReason k s).exe = s.exe
      ∧ keepsLists [3, 12] s (addReason k s) := by
  obtain ⟨only, -⟩ := enlistReason_told k s
  obtain ⟨-, -, arb, exe, -⟩ := onlyOutputs_frame only
  have lists : keepsLists [12] s (enlistReason k s) := fun p => keepsLists_of_onlyOutputs only p
  rw [addReason_free new free]
  refine ⟨?_, ?_, keepsLists_trans (keepsLists_mono (by decide) lists)
    (keepsLists_mono (by decide) (enterLockout_keeps (kinds := [3]) _ (by decide)))⟩
  · rw [enterLockout_arb, arb]
    unfold lockedOut
    rw [arb]
    rfl
  · rw [enterLockout_exe, exe]
    show { s.exe with closing := none } = s.exe
    rw [← closing]

/-- The rows of the park rule in FREE, with nothing under way (R96). -/
theorem parkRule_free (free : s.arb.auth = .free) (holder : s.arb.holder = none) (active : s.exe.active = none)
    (closing : s.exe.closing = none) (group : s.safe.group = none) (empty : s.arb.reasons = Reasons.empty)
    (low : 0 ≤ s.pose.position.mast) :
    keepsLists [3, 12, 14] s (parkRule s.pose.position false s)
      ∧ (stowAxes s.pose.position = [] →
          (parkRule s.pose.position false s).arb = lockedOut { Reasons.empty with interlock := true } s
            ∧ (parkRule s.pose.position false s).exe = s.exe)
      ∧ (stowAxes s.pose.position ≠ [] → stowable s.pose.position s.pose.faulted = false →
          (parkRule s.pose.position false s).arb = lockedOut { Reasons.empty with stowBlocked := true } s
            ∧ (parkRule s.pose.position false s).exe = s.exe)
      ∧ (stowAxes s.pose.position ≠ [] → stowable s.pose.position s.pose.faulted = true → s.exe.supply = .available →
          StowBegun s (parkRule s.pose.position false s)) := by
  obtain ⟨alarmOnly, acted⟩ := parkRule_acted s
  obtain ⟨after, lists⟩ := parkRuleAlarms_rest (parkActed s).pose.position alarmOnly (parkActed s)
  rw [← acted] at after lists
  have failed : closingFailed s ≠ some .parkStow := by
    unfold closingFailed
    rw [closing]
    exact fun hit => by cases hit
  obtain ⟨stowedRow, blockedRow, stowRow⟩ := parkActed_acts (by rw [free]; decide) (by rw [free]; decide)
    (by rw [group]; exact fun hit => by cases hit) failed
  have enters (k : LockReason) (row : parkActed s = addReason k s) :
      keepsLists [3, 12, 14] s (parkRule s.pose.position false s)
        ∧ (parkRule s.pose.position false s).arb = lockedOut (Reasons.empty.put k true) s
        ∧ (parkRule s.pose.position false s).exe = s.exe := by
    have new : s.arb.reasons.has k = false := by
      rw [empty]
      cases k <;> rfl
    obtain ⟨arb, exe, listsBefore⟩ := addReason_entered free closing new
    rw [row] at after lists
    rw [empty] at arb
    exact ⟨keepsLists_trans (keepsLists_mono (by decide) listsBefore) (keepsLists_mono (by decide) lists), after.arb.trans arb,
      after.exe.trans exe⟩
  by_cases stowed : stowAxes s.pose.position = []
  · obtain ⟨kept, rowArb, rowExe⟩ := enters .interlock (stowedRow stowed)
    exact ⟨kept, fun _ => ⟨rowArb, rowExe⟩, fun needed => absurd stowed needed, fun needed => absurd stowed needed⟩
  by_cases can : stowable s.pose.position s.pose.faulted = true
  · rw [stowRow stowed can] at after lists
    refine ⟨?_, fun hit => absurd hit stowed, fun _ cannot => ?_, fun _ _ supply => ?_⟩
    · exact keepsLists_trans
        (keepsLists_mono (by decide) (takeSafety_quiet active holder group (by rw [free]; decide) stowed can low))
        (keepsLists_mono (by decide) lists)
    · rw [can] at cannot
      cases cannot
    · obtain ⟨w, exe, -, begins, -, begun⟩ := takeSafety_begins stowed can low supply
      rw [← begins] at begun
      exact stowBegun_around ⟨rfl, rfl, rfl, rfl, rfl, rfl⟩ after
        (sameNotices_refl 2 s) (sameNotices_of_keeps lists (show 2 ∉ [12] by decide)) begun
  · have cannot : stowable s.pose.position s.pose.faulted = false := eq_false_of_ne_true can
    obtain ⟨kept, rowArb, rowExe⟩ := enters .stowBlocked (blockedRow stowed cannot)
    exact ⟨kept, fun hit => absurd hit stowed, fun _ _ => ⟨rowArb, rowExe⟩, fun _ can => absurd can (by rw [cannot]; decide)⟩

/-- Settles O17: the two steps, the answer, and the rows of the rule in FREE. -/
theorem clearLockoutRemovesReasons : Obligations.ClearLockoutRemovesReasons := by
  intro p left s takes_ left_eq
  obtain rfl : clearedSet s = left := left_eq.symm
  have gone := cleared_left s
  obtain ⟨arb, exe, pose, safe, scan, settings, lists⟩ := reasonsLeft_frame gone
  obtain ⟨u, u_eq⟩ : ∃ u, u = cleared s := ⟨_, rfl⟩
  rw [← u_eq] at gone arb exe pose safe scan settings lists
  have arm : exec (.clearLockout p) s = .next (onRequest p .clearLockout (clearLockout p) s) := rfl
  refine ⟨fun other => ?_, fun rack empty => ?_, fun rack some_ same => ?_, fun rack changed stays => ?_,
    fun rack changed lockout empty park => ?_, fun v rack changed lockout empty park queue active closing group follows v_eq => ?_⟩
  · exact exec_of_refused arm takes_ (if_pos other) rfl
  all_goals
    subst rack
    have answers := clearLockout_rack s
    rw [← u_eq] at answers
  · have same : clearedSet s = s.arb.reasons := by
      unfold clearedSet
      rw [empty]
      rfl
    have still : u = s := by
      obtain ⟨only, -⟩ := gone
      simp only [same, if_true] at only
      rw [onlyOutputs_nil only]
      rfl
    rw [if_pos empty, same, still, empty] at answers
    exact exec_of_done arm takes_ answers rfl
  · have still : u = s := by
      obtain ⟨only, -⟩ := gone
      simp only [same, if_true] at only
      rw [onlyOutputs_nil only]
      rfl
    rw [if_neg some_, if_pos same, still] at answers
    exact exec_of_refused arm takes_ answers rfl
  all_goals
    have some_ : s.arb.reasons ≠ Reasons.empty := by
      intro none_
      refine changed ?_
      unfold clearedSet
      rw [none_]
      rfl
    rw [if_neg some_, if_neg changed] at answers
    obtain ⟨only, told⟩ := gone
    simp only [changed, if_false] at only
  · refine ⟨u, exec_of_done arm takes_ ?_ rfl, only, told changed⟩
    rw [answers]
    obtain ⟨auth, reasons⟩ := respond_done_stands (p := .rack) (r := .clearLockout) (status := .done) (s := u)
      [(clearedSet s).byte] rfl
    rw [arb] at auth reasons
    exact afterRemoval_stays (stays.imp (fun other => by rw [auth]; exact other) fun some_ => by rw [reasons]; exact some_)
  all_goals
    rw [empty] at arb answers
    have lockoutNow : u.arb.auth = .lockout := by rw [arb]; exact lockout
    have reasonsNow : u.arb.reasons = Reasons.empty := by rw [arb]
    have parkNow : u.safe.park = s.safe.park := by rw [safe]
    rw [park] at parkNow
    have unheld : u.arb.auth ≠ .held := by
      rw [lockoutNow]
      exact fun hit => by cases hit
    rw [respond_unheld _ unheld rfl] at answers
  · refine ⟨u.setArb { freed s with reasons := clearedSet s }, ?_, onlyOutputs_setArb only _,
      tellsAll_of_ports rfl rfl (told changed)⟩
    have removed := (afterRemoval_parked (s := answeredState .rack .clearLockout .done [Reasons.empty.byte] u) parkNow).trans
      (congrArg _ (if_pos ⟨lockoutNow, reasonsNow⟩))
    rw [exec_of_takes arm takes_, answers, removed, empty]
    have arbA : (answeredState .rack .clearLockout .done [Reasons.empty.byte] u).arb = { s.arb with reasons := Reasons.empty } := arb
    unfold freed
    rw [arbA]
    rfl
  · obtain ⟨a, a_eq⟩ : ∃ a, a = answeredState .rack .clearLockout .done [Reasons.empty.byte] u := ⟨_, rfl⟩
    obtain ⟨w, w_eq⟩ : ∃ w, w = a.setArb (freed a) := ⟨_, rfl⟩
    have arbA : a.arb = u.arb := by rw [a_eq]; rfl
    have safeA : a.safe = u.safe := by rw [a_eq]; rfl
    have poseW : w.pose = s.pose := by
      rw [w_eq, a_eq, ← pose]
      rfl
    have poseA : a.pose = w.pose := by rw [w_eq]; rfl
    have arbW : w.arb = { freed s with reasons := Reasons.empty } := by
      rw [w_eq]
      show freed a = _
      unfold freed
      rw [arbA, arb]
    have exeW : w.exe = s.exe := by
      rw [w_eq, a_eq, ← exe]
      rfl
    have scanW : w.scan = s.scan := by
      rw [w_eq, a_eq, ← scan]
      rfl
    have safeW : w.safe = s.safe := by
      rw [w_eq, a_eq, ← safe]
      rfl
    have portsW : w.ports = answer .rack (requestCode .clearLockout) .done [Reasons.empty.byte] u.ports := by
      rw [w_eq, a_eq]
      rfl
    rw [← a_eq, afterRemoval_negated (by rw [arbA]; exact lockoutNow) (by rw [arbA]; exact reasonsNow)
      (by rw [safeA]; exact parkNow), ← w_eq, poseA] at answers
    obtain ⟨listsAfter, stowedRow, blockedRow, stowRow⟩ := parkRule_free (s := w) (by rw [arbW]; rfl) (by rw [arbW]; rfl)
      (by rw [exeW]; exact active) (by rw [exeW]; exact closing) (by rw [safeW]; exact group) (by rw [arbW])
      (by rw [poseW]; exact mast_nonneg follows)
    rw [← answers, poseW] at stowedRow blockedRow stowRow
    rw [← answers] at listsAfter
    rw [empty] at v_eq
    have arbV : w.arb = v.arb := by
      rw [arbW, v_eq]
      rfl
    refine ⟨clearLockout .rack s, exec_of_takes arm takes_, responds_of (keepsLists_mono (by decide) lists) portsW listsAfter, ?_,
      fun stowed => ?_, fun needed cannot => ?_, fun needed can supply => ?_⟩
    · exact ⟨by simp, by simp, by simp, by simp, by simp, by simp,
        sensed_of (by simp) (by simp) (by simp) (by simp) (by simp) (by simp) (by simp) (by simp) (by simp) (by simp)⟩
    · obtain ⟨rowArb, rowExe⟩ := stowedRow stowed
      exact ⟨rowArb.trans (lockedOut_of_arb arbV _), rowExe.trans exeW⟩
    · obtain ⟨rowArb, rowExe⟩ := blockedRow needed cannot
      exact ⟨rowArb.trans (lockedOut_of_arb arbV _), rowExe.trans exeW⟩
    · have work : SameWork v w := by
        rw [v_eq]
        exact ⟨arbW, exeW, scanW, poseW, congrArg SafetyMonitor.estop safeW, congrArg SafetyMonitor.group safeW⟩
      have first : sameNotices 2 v w := by
        have answered := respond_same 2 .rack .clearLockout .done [Reasons.empty.byte] u
        rw [respond_unheld _ unheld rfl, ← a_eq] at answered
        rw [v_eq, w_eq]
        exact sameNotices_trans (sameNotices_of_keeps lists (show 2 ∉ [12] by decide)) answered
      have begun := stowRow needed can (by rw [exeW]; exact supply)
      exact stowBegun_around work ⟨rfl, rfl, rfl, rfl, rfl, rfl⟩ first (sameNotices_refl 2 _) begun

end Sys2Proof.Machine
end

section
/-! The MANUAL notices reach no port whose mask keeps them off, whatever is under way (R86, R162). -/

namespace Sys2Proof.Machine

variable {s t u : State}

/-- The masks stand, and a port whose mask keeps MANUAL off is not told. -/
structure CrankHidden (s t : State) : Prop where
  masks : ∀ p, (t.ports.get p).mask = (s.ports.get p).mask
  hidden : masked 13 s t

theorem CrankHidden.refl (s : State) : CrankHidden s s := ⟨fun _ => rfl, masked_of_ports rfl⟩

theorem CrankHidden.trans (first : CrankHidden s t) (second : CrankHidden t u) : CrankHidden s u :=
  ⟨fun p => (second.masks p).trans (first.masks p), masked_trans first.masks first.hidden second.hidden⟩

theorem crankHidden_of_ports (ports : t.ports = s.ports) : CrankHidden s t :=
  ⟨fun p => by rw [ports], masked_of_ports ports⟩

theorem crankHidden_of_keeps {kinds : List Nat} (lists : keepsLists kinds s t) (other : 13 ∉ kinds) : CrankHidden s t :=
  ⟨fun p => (lists p).2, masked_of_same (sameNotices_of_keeps lists other)⟩

theorem crankHidden_ite {P : Prop} [Decidable P] (yes : CrankHidden s t) (no : CrankHidden s u) :
    CrankHidden s (if P then t else u) := ite_keeps (P := CrankHidden s) yes no

theorem placeAll_crankHidden (body : NoticeBody) (crank : body.kind = 13) (s : State) : CrankHidden s (placeAll body s) := by
  have told := masked_of_tellsAll (placeAll_tells body s)
  rw [crank] at told
  exact ⟨fun p => (placeAll_keeps (kinds := [body.kind]) body s List.mem_cons_self p).2, told⟩

theorem placeAuthority_crankHidden (h : Option Party) (event : AuthEvent) (why : Option AuthReason) (halted discarded : Nat)
    (s : State) : CrankHidden s (placeAuthority h event why halted discarded s) :=
  crankHidden_of_keeps (kinds := [2]) (placeAuthority_keeps _ _ _ _ _ s List.mem_cons_self) (by decide)

theorem grantCrank_crankHidden (lh ld bh bd : Nat) (s : State) : CrankHidden s (grantCrank lh ld bh bd s) := by
  have lost : CrankHidden s (if s.arb.releaseMark then s else placeAuthority s.arb.holder .lost (some .manual) lh ld s) :=
    crankHidden_ite (.refl s) (placeAuthority_crankHidden _ _ _ _ _ s)
  unfold grantCrank
  dsimp only
  refine CrankHidden.trans ?_ (placeAll_crankHidden _ rfl _)
  obtain ⟨v, v_eq⟩ : ∃ v, v = if s.arb.releaseMark then s else placeAuthority s.arb.holder .lost (some .manual) lh ld s := ⟨_, rfl⟩
  rw [← v_eq] at lost ⊢
  exact lost.trans (crankHidden_of_ports rfl)

theorem groupCut_crankHidden (s : State) : CrankHidden s (groupCut s) :=
  crankHidden_of_keeps (kinds := [12]) (groupCut_keeps s List.mem_cons_self) (by decide)

theorem enterLockout_crankHidden (s : State) : CrankHidden s (enterLockout s) :=
  crankHidden_of_keeps (kinds := [3]) (enterLockout_keeps s List.mem_cons_self) (by decide)

theorem finishScan_crankHidden (why : EndReason) (learned : Bool) (s : State) : CrankHidden s (finishScan why learned s) :=
  crankHidden_of_keeps (kinds := [7]) (finishScan_keeps why learned s List.mem_cons_self) (by decide)

theorem handOn_crankHidden (d : Deferral) (s : State) : CrankHidden s (handOn d s) :=
  crankHidden_of_keeps (kinds := [2, 3]) (handOn_keeps d s (by decide) (by decide)) (by decide)

theorem abandonForCrank_crankHidden (s : State) : CrankHidden s (abandonForCrank s) := by
  unfold abandonForCrank
  split
  · exact .refl s
  · next e _ =>
    have ended := (finishScan_crankHidden .endedManual false s).trans
      (crankHidden_of_ports (t := dropActive e (finishScan .endedManual false s)) (by simp))
    obtain ⟨v, v_eq⟩ : ∃ v, v = dropActive e (finishScan .endedManual false s) := ⟨_, rfl⟩
    dsimp only
    rw [← v_eq] at ended ⊢
    refine CrankHidden.trans ?_ (grantCrank_crankHidden _ _ _ _ _)
    refine CrankHidden.trans ?_ (groupCut_crankHidden _)
    exact ended.trans (crankHidden_of_ports rfl)

theorem lockedState_crankHidden (auth : AuthState) (v : State) : CrankHidden v (lockedState auth v) := by
  unfold lockedState
  exact crankHidden_ite ((enterLockout_crankHidden v).trans (grantCrank_crankHidden _ _ _ _ _)) (enterLockout_crankHidden v)

theorem addReason_crankHidden (k : LockReason) (s : State) : CrankHidden s (addReason k s) := by
  have enlisted : CrankHidden s (enlistReason k s) :=
    crankHidden_of_keeps (kinds := [12]) (enlistReason_keeps k s List.mem_cons_self) (by decide)
  rcases addReason_cases k s with same | same | same | same
  · rw [same]
    exact .refl s
  · rw [same]
    exact enlisted
  · rw [same]
    exact enlisted.trans (enterLockout_crankHidden _)
  · rw [same]
    exact (crankHidden_of_keeps (locking_lockingFor k s).lists (by decide)).trans (lockedState_crankHidden _ _)

/-! ### Boundaries -/

theorem groupEnded_crankHidden (ending : Ending) (s : State) : CrankHidden s (groupEnded ending s) := by
  have none_ : CrankHidden s (s.setSafe { s.safe with group := none }) := crankHidden_of_ports rfl
  unfold groupEnded
  dsimp only
  split
  · exact crankHidden_ite none_ (none_.trans (addReason_crankHidden _ _))
  · exact none_.trans (crankHidden_of_keeps (kinds := [12]) (setAlarmCauses_keeps _ _ _ List.mem_cons_self) (by decide))
  · exact crankHidden_ite (addReason_crankHidden _ s) (.refl s)

theorem safetyBoundary_crankHidden (ending : Ending) (s : State) : CrankHidden s (safetyBoundary ending s) := by
  have ended := groupEnded_crankHidden ending s
  have locked := ended.trans (enterLockout_crankHidden _)
  unfold safetyBoundary
  dsimp only
  split
  · exact crankHidden_ite (ended.trans (grantCrank_crankHidden _ _ _ _ _)) (locked.trans (grantCrank_crankHidden _ _ _ _ _))
  · exact crankHidden_ite (ended.trans (handOn_crankHidden _ _)) locked
  · exact ended

theorem takeBoundary_crankHidden (ending : Ending) (s : State) : CrankHidden s (takeBoundary ending s) := by
  unfold takeBoundary
  split
  · exact crankHidden_of_ports rfl
  · exact handOn_crankHidden _ s
  · exact grantCrank_crankHidden _ _ _ _ s
  · exact safetyBoundary_crankHidden ending s
  · exact .refl s

/-! ### Activations -/

theorem completeActive_crankHidden (s : State) : CrankHidden s (completeActive s) :=
  crankHidden_of_keeps (kinds := [4]) (completeActive_keeps s List.mem_cons_self) (by decide)

theorem startMove_crankHidden (a : Axis) (target : Int) (rate : Rate) (s : State) : CrankHidden s (startMove a target rate s) := by
  have directed : CrankHidden s (setDirection a target s) := crankHidden_of_ports (by simp)
  unfold startMove
  dsimp only
  exact crankHidden_ite
    (crankHidden_ite (directed.trans (completeActive_crankHidden _)) (directed.trans (crankHidden_of_ports (by simp))))
    (crankHidden_of_ports (by simp))

theorem startEntry_crankHidden (e : Entry) (s : State) : CrankHidden s (startEntry e s) := by
  unfold startEntry
  split
  · exact startMove_crankHidden _ _ _ s
  · exact startMove_crankHidden _ _ _ s
  · exact crankHidden_of_ports (by simp)

theorem failActive_crankHidden (why : EndReason) (driven : Bool) (s : State) : CrankHidden s (failActive why driven s) := by
  unfold failActive
  split
  · exact .refl s
  · next e _ =>
    have ended := (finishScan_crankHidden why false s).trans
      (crankHidden_of_ports (t := dropActive e (finishScan why false s)) (by simp))
    have told (body : NoticeBody) (v : State) (five : body.kind = 5) :
        CrankHidden v (tellSafety e.origin (placeOrigin e.origin body v)) := by
      have placed : keepsLists [5, 12] v (placeOrigin e.origin body v) := placeOrigin_keeps _ _ v (by rw [five]; decide)
      exact crankHidden_of_keeps (keepsLists_trans placed (tellSafety_keeps _ _ (by decide))) (by decide)
    dsimp only
    refine ended.trans (CrankHidden.trans (told _ _ ?_) (crankHidden_of_ports rfl))
    rfl

theorem suspendOrAbandon_crankHidden (s : State) : CrankHidden s (suspendOrAbandon s) := by
  have suspended : CrankHidden s (suspendActive s) :=
    crankHidden_of_keeps (kinds := [14]) (suspendActive_keeps s List.mem_cons_self) (by decide)
  exact crankHidden_ite (suspended.trans (abandonForCrank_crankHidden _)) suspended

theorem activate_crankHidden (s : State) : CrankHidden s (activate s) := by
  rcases activate_cases s with same | ⟨e, rest, -, -, -, begun⟩
  · rw [same]
    exact .refl s
  have active : CrankHidden s (becomeActive e rest s) := by
    unfold becomeActive reportActivation
    exact crankHidden_ite (crankHidden_of_ports rfl) (crankHidden_of_ports rfl)
  rcases begun with ⟨why, -, failed⟩ | ⟨-, -, started⟩ | ⟨-, -, suspended⟩
  · rw [failed]
    exact active.trans (failActive_crankHidden _ _ _)
  · rw [started]
    exact active.trans (startEntry_crankHidden _ _)
  · rw [suspended]
    exact active.trans (suspendOrAbandon_crankHidden _)

theorem runQueue_crankHidden (n : Nat) (s : State) : CrankHidden s (runQueue n s) := by
  induction n generalizing s with
  | zero => exact .refl s
  | succ n ih =>
    rcases runQueue_cases n s with same | ⟨c, -, -, reported⟩
    · rw [same]
      exact .refl s
    · have made : CrankHidden s (s.setExe { s.exe with closing := none }) := crankHidden_of_ports rfl
      rw [reported]
      exact crankHidden_ite ((made.trans (activate_crankHidden _)).trans (ih _)) (made.trans (takeBoundary_crankHidden _ _))

theorem goAhead_crankHidden (s : State) : CrankHidden s (goAhead s) :=
  (activate_crankHidden s).trans (runQueue_crankHidden 24 _)

theorem takeSafety_crankHidden (group : SafetyGroup) (ds : List Draft) (s : State) : CrankHidden s (takeSafety group ds s) := by
  rw [takeSafety_eq]
  exact (crankHidden_of_keeps (taken_takenBy group ds s).lists (by decide)).trans (goAhead_crankHidden _)

/-! ### The park rule and the end of a crank -/

theorem parkRuleAlarms_crankHidden (position : Axes Int) (alarmOnly : Bool) (s : State) :
    CrankHidden s (parkRuleAlarms position alarmOnly s) :=
  crankHidden_of_keeps (parkRuleAlarms_rest position alarmOnly s).2 (by decide)

theorem parkRule_crankHidden (position : Axes Int) (atCrankEnd : Bool) (s : State) :
    CrankHidden s (parkRule position atCrankEnd s) := by
  unfold parkRule parkRuleLockout parkRuleAct
  dsimp only
  refine CrankHidden.trans ?_ (parkRuleAlarms_crankHidden _ _ _)
  exact crankHidden_ite (.refl s) (crankHidden_ite (crankHidden_ite (addReason_crankHidden _ s) (.refl s))
    (crankHidden_ite (addReason_crankHidden _ s)
      (crankHidden_ite (takeSafety_crankHidden _ _ s) (addReason_crankHidden _ s))))

theorem leaveManual_crankHidden (position : Axes Int) (s : State) : CrankHidden s (leaveManual position s) := by
  have ruled := parkRule_crankHidden position true s
  unfold leaveManual
  dsimp only
  exact crankHidden_ite (enterLockout_crankHidden s)
    (crankHidden_ite (crankHidden_ite (ruled.trans (enterLockout_crankHidden _)) ruled)
      (crankHidden_of_keeps (kinds := [2]) (passOn_keeps .manual s List.mem_cons_self) (by decide)))

theorem unblockStow_crankHidden (position : Axes Int) (s : State) : CrankHidden s (unblockStow position s) :=
  crankHidden_ite (crankHidden_of_keeps (kinds := [12]) (dropReason_keeps .stowBlocked s List.mem_cons_self) (by decide))
    (.refl s)

end Sys2Proof.Machine
end

section
/-! The key is turned back: the end of a crank, and the request withdrawn (R42, R43, R45, R82, R85, R86, R96, R100). -/

namespace Sys2Proof.Machine

variable {s t u v w : State} {c : Instr} {r : Reading} {position : Axes Int} {left : Reasons} {k : LockReason} {p q : Port}

/-! ### The reading at which a crank ends -/

/-- A full reading has been taken for the end of a crank, MANUAL GRANT being negated (R85). -/
structure CrankRead (r : Reading) (s v : State) : Prop where
  arb : v.arb = { s.arb with grant := false, crankEnd := none }
  exe : v.exe = s.exe
  scan : v.scan = s.scan
  pose : v.pose = (recordReading r s).pose
  settings : v.settings = s.settings
  group : v.safe.group = s.safe.group
  park : v.safe.park = s.safe.park
  estop : v.safe.estop = s.safe.estop
  lists : keepsLists [12] s v
  hidden : masked 12 s v

theorem crankRead_takeReading (like : s.ports = t.ports) (exe : t.exe = s.exe) (scan : t.scan = s.scan) (pose : t.pose = s.pose)
    (settings : t.settings = s.settings) (group : t.safe.group = s.safe.group) (park : t.safe.park = s.safe.park)
    (estop : t.safe.estop = s.safe.estop) :
    CrankRead r s ((takeReading r t).setArb { s.arb with grant := false, crankEnd := none }) := by
  obtain ⟨-, exeNow, scanNow, -, poseNow, settingsNow, groupNow, -, -, parkNow, estopNow⟩ := takeReading_work r t
  have read : (takeReading r t).pose = (recordReading r s).pose := by
    rw [poseNow]
    unfold recordReading
    rw [pose]
    rfl
  refine ⟨rfl, exeNow.trans exe, scanNow.trans scan, read, settingsNow.trans settings, groupNow.trans group, parkNow.trans park,
    estopNow.trans estop, keepsLists_before like.symm fun p => takeReading_keeps r t p, ?_⟩
  have hidden := (takeReading_like r t).conditions
  intro q off
  have same := hidden q (by rw [show (recordReading r t).ports = s.ports from like.symm]; exact off)
  rw [show (recordReading r t).ports = s.ports from like.symm] at same
  exact same

/-- MANUAL ENDED, as the crank has left the authority (R86). -/
def crankTold (position : Axes Int) (s : State) : State :=
  placeAll (.manualEnded true s.arb.auth s.arb.holder position s.arb.reasons) s

theorem settleAll_cranks (crank : s.arb.crankEnd = some position) (deferred : s.arb.deferred = none)
    (closing : s.exe.closing = none) (rested : atRest s) :
    settleAll s = crankTold position (leaveManual position (unblockStow position (s.setArb { s.arb with crankEnd := none }))) := by
  have undeferred : handoverCheck s = s := by
    unfold handoverCheck
    rw [deferred]
  unfold settleAll
  rw [advance_still closing, undeferred]
  unfold crankCheck
  rw [crank]
  exact if_pos (confirm_iff.mpr rested)

theorem manualReqNegated_ends (on : s.powered = true) (asserted : s.safe.manualReq = true) (manual : s.arb.auth = .manual) :
    exec (.manualReqNegated r) s = .next (endCrank r (setManualReq false s)) := by
  have arm : exec (.manualReqNegated r) s =
      .next (whenPowered (fun s => if s.safe.manualReq then takeManualEnd r (setManualReq false s) else s) s) := rfl
  rw [exec_of_powered arm on, if_pos asserted]
  unfold takeManualEnd
  rw [show (setManualReq false s).arb.auth = .manual from manual]

/-- The steps of the end of a crank, after the reading that every axis rests at (R85). -/
theorem crank_ends (on : s.powered = true) (ends : endsCrank c r position s) :
    ∃ v, CrankRead r s v
      ∧ exec c s = .next (crankTold position (leaveManual position (unblockStow position v))) := by
  obtain ⟨manual, deferred, active, closing, rests, turned | waited⟩ := ends
  · obtain ⟨rfl, asserted, -, rfl⟩ := turned
    obtain ⟨b, b_eq⟩ : ∃ b, b = takeReading r ((setManualReq false s).setArb { s.arb with grant := false }) := ⟨_, rfl⟩
    obtain ⟨arb, exe, -, -, pose, -⟩ := takeReading_work r ((setManualReq false s).setArb { s.arb with grant := false })
    have read : CrankRead r s (b.setArb { s.arb with grant := false, crankEnd := none }) := by
      rw [b_eq]
      exact crankRead_takeReading rfl rfl rfl rfl rfl rfl rfl rfl
    rw [← b_eq] at arb exe pose
    refine ⟨_, read, ?_⟩
    have settled := settleAll_cranks (s := b.setArb { b.arb with crankEnd := some (positionsOf r.counts) }) rfl
      (by rw [State.setArb_arb, arb]; exact deferred) (by rw [State.setArb_exe, exe]; exact closing)
      (fun a => by rw [State.setArb_pose, pose]; exact rests a)
    rw [manualReqNegated_ends on asserted manual]
    unfold endCrank
    dsimp only
    rw [show (setManualReq false s).arb = s.arb from rfl, ← b_eq, settled]
    simp only [State.setArb_arb, arb]
    rfl
  · obtain ⟨rfl, crank, grant⟩ := waited
    obtain ⟨b, b_eq⟩ : ∃ b, b = takeReading r s := ⟨_, rfl⟩
    obtain ⟨arb, exe, -, -, pose, -⟩ := takeReading_work r s
    have read : CrankRead r s (b.setArb { s.arb with grant := false, crankEnd := none }) := by
      rw [b_eq]
      exact crankRead_takeReading rfl rfl rfl rfl rfl rfl rfl rfl
    rw [← b_eq] at arb exe pose
    refine ⟨_, read, ?_⟩
    have settled := settleAll_cranks (s := b) (by rw [arb]; exact crank) (by rw [arb]; exact deferred)
      (by rw [exe]; exact closing) (fun a => by rw [pose]; exact rests a)
    rw [poseReading_idle on active, ← b_eq, settled, arb, ← grant]

/-! ### MANUAL ENDED -/

theorem plain_manualEnded (granted : Bool) (auth : AuthState) (holder : Option Party) (pose : Axes Int) (reasons : Reasons) :
    plain (.manualEnded granted auth holder pose reasons) := fun old => by cases old <;> rfl

theorem crankTold_tells (hidden : CrankHidden s u) :
    tellsAll (.manualEnded true u.arb.auth u.arb.holder position u.arb.reasons) s (crankTold position u) :=
  tellsAll_masked (plain_manualEnded _ _ _ _ _) hidden.masks hidden.hidden (placeAll_tells _ u)

theorem crankTold_frame (position : Axes Int) (s : State) :
    (crankTold position s).arb = s.arb ∧ (crankTold position s).pose = s.pose ∧ (crankTold position s).exe = s.exe
      ∧ (crankTold position s).safe = s.safe ∧ (crankTold position s).scan = s.scan
      ∧ keepsLists [13] s (crankTold position s) :=
  ⟨by simp [crankTold], by simp [crankTold], by simp [crankTold], by simp [crankTold], by simp [crankTold],
    placeAll_keeps _ s (show 13 ∈ [13] by decide)⟩

theorem crankRead_hidden (read : CrankRead r s v) : CrankHidden s v := crankHidden_of_keeps read.lists (by decide)

/-- What every end of a crank leaves (R85, R86). -/
theorem crankTold_left (read : CrankRead r s v) :
    (crankTold position (leaveManual position (unblockStow position v))).pose = (recordReading r s).pose
      ∧ tellsAll
          (.manualEnded true (leaveManual position (unblockStow position v)).arb.auth
            (leaveManual position (unblockStow position v)).arb.holder position
            (leaveManual position (unblockStow position v)).arb.reasons)
          s (crankTold position (leaveManual position (unblockStow position v))) := by
  refine ⟨?_, crankTold_tells ?_⟩
  · rw [(crankTold_frame position _).2.1, ← read.pose]
    simp
  · exact ((crankRead_hidden read).trans (unblockStow_crankHidden _ v)).trans (leaveManual_crankHidden _ _)

/-! ### Where the authority goes -/

theorem unblockStow_parked (park : s.safe.park = true) : unblockStow position s = s := by
  refine if_neg fun ⟨negated, _⟩ => ?_
  rw [park] at negated
  cases negated

/-- STOW BLOCKED leaves the set where the pose read is stowable, PARK being negated (R85). -/
theorem unblockStow_left (park : s.safe.park = false) :
    ReasonsLeft { s.arb.reasons with stowBlocked := s.arb.reasons.stowBlocked && !stowable position s.pose.faulted } s
      (unblockStow position s) := by
  unfold unblockStow
  by_cases can : stowable position s.pose.faulted = true
  · rw [if_pos ⟨park, can⟩, can, Bool.not_true, Bool.and_false]
    exact dropReason_left .stowBlocked s
  · rw [if_neg fun ⟨_, yes⟩ => can yes, eq_false_of_ne_true can, Bool.not_false, Bool.and_true]
    exact reasonsLeft_refl rfl

theorem isEmpty_false_iff (reasons : Reasons) : reasons.isEmpty = false ↔ reasons ≠ Reasons.empty := by
  rw [← Bool.not_eq_true, isEmpty_iff]

/-- With a reason in the set the crank ends in LOCKOUT (R85). -/
theorem leaveManual_locks (some_ : s.arb.reasons ≠ Reasons.empty) : leaveManual position s = enterLockout s :=
  if_pos ((isEmpty_false_iff _).mpr some_)

theorem leaveManual_empty (empty : s.arb.reasons = Reasons.empty) :
    leaveManual position s =
      if s.safe.park = false then
        (if (parkRule position true s).arb.auth = .manual then enterLockout (parkRule position true s)
        else parkRule position true s)
      else passOn .manual s :=
  if_neg fun some_ => (isEmpty_false_iff _).mp some_ empty

theorem leaveManual_passes (empty : s.arb.reasons = Reasons.empty) (park : s.safe.park = true) :
    leaveManual position s = passOn .manual s := by
  rw [leaveManual_empty empty, if_neg]
  rw [park]
  exact fun hit => by cases hit

/-- The park rule at the end of a crank (R85, R96). -/
theorem parkRule_endingCrank (manual : s.arb.auth = .manual) (group : s.safe.group = none) (closing : s.exe.closing = none) :
    parkRule position true s = parkRuleAlarms position false (parkRuleAct position s) := by
  have holds : holdsParkStow s = false := by
    rw [holdsParkStow_eq, decide_eq_false_iff_not]
    unfold closingFailed
    rw [group, closing]
    rintro (hit | hit) <;> cases hit
  have only : ((s.arb.auth == .manual && !true) || holdsParkStow s) = false := by
    rw [holds, Bool.not_true, Bool.and_false]
    rfl
  unfold parkRule
  dsimp only
  rw [only, if_neg (by decide), if_neg (by rw [manual]; decide)]

/-- The reason that the park rule brings at the end of a crank locks out (R85, R96). -/
theorem leaveManual_adds (empty : s.arb.reasons = Reasons.empty) (park : s.safe.park = false) (manual : s.arb.auth = .manual)
    (group : s.safe.group = none) (closing : s.exe.closing = none) (row : parkRuleAct position s = addReason k s) :
    (leaveManual position s).arb = lockedOut (Reasons.empty.put k true) s ∧ (leaveManual position s).exe = s.exe
      ∧ ∀ q, q ∈ s.arb.claims → tells q .claimRefused s (leaveManual position s) := by
  have new : s.arb.reasons.has k = false := by
    rw [empty]
    cases k <;> rfl
  obtain ⟨only, -⟩ := enlistReason_told k s
  obtain ⟨-, -, arb, exe, -⟩ := onlyOutputs_frame only
  obtain ⟨work, lists⟩ := parkRuleAlarms_rest position false (enlistReason k s)
  have ruled := parkRule_endingCrank (position := position) manual group closing
  rw [row, addReason_joins new (Or.inl manual)] at ruled
  obtain ⟨v, v_eq⟩ : ∃ v, v = parkRuleAlarms position false (enlistReason k s) := ⟨_, rfl⟩
  rw [← v_eq] at work lists ruled
  have arbV : v.arb = { s.arb with reasons := s.arb.reasons.put k true } := work.arb.trans arb
  have exeV : v.exe = s.exe := work.exe.trans exe
  have made : leaveManual position s = enterLockout v := by
    rw [leaveManual_empty empty, if_pos park, ruled]
    exact if_pos (by rw [arbV]; exact manual)
  rw [made]
  refine ⟨?_, ?_, fun q claimed => ?_⟩
  · rw [enterLockout_arb, arbV, ← empty]
    unfold lockedOut
    rw [arbV]
  · rw [enterLockout_exe, exeV, ← closing]
  · have before : keepsLists [12] s v := keepsLists_trans (fun p => keepsLists_of_onlyOutputs only p) lists
    exact tells_after (sameNotices_of_keeps before (show 3 ∉ [12] by decide))
      (enterLockout_tells v (by rw [arbV]; exact claimed))

/-- The park stow that the park rule brings at the end of a crank begins (R85, R96, R97). -/
theorem leaveManual_stows (empty : s.arb.reasons = Reasons.empty) (park : s.safe.park = false) (manual : s.arb.auth = .manual)
    (group : s.safe.group = none) (closing : s.exe.closing = none) (needed : stowAxes s.pose.position ≠ [])
    (can : stowable s.pose.position s.pose.faulted = true) (low : 0 ≤ s.pose.position.mast) (supply : s.exe.supply = .available) :
    StowBegun s (leaveManual s.pose.position s) := by
  have row : parkRuleAct s.pose.position s = takeSafety .parkStow (parkStowDrafts s.pose.position) s := by
    unfold parkRuleAct
    rw [if_neg needed, if_pos can]
  obtain ⟨w, exe, -, begins, -, begun⟩ := takeSafety_begins needed can low supply
  rw [← begins, ← row] at begun
  have ruled := parkRule_endingCrank (position := s.pose.position) manual group closing
  obtain ⟨work, lists⟩ := parkRuleAlarms_rest s.pose.position false (parkRuleAct s.pose.position s)
  rw [← ruled] at work lists
  have moving : (parkRule s.pose.position true s).arb.auth ≠ .manual := by
    rw [work.arb, begun.arb]
    show (if s.arb.auth = .manualPending then AuthState.manualPending else .moving) ≠ _
    rw [manual]
    decide
  rw [leaveManual_empty empty, if_pos park, if_neg moving]
  exact stowBegun_around ⟨rfl, rfl, rfl, rfl, rfl, rfl⟩ work (sameNotices_refl 2 s)
    (sameNotices_of_keeps lists (show 2 ∉ [12] by decide)) begun

end Sys2Proof.Machine
end

section
/-! The end of a crank by its outcomes (R82, R85, R86). -/

namespace Sys2Proof.Machine

variable {s t u v w : State} {c : Instr} {r : Reading} {position : Axes Int} {left : Reasons} {k : LockReason} {p q : Port}

/-- The set that the end of a crank leaves, PARK being negated (R85). -/
def unblocked (position : Axes Int) (s : State) : Reasons :=
  { s.arb.reasons with stowBlocked := s.arb.reasons.stowBlocked && !stowable position s.pose.faulted }

theorem lockedOut_read (read : CrankRead r s v) (reasons : Reasons) : lockedOut reasons v = lockedOut reasons s := by
  unfold lockedOut
  rw [read.arb]

/-- The crank ends in LOCKOUT (R85, R86). -/
theorem crankTold_locks (read : CrankRead r s v) (closing : s.exe.closing = none) (gone : ReasonsLeft left v w) :
    (crankTold position (enterLockout w)).arb = lockedOut left s ∧ (crankTold position (enterLockout w)).exe = s.exe
      ∧ (crankTold position (enterLockout w)).safe = v.safe
      ∧ (∀ q, q ∈ s.arb.claims → tells q .claimRefused s (crankTold position (enterLockout w)))
      ∧ (left ≠ v.arb.reasons →
          tellsAll (.condition .lockout left v.pose.latch v.safe.alarmPark v.safe.alarmWind v.settings.defaulted) s
            (crankTold position (enterLockout w))) := by
  obtain ⟨arb, -, exe, safe, -, after⟩ := crankTold_frame position (enterLockout w)
  obtain ⟨arbW, exeW, poseW, safeW, scanW, settingsW, listsW⟩ := reasonsLeft_frame gone
  have entered : keepsLists [3] w (enterLockout w) := enterLockout_keeps w (by decide)
  have before : keepsLists [12] s w := keepsLists_trans read.lists listsW
  refine ⟨?_, ?_, ?_, fun q claimed => ?_, fun changed => ?_⟩
  · rw [arb, enterLockout_arb, arbW]
    unfold lockedOut
    rw [arbW, read.arb]
  · rw [exe, enterLockout_exe, exeW, read.exe, ← closing]
  · rw [safe, ← safeW]
    simp
  · exact tells_same (tells_after (sameNotices_of_keeps before (show 3 ∉ [12] by decide))
      (enterLockout_tells w (by rw [arbW, read.arb]; exact claimed))) (sameNotices_of_keeps after (show 3 ∉ [13] by decide))
  · exact tellsAll_same (tellsAll_same
      (tellsAll_masked (plain_condition _ _ _ _ _ _) (fun p => (read.lists p).2) read.hidden (gone.told changed))
      (sameNotices_of_keeps entered (show 12 ∉ [3] by decide))) (sameNotices_of_keeps after (show 12 ∉ [13] by decide))

/-- The crank ends with PARK asserted (R85, R86). -/
theorem crank_ends_parked (on : s.powered = true) (ends : endsCrank c r position s) (park : s.safe.park = true) :
    (s.arb.reasons = Reasons.empty → s.arb.claims = [] →
        ∃ t, exec c s = .next t ∧ t.arb = { freed s with grant := false, crankEnd := none }
          ∧ t.pose = (recordReading r s).pose ∧ t.exe = s.exe
          ∧ tellsAll (.manualEnded true .free none position Reasons.empty) s t)
      ∧ (∀ q others, s.arb.reasons = Reasons.empty → s.arb.claims = q :: others →
          ∃ t, exec c s = .next t ∧ t.arb = { heldBy q s with grant := false, crankEnd := none }
            ∧ t.pose = (recordReading r s).pose ∧ t.exe = s.exe
            ∧ tells q (.authority .granted (some .manual) 0 0) s t
            ∧ tellsAll (.manualEnded true .held (some (.port q)) position Reasons.empty) s t)
      ∧ (s.arb.reasons ≠ Reasons.empty →
          ∃ t, exec c s = .next t ∧ t.arb = lockedOut s.arb.reasons s ∧ t.pose = (recordReading r s).pose ∧ t.exe = s.exe
            ∧ (∀ q, q ∈ s.arb.claims → tells q .claimRefused s t)
            ∧ tellsAll (.manualEnded true .lockout none position s.arb.reasons) s t) := by
  obtain ⟨v, read, made⟩ := crank_ends on ends
  obtain ⟨-, -, -, closing, -⟩ := ends
  obtain ⟨pose, told⟩ := crankTold_left (position := position) read
  have reasons : v.arb.reasons = s.arb.reasons := by rw [read.arb]
  rw [unblockStow_parked (by rw [read.park]; exact park)] at made pose told
  refine ⟨fun empty claims => ?_, fun q others empty claims => ?_, fun some_ => ?_⟩
  all_goals refine ⟨_, made, ?_⟩
  · have passed : leaveManual position v = v.setArb (freed v) := by
      rw [leaveManual_passes (by rw [reasons]; exact empty) (by rw [read.park]; exact park), ← toFree_eq]
      unfold passOn
      rw [show v.arb.claims = [] by rw [read.arb]; exact claims]
    rw [passed] at pose told ⊢
    obtain ⟨arb, -, exe, -⟩ := crankTold_frame position (v.setArb (freed v))
    have arbNow : (v.setArb (freed v)).arb = { freed s with grant := false, crankEnd := none } := by
      unfold freed
      rw [read.arb]
      rfl
    rw [arbNow] at told
    rw [← empty]
    exact ⟨arb.trans arbNow, pose, exe.trans read.exe, told⟩
  · have passed : leaveManual position v = placeAlways q (.authority .granted (some .manual) 0 0) (v.setArb (heldBy q v)) := by
      rw [leaveManual_passes (by rw [reasons]; exact empty) (by rw [read.park]; exact park)]
      unfold passOn
      rw [show v.arb.claims = q :: others by rw [read.arb]; exact claims]
      dsimp only
      rfl
    rw [passed] at pose told ⊢
    obtain ⟨arb, -, exe, -, -, after⟩ :=
      crankTold_frame position (placeAlways q (.authority .granted (some .manual) 0 0) (v.setArb (heldBy q v)))
    have arbNow : (placeAlways q (.authority .granted (some .manual) 0 0) (v.setArb (heldBy q v))).arb =
        { heldBy q s with grant := false, crankEnd := none } := by
      show heldBy q v = _
      unfold heldBy
      rw [read.arb, read.settings]
    rw [arbNow] at told
    have granted := placeAlways_tells q (.authority .granted (some .manual) 0 0) (v.setArb (heldBy q v))
    have before : sameNotices 2 s (v.setArb (heldBy q v)) :=
      sameNotices_then _ _ rfl (sameNotices_of_keeps read.lists (show 2 ∉ [12] by decide))
    rw [← empty]
    exact ⟨arb.trans arbNow, pose, exe.trans read.exe,
      tells_same (tells_after before granted) (sameNotices_of_keeps after (show 2 ∉ [13] by decide)), told⟩
  · have same : ReasonsLeft s.arb.reasons v v := reasonsLeft_refl reasons
    obtain ⟨arb, exe, -, refused, -⟩ := crankTold_locks (position := position) read closing same
    rw [leaveManual_locks (by rw [reasons]; exact some_)] at pose told ⊢
    rw [enterLockout_arb, reasons] at told
    exact ⟨arb, pose, exe, refused, told⟩

/-- The crank waits for the axes to come to rest (R85). -/
theorem crank_waits (on : s.powered = true) (asserted : s.safe.manualReq = true) (manual : s.arb.auth = .manual)
    (closing : s.exe.closing = none) (waits : nothingWaits s)
    (moves : ∃ a : Axis, r.atRest.get a = false ∧ s.pose.faulted.get a = false) :
    ∃ t, exec (.manualReqNegated r) s = .next t
      ∧ t.arb = { s.arb with grant := false, crankEnd := some (positionsOf r.counts) }
      ∧ t.pose = (recordReading r s).pose ∧ t.exe = s.exe := by
  obtain ⟨deferred, -⟩ := waits
  obtain ⟨a, moving, sound⟩ := moves
  obtain ⟨b, b_eq⟩ : ∃ b, b = takeReading r ((setManualReq false s).setArb { s.arb with grant := false }) := ⟨_, rfl⟩
  obtain ⟨arb, exe, -, -, pose, -⟩ := takeReading_work r ((setManualReq false s).setArb { s.arb with grant := false })
  rw [← b_eq] at arb exe pose
  have poseNow : b.pose = (recordReading r s).pose := pose
  obtain ⟨w, w_eq⟩ : ∃ w, w = b.setArb { s.arb with grant := false, crankEnd := some (positionsOf r.counts) } := ⟨_, rfl⟩
  have made : endCrank r (setManualReq false s) = settleAll w := by
    unfold endCrank
    dsimp only
    rw [show (setManualReq false s).arb = s.arb from rfl, ← b_eq, arb, w_eq]
    rfl
  have unrested : confirm w = false := by
    rw [confirm_false_iff]
    intro rested
    have stands := rested a
    rw [w_eq, State.setArb_pose, poseNow] at stands
    rcases stands with rests | faulted
    · exact absurd (moving.symm.trans rests) (by decide)
    · exact absurd (sound.symm.trans faulted) (by decide)
  have still : settleAll w = w := by
    have undeferred : handoverCheck w = w := by
      unfold handoverCheck
      rw [show w.arb.deferred = none by rw [w_eq]; exact deferred]
    unfold settleAll
    rw [advance_still (by rw [w_eq, State.setArb_exe, exe]; exact closing), undeferred]
    unfold crankCheck
    rw [show w.arb.crankEnd = some (positionsOf r.counts) by rw [w_eq]; rfl]
    exact if_neg (by rw [unrested]; decide)
  refine ⟨w, ?_, ?_, ?_, ?_⟩
  · rw [manualReqNegated_ends on asserted manual, made, still]
  · rw [w_eq]
    rfl
  · rw [w_eq]
    exact poseNow
  · rw [w_eq]
    exact exe

theorem returnState_of {h : Party} {back : AuthState} (holder : s.arb.holder = some h)
    (returns : (back = .yielding ∧ ∃ q, h = .port q
          ∧ (s.arb.releaseMark = true ∨ ∃ c, c ∈ s.arb.claims ∧ outranks c (.port q) = true))
        ∨ (back = .moving ∧ ∀ q, h = .port q →
            s.arb.releaseMark = false ∧ ∀ c, c ∈ s.arb.claims → outranks c (.port q) = false)) :
    returnState s = back := by
  unfold returnState
  rw [holder]
  rcases returns with ⟨rfl, q, rfl, due⟩ | ⟨rfl, spared⟩
  · have yields : (s.arb.releaseMark || s.arb.claims.any (fun c => outranks c (.port q))) = true := by
      rw [Bool.or_eq_true, List.any_eq_true]
      exact due
    exact if_pos yields
  · cases h with
    | safety => rfl
    | port q =>
      obtain ⟨unmarked, below⟩ := spared q rfl
      have goesOn_ : (s.arb.releaseMark || s.arb.claims.any (fun c => outranks c (.port q))) = false := by
        rw [unmarked, Bool.false_or, List.any_eq_false]
        exact fun c listed => by rw [below c listed]; decide
      exact if_neg (by rw [goesOn_]; decide)

/-- The request is withdrawn in MANUAL PENDING (R82, R151). -/
theorem withdrawManual_told {back : AuthState} (returns : returnState s = back) :
    onlyOutputs (fun _ => [13])
        ((s.setArb { s.arb with auth := back }).setExe
          { s.exe with
            active :=
              s.exe.active.map
                (fun x =>
                  { x with
                    crankDue := false, yieldDue := back == .yielding || (x.yieldDue && Config.yieldMarkOutlives) }) })
        (withdrawManual s)
      ∧ tellsAll (.manualEnded false back s.arb.holder s.pose.position s.arb.reasons) s (withdrawManual s) := by
  unfold withdrawManual
  rw [returns]
  dsimp only
  exact ⟨placeAll_onlyOutputs (told := fun _ => [13]) _ (fun _ => List.mem_singleton.mpr rfl) _,
    tellsAll_of_ports (s := updateActive _ (s.setArb { s.arb with auth := back })) rfl rfl (placeAll_tells _ _)⟩

end Sys2Proof.Machine
end

section
/-! The end of a crank with PARK negated (R85, R96, R97). -/

namespace Sys2Proof.Machine

variable {s t u v w : State} {c : Instr} {r : Reading} {position : Axes Int} {left : Reasons} {k : LockReason} {p q : Port}

/-- The reason that the park rule brings as the crank ends (R85, R96). -/
theorem crankTold_adds (read : CrankRead r s v) (gone : ReasonsLeft Reasons.empty v w) (park : s.safe.park = false)
    (manual : s.arb.auth = .manual) (group : s.safe.group = none) (closing : s.exe.closing = none)
    (row : parkRuleAct position w = addReason k w) :
    (crankTold position (leaveManual position w)).arb = lockedOut (Reasons.empty.put k true) s
      ∧ (crankTold position (leaveManual position w)).exe = s.exe
      ∧ ∀ q, q ∈ s.arb.claims → tells q .claimRefused s (crankTold position (leaveManual position w)) := by
  obtain ⟨arbW, exeW, -, safeW, -, -, listsW⟩ := reasonsLeft_frame gone
  obtain ⟨arb, -, exe, -, -, after⟩ := crankTold_frame position (leaveManual position w)
  have before : keepsLists [12] s w := keepsLists_trans read.lists listsW
  obtain ⟨locks, work, refused⟩ := leaveManual_adds (position := position) (by rw [arbW]) (by rw [safeW, read.park]; exact park)
    (by rw [arbW, read.arb]; exact manual) (by rw [safeW, read.group]; exact group) (by rw [exeW, read.exe]; exact closing) row
  refine ⟨?_, ?_, fun q claimed => ?_⟩
  · rw [arb, locks]
    unfold lockedOut
    rw [arbW, read.arb]
  · rw [exe, work, exeW, read.exe]
  · exact tells_same (tells_after (sameNotices_of_keeps before (show 3 ∉ [12] by decide))
      (refused q (by rw [arbW, read.arb]; exact claimed))) (sameNotices_of_keeps after (show 3 ∉ [13] by decide))

/-- The park stow that the park rule brings as the crank ends (R85, R96, R97). -/
theorem crankTold_stows (read : CrankRead r s v) (gone : ReasonsLeft Reasons.empty v w) (park : s.safe.park = false)
    (manual : s.arb.auth = .manual) (group : s.safe.group = none) (closing : s.exe.closing = none)
    (taken : position = positionsOf r.counts) (needed : stowAxes position ≠ [])
    (can : stowable position s.pose.faulted = true) (supply : s.exe.supply = .available) :
    StowBegun ((recordReading r s).setArb { s.arb with reasons := Reasons.empty, grant := false, crankEnd := none })
      (crankTold position (leaveManual position w)) := by
  obtain ⟨arbW, exeW, poseW, safeW, scanW, -, listsW⟩ := reasonsLeft_frame gone
  obtain ⟨arb, pose, exe, safe, scan, after⟩ := crankTold_frame position (leaveManual position w)
  have poseNow : w.pose = (recordReading r s).pose := poseW.trans read.pose
  have here : w.pose.position = position := by
    rw [poseNow, taken]
    rfl
  have begun := leaveManual_stows (s := w) (by rw [arbW]) (by rw [safeW, read.park]; exact park)
    (by rw [arbW, read.arb]; exact manual) (by rw [safeW, read.group]; exact group) (by rw [exeW, read.exe]; exact closing)
    (by rw [here]; exact needed) (by rw [here, poseNow]; exact can)
    (by rw [poseNow]; exact mast_nonneg (s := recordReading r s) rfl) (by rw [exeW, read.exe]; exact supply)
  rw [here] at begun
  obtain ⟨u, u_eq⟩ : ∃ u, u =
      (recordReading r s).setArb { s.arb with reasons := Reasons.empty, grant := false, crankEnd := none } := ⟨_, rfl⟩
  have work : SameWork u w := by
    rw [u_eq]
    refine ⟨?_, exeW.trans read.exe, scanW.trans read.scan, poseNow, by rw [safeW]; exact read.estop, by rw [safeW]; exact read.group⟩
    rw [arbW, read.arb]
    rfl
  have before : keepsLists [12] u w := by
    rw [u_eq]
    exact keepsLists_before rfl (keepsLists_trans read.lists listsW)
  rw [← u_eq]
  exact stowBegun_around work ⟨arb, exe, scan, pose, by rw [safe], by rw [safe]⟩
    (sameNotices_of_keeps before (show 2 ∉ [12] by decide)) (sameNotices_of_keeps after (show 2 ∉ [13] by decide)) begun

/-- Settles O29: the steps of R85 one after another, and the request withdrawn by what the state returns to. -/
theorem crankEnds : Obligations.CrankEnds := by
  refine ⟨fun c r position s on ends park => crank_ends_parked on ends park,
    fun c r position left s on ends park _ group _ left_eq => ?_,
    fun r s on asserted manual active closing waits moves => crank_waits on asserted manual closing waits moves,
    fun r h back s on asserted pending holder returns => ?_⟩
  · obtain ⟨v, read, made⟩ := crank_ends on ends
    obtain ⟨manual, -, -, closing, -⟩ := ends
    obtain ⟨pose, told⟩ := crankTold_left (position := position) read
    obtain ⟨w, w_eq⟩ : ∃ w, w = unblockStow position v := ⟨_, rfl⟩
    have faulted : v.pose.faulted = s.pose.faulted := by
      rw [read.pose]
      rfl
    have reasons : v.arb.reasons = s.arb.reasons := by rw [read.arb]
    have gone := unblockStow_left (position := position) (by rw [read.park]; exact park : v.safe.park = false)
    rw [reasons, faulted, ← left_eq] at gone
    rw [← w_eq] at made pose told gone
    obtain ⟨arbW, -, poseW, -⟩ := reasonsLeft_frame gone
    have faultedW : w.pose.faulted = s.pose.faulted := by rw [poseW, faulted]
    obtain ⟨arb, -⟩ := crankTold_frame position (leaveManual position w)
    refine ⟨_, made, pose, by rw [arb]; exact told, fun some_ => ?_, fun empty stowed => ?_, fun empty needed cannot => ?_,
      fun empty needed can supply taken => ?_⟩
    · obtain ⟨locks, exe, safe, refused, changed⟩ := crankTold_locks (position := position) read closing gone
      rw [leaveManual_locks (by rw [arbW]; exact some_)]
      refine ⟨locks, exe, by rw [safe, read.group]; exact group, refused, fun differs => ?_⟩
      have placed := changed (by rw [reasons]; exact differs)
      rw [safe, ← read.settings]
      rw [read.pose] at placed
      exact placed
    all_goals rw [empty] at gone
    · exact crankTold_adds (k := .interlock) read gone park manual group closing (if_pos stowed)
    · refine crankTold_adds (k := .stowBlocked) read gone park manual group closing ?_
      unfold parkRuleAct
      rw [if_neg needed, if_neg (by rw [faultedW, cannot]; decide)]
    · exact ⟨_, rfl, crankTold_stows read gone park manual group closing taken needed can supply⟩
  · have arm : exec (.manualReqNegated r) s =
        .next (whenPowered (fun s => if s.safe.manualReq then takeManualEnd r (setManualReq false s) else s) s) := rfl
    have back_eq : returnState (setManualReq false s) = back := returnState_of holder returns
    have withdrawn : takeManualEnd r (setManualReq false s) = withdrawManual (setManualReq false s) := by
      unfold takeManualEnd
      rw [show (setManualReq false s).arb.auth = .manualPending from pending]
    obtain ⟨only, told⟩ := withdrawManual_told back_eq
    rw [← withdrawn] at only told
    have holderNow : (setManualReq false s).arb.holder = some h := holder
    rw [holderNow] at told
    refine ⟨_, ?_, only, tellsAll_of_ports rfl rfl told⟩
    rw [exec_of_powered arm on, if_pos asserted]

end Sys2Proof.Machine
end

section
/-! The wind is sampled, and a change of class is told (R89, R90, R92, R100). -/

namespace Sys2Proof.Machine

variable {s t u v w : State} {next : WindState} {speed : Nat}

/-! ### The speed -/

/-- The speed is 12 N / P rounded with a half upward, up to 200 (R89). -/
theorem windSpeed_bounds (n k : Nat) (some_ : 0 < k) :
    windSpeed n k ≤ 200
      ∧ (windSpeed n k < 200 → 2 * k * windSpeed n k ≤ 24 * n + k ∧ 24 * n + k < 2 * k * (windSpeed n k + 1))
      ∧ (windSpeed n k = 200 → 400 * k ≤ 24 * n + k) := by
  obtain ⟨q, q_eq⟩ : ∃ q, q = (24 * n + k) / (2 * k) := ⟨_, rfl⟩
  have below : 2 * k * q ≤ 24 * n + k := by
    rw [q_eq]
    exact Nat.mul_div_le _ _
  have above : 24 * n + k < 2 * k * (q + 1) := by
    rw [q_eq]
    exact Nat.lt_mul_div_succ _ (by omega)
  unfold windSpeed
  rw [← q_eq]
  refine ⟨Nat.min_le_left _ _, fun low => ?_, fun full => ?_⟩
  · have exact_ : min 200 q = q := by omega
    rw [exact_]
    exact ⟨below, above⟩
  · have high : 200 ≤ q := by omega
    calc 400 * k = 2 * k * 200 := by omega
      _ ≤ 2 * k * q := Nat.mul_le_mul_left _ high
      _ ≤ 24 * n + k := below

/-! ### The sample -/

/-- The interval closed, with the class and the counts that follow the speed (R89, R90). -/
def sampled (speed : Nat) (next : WindState) (s : State) : State :=
  s.setSafe
    { s.safe with
      pulses := { current := 0, last := s.safe.pulses.current, beforeLast := s.safe.pulses.last }
      speed := speed, windClass := next.windClass, calm := next.calm, ease := next.ease }

/-- The speed of the interval that the sample closes (R89). -/
def sampleSpeed (s : State) : Nat :=
  windSpeed (s.safe.pulses.current + s.safe.pulses.last + s.safe.pulses.beforeLast) s.settings.inForce.pulses.toNat

theorem windSample_eq (on : s.powered = true) (next_eq : next = classRule ⟨s.safe.windClass, s.safe.calm, s.safe.ease⟩ (sampleSpeed s)) :
    exec .windSample s =
      .next (if next.windClass = s.safe.windClass then sampled (sampleSpeed s) next s
        else windChanged s.safe.windClass (sampled (sampleSpeed s) next s)) := by
  subst next_eq
  exact exec_of_powered (f := sampleWind) rfl on

/-- WIND, as the class changes (R92). -/
def windTold (previous : WindClass) (s : State) : State :=
  placeAll (.wind s.safe.windClass previous s.safe.speed (windCeiling s) s.pose.position.mast) s

theorem windChanged_eq (previous : WindClass) (s : State) :
    windChanged previous s =
      if s.safe.windClass = .limit then
        if 3000 < s.pose.position.mast then offerLowering (windTold previous s) else windTold previous s
      else if previous = .limit then clearWindAlarm (windTold previous s)
      else windTold previous s := rfl

theorem windTold_told (previous : WindClass) (s : State) :
    onlyOutputs (fun _ => [11]) s (windTold previous s)
      ∧ tellsAll (.wind s.safe.windClass previous s.safe.speed (windCeiling s) s.pose.position.mast) s (windTold previous s) :=
  ⟨placeAll_onlyOutputs (told := fun _ => [11]) _ (fun _ => List.mem_singleton.mpr rfl) _, placeAll_tells _ s⟩

/-- A change of class that brings no lowering is told, and the end of LIMIT clears the WIND cause (R92, R100). -/
theorem windChanged_told {previous : WindClass} (changed : s.safe.windClass ≠ previous)
    (free : s.safe.windClass ≠ .limit ∨ s.pose.position.mast ≤ 3000) :
    tellsAll (.wind s.safe.windClass previous s.safe.speed (windCeiling s) s.pose.position.mast) s (windChanged previous s)
      ∧ (previous = .limit → s.safe.alarm ≠ s.safe.alarmPark →
          tellsAll (.condition .alarm s.arb.reasons s.pose.latch s.safe.alarmPark false s.settings.defaulted) s
            (windChanged previous s))
      ∧ onlyOutputs (fun _ => if previous = .limit ∧ s.safe.alarm ≠ s.safe.alarmPark then [11, 12] else [11])
          (if previous = .limit then s.setSafe { s.safe with alarmWind := false, alarm := s.safe.alarmPark } else s)
          (windChanged previous s) := by
  obtain ⟨only, told⟩ := windTold_told previous s
  obtain ⟨-, -, arb, -, pose, safe, -, -, -, -, settings⟩ := onlyOutputs_frame only
  obtain ⟨v, v_eq⟩ : ∃ v, v = windTold previous s := ⟨_, rfl⟩
  have made : windChanged previous s = if previous = .limit then clearWindAlarm v else v := by
    rw [windChanged_eq, ← v_eq]
    by_cases limit : s.safe.windClass = .limit
    · have low : ¬3000 < s.pose.position.mast := by
        rcases free with other | low
        · exact absurd limit other
        · omega
      have other : previous ≠ .limit := fun same => changed (limit.trans same.symm)
      rw [if_pos limit, if_neg low, if_neg other]
    · rw [if_neg limit]
  rw [made]
  rw [← v_eq] at only told arb pose safe settings
  by_cases ends : previous = .limit
  · rw [if_pos ends, if_pos ends]
    obtain ⟨alarm, sounds⟩ := setAlarmCauses_leaves (s := v) (t := v) s.safe.alarmPark false rfl rfl rfl rfl rfl
    have cleared : clearWindAlarm v = setAlarmCauses s.safe.alarmPark false v := by
      unfold clearWindAlarm
      rw [safe]
    have causes : withAlarm s.safe.alarmPark false v = v.setSafe { s.safe with alarmWind := false, alarm := s.safe.alarmPark } := by
      unfold withAlarm
      rw [safe, Bool.or_false]
    rw [causes] at alarm sounds
    have stands : v.safe.alarm = (v.setSafe { s.safe with alarmWind := false, alarm := s.safe.alarmPark }).safe.alarm ↔
        s.safe.alarm = s.safe.alarmPark := by rw [safe]; rfl
    have quiet : keepsLists [12] v (clearWindAlarm v) := setAlarmCauses_keeps _ _ v (by decide)
    refine ⟨tellsAll_same told (sameNotices_of_keeps quiet (show 11 ∉ [12] by decide)), fun _ changes => ?_, ?_⟩
    · have sounded := sounds (mt stands.mp changes)
      rw [arb, pose, settings, ← cleared] at sounded
      exact tellsAll_after (sameNotices_of_keeps (fun p => keepsLists_of_onlyOutputs only p) (show 12 ∉ [11] by decide)) sounded
    · rw [cleared]
      refine onlyOutputs_trans (onlyOutputs_mono (fun _ => ?_) (onlyOutputs_setSafe only _))
        (onlyOutputs_mono (fun _ => ?_) alarm)
      · split <;> simp
      · by_cases same : s.safe.alarm = s.safe.alarmPark
        · rw [if_pos (stands.mpr same)]
          exact List.nil_subset _
        · rw [if_neg (mt stands.mp same), if_pos ⟨ends, same⟩]
          simp
  · rw [if_neg ends, if_neg ends]
    refine ⟨told, fun hit => absurd hit ends, ?_⟩
    rw [if_neg fun ⟨hit, _⟩ => ends hit]
    exact only

end Sys2Proof.Machine
end

section
/-! The boundary of a safety group, seen from before SAFETY took authority: AUTHORITY LOST stands on the old holder's port, and
the ports that claim are as they were (R38, R40, R41). -/

namespace Sys2Proof.Machine

variable {s t u v w b : State} {p q : Port} {k : Nat} {left : Reasons} {ending : Ending} {body : NoticeBody} {e : Entry}
  {group : SafetyGroup} {ds : List Draft}

/-! ### A port whose notices of a kind are left -/

/-- The notices of a kind on a port are left as they stand. -/
def spares (k : Nat) (q : Port) (s t : State) : Prop :=
  noticeOf k (t.ports.get q).output = noticeOf k (s.ports.get q).output

theorem spares_of_same (same : sameNotices k s t) (q : Port) : spares k q s t := (same q).1

theorem spares_of_ports (ports : t.ports.get q = s.ports.get q) : spares k q s t := by
  unfold spares
  rw [ports]

theorem spares_trans (first : spares k q s t) (second : spares k q t u) : spares k q s u := Eq.trans second first

theorem tells_after_spared (before : spares body.kind q s t) (told : tells q body t u) : tells q body s u := by
  unfold tells noticed at *
  rw [before] at told
  exact told

theorem tells_spared (told : tells q body s t) (later : spares body.kind q t u) : tells q body s u := Eq.trans later told

/-- The crank granted over a party that is no port loses nobody authority (R80, R82). -/
theorem grantCrank_unowned (unowned : ∀ p : Port, s.arb.holder ≠ some (.port p)) (lh ld bh bd : Nat) :
    keepsLists [13] s (grantCrank lh ld bh bd s) := by
  have silent : placeAuthority s.arb.holder .lost (some .manual) lh ld s = s := by
    cases holder : s.arb.holder with
    | none => rfl
    | some party =>
      cases party with
      | safety => rfl
      | port p => exact absurd holder (unowned p)
  have same : (if s.arb.releaseMark then s else placeAuthority s.arb.holder .lost (some .manual) lh ld s) = s := by
    rw [silent]
    exact ite_self s
  unfold grantCrank
  dsimp only
  rw [same]
  exact keepsLists_before rfl (placeAll_keeps _ _ (show 13 ∈ [13] by decide))

theorem giveTo_spares (differs : p ≠ q) (why : AuthReason) (s : State) : spares k q s (giveTo p why s) := by
  rw [giveTo_eq]
  exact spares_of_ports (placeAlways_other p q _ _ differs.symm)

theorem passOn_spares (spared : q ∉ s.arb.claims) (why : AuthReason) : spares k q s (passOn why s) := by
  unfold passOn
  split
  · next p others claims =>
    refine giveTo_spares (fun same => spared ?_) why s
    rw [claims, same]
    exact List.mem_cons_self
  · exact spares_of_ports rfl

/-- What follows the end of a safety group gives authority to a port that claims it, and tells no other (R41, R82). -/
theorem afterGroup_spares (holder : s.arb.holder = some .safety) (spared : q ∉ s.arb.claims) : spares 2 q s (afterGroup s) := by
  have locks : spares 2 q s (enterLockout s) := spares_of_same (enterLockout_same 2 (by decide) s) q
  have cranks (t : State) (unowned : ∀ p : Port, t.arb.holder ≠ some (.port p)) : spares 2 q t (grantCrank 0 0 0 0 t) :=
    spares_of_same (sameNotices_of_keeps (grantCrank_unowned unowned 0 0 0 0) (show 2 ∉ [13] by decide)) q
  have gives : spares 2 q s (handOn .safetyEnd s) :=
    ite_keeps (P := spares 2 q s) (spares_of_ports rfl) (ite_keeps (P := spares 2 q s) (passOn_spares spared _) locks)
  unfold afterGroup
  split
  · refine ite_keeps (P := spares 2 q s) (cranks s fun p => by rw [holder]; exact fun hit => by cases hit)
      (spares_trans locks (cranks _ fun p => ?_))
    rw [enterLockout_arb]
    exact fun hit => by cases hit
  · exact ite_keeps (P := spares 2 q s) gives locks
  · exact spares_of_ports rfl

theorem takeBoundary_spares (holder : s.arb.holder = some .safety) (auth : s.arb.auth = .moving ∨ s.arb.auth = .manualPending)
    (spared : q ∉ s.arb.claims) : spares 2 q s (takeBoundary ending s) := by
  obtain ⟨arb, -, -, lists, -⟩ := groupEnded_ended (ending := ending) holder auth
  rw [takeBoundary_of_safety holder auth]
  exact spares_trans (spares_of_same (sameNotices_of_keeps lists (show 2 ∉ [12] by decide)) q)
    (afterGroup_spares (by rw [arb]; exact holder) (by rw [arb]; exact spared))

/-- The taking of authority tells the old holder alone (R38, R40). -/
theorem takenBy_spares (other : s.arb.holder ≠ some (.port q)) (ungrouped : s.safe.group = none) :
    spares 2 q s (takenBy group ds s) := by
  obtain ⟨c, c_eq⟩ : ∃ c, c = haltByOrder .safety s := ⟨_, rfl⟩
  obtain ⟨d, d_eq⟩ : ∃ d, d = placeAuthority s.arb.holder .lost (some .safety) (activeTag s) (waitingCount s) c := ⟨_, rfl⟩
  have halted : spares 2 q s c := by
    rw [c_eq]
    exact spares_of_same (sameNotices_of_keeps (haltByOrder_keeps (kinds := [7]) .safety s (by decide)) (by decide)) q
  have placed : d.ports.get q = c.ports.get q := by
    rw [d_eq]
    cases holder : s.arb.holder with
    | none => rfl
    | some party =>
      cases party with
      | safety => rfl
      | port p => exact placeAlways_other p q _ c fun same => other (by rw [holder, same])
  have safe : d.safe = s.safe := by rw [d_eq, c_eq]; simp
  obtain ⟨-, -, kept, -⟩ := groupCut_cut d
  obtain ⟨-, -, ports⟩ := kept (by rw [safe, ungrouped]; exact fun hit => by cases hit)
  have made : (takenBy group ds s).ports = d.ports := by
    show (haltedFor .safety .safety s).ports = _
    unfold haltedFor
    rw [← c_eq, ← d_eq, ports]
  exact spares_trans halted (spares_of_ports (by rw [made, placed]))

/-! ### A boundary seen from before the taking -/

/-- From one state to the other nothing has changed that the boundary of a safety group looks at, but for the notices AUTHORITY on
the ports that claim nothing. -/
structure Beside (v b : State) : Prop where
  arb : b.arb = v.arb
  outside : Outside v b
  claims : ∀ q, q ∈ v.arb.claims → spares 2 q v b
  refused : sameNotices 3 v b
  crank : sameNotices 13 v b
  conditions : masked 12 v b

theorem givenBack_beside (h : Beside v b) (given : GivenBack b t) : GivenBack v t := by
  obtain ⟨arb, outside, spared, -, -, -⟩ := h
  obtain ⟨given, waits, freed⟩ := given
  rw [arb] at given waits freed
  refine ⟨fun q others claims rested => ?_, fun claims moves => ?_, fun claims => ?_⟩
  · obtain ⟨held, told⟩ := given q others claims ((atRest_of_pose outside.pose).mpr rested)
    refine ⟨held.trans (heldBy_of_arb arb outside.settings q), tells_after_spared (spared q ?_) told⟩
    rw [claims]
    exact List.mem_cons_self
  · exact waits claims (fun rested => moves ((atRest_of_pose outside.pose).mp rested))
  · exact (freed claims).trans (freed_of_arb arb)

theorem safetyBoundary_beside (h : Beside v b) (taken : SafetyBoundary left b t) : SafetyBoundary left v t := by
  obtain ⟨reasons, group, told, locks, back, crank, locksCrank, refused⟩ := taken
  have same := h.crank
  have masks (p : Port) : (b.ports.get p).mask = (v.ports.get p).mask := (h.refused p).2
  rw [h.arb] at told locks back crank locksCrank refused
  refine ⟨reasons, group, fun changed => ?_, fun auth some_ => ?_, fun auth empty => ?_, fun auth empty => ?_,
    fun auth some_ => ?_, fun some_ auth q listed => ?_⟩
  · rw [← h.outside.pose, ← h.outside.settings]
    exact tellsAll_masked (plain_condition _ _ _ _ _ _) masks h.conditions (told changed)
  · exact (locks auth some_).trans (lockedOut_of_arb h.arb left)
  · exact givenBack_beside h (back auth empty)
  · obtain ⟨arb, begun⟩ := crank auth empty
    exact ⟨arb.trans (crankGranted_of_arb h.arb), tellsAll_after same begun⟩
  · obtain ⟨arb, begun⟩ := locksCrank auth some_
    refine ⟨?_, tellsAll_after same begun⟩
    rw [arb, lockedOut_of_arb h.arb]
  · exact tells_after h.refused (refused some_ auth q listed)

end Sys2Proof.Machine
end

section
/-! The wind lowering that SAFETY takes authority with, by its outcomes (R38, R54, R55, R73, R82, R93, R94). -/

namespace Sys2Proof.Machine

variable {s t u v w b g : State} {p q : Port} {k : Nat} {left : Reasons} {ending : Ending} {body : NoticeBody} {e : Entry}

/-! ### The entry -/

/-- The one entry of a wind lowering, its target resolved (R93). -/
def loweringEntry (s : State) : Entry :=
  { tag := s.exe.nextTag, group := none, motion := .moveTo .mast 3000, rate := .fast, origin := .safety, purpose := .lower,
    slot := none, target := some 3000 }

/-- SAFETY has taken authority with a wind lowering, whose entry is queued; nothing is told (R38, R40, R93). -/
def loweringState (s : State) : State :=
  ((s.setSafe { s.safe with group := some .windLowering }).setArb (takenArb s)).setExe
    { s.exe with
      queue := [loweringEntry s], active := none, closing := none, suspension := none, nextTag := tagAfter s.exe.nextTag
      drives :=
        { mast := haltedDrive .mast s, pan := haltedDrive .pan s, tilt := haltedDrive .tilt s, pol := haltedDrive .pol s } }

theorem lowering_queue (taken : Taken .windLowering windLoweringDrafts s w) :
    w.exe.queue = [{ loweringEntry s with target := none }] := by
  rw [taken.exe]
  rfl

theorem loweringState_exe (taken : Taken .windLowering windLoweringDrafts s w) :
    (loweringState s).exe = { w.exe with queue := [loweringEntry s] } := by
  rw [taken.exe]
  rfl

/-- Down to 3,000 mm the mast may move in any wind and over any roof (R15, R16, R54). -/
theorem lowering_passes (taken : Taken .windLowering windLoweringDrafts s w) (high : 3000 < s.pose.position.mast)
    (sound : s.pose.faulted.mast = false) : passes { loweringEntry s with target := none } .mast 3000 w := by
  have verdict : mastVerdict s 3000 = none := by
    have lowers : mastClassOf s.pose.position.mast 3000 = .lowering := by
      unfold mastClassOf
      rw [if_neg (by omega), if_pos high]
    unfold mastVerdict
    rw [lowers]
    exact if_neg fun ⟨below, _⟩ => absurd below (by decide)
  exact passes_of_outside taken.outside ⟨Or.inl rfl, sound, verdict, Or.inr rfl⟩

theorem mast_far (far : 3010 < s.pose.position.mast) : within .mast (s.pose.position.get .mast) 3000 = false := by
  show decide ((s.pose.position.mast - 3000).natAbs ≤ 10) = false
  rw [decide_eq_false_iff_not]
  omega

theorem mast_near (high : 3000 < s.pose.position.mast) (near : s.pose.position.mast ≤ 3010) :
    within .mast (s.pose.position.get .mast) 3000 = true := by
  show decide ((s.pose.position.mast - 3000).natAbs ≤ 10) = true
  rw [decide_eq_true_iff]
  omega

theorem activeOn_of_pose {a : Axis} {target : Int} {execution : Execution} {phases : Axes AxisPhase} (pose : t.pose = s.pose) :
    activeOn a target execution phases t = activeOn a target execution phases s := by
  unfold activeOn
  rw [pose]

/-! ### What follows the taking -/

/-- What the activation of the entry leaves, however it goes. -/
structure Followed (w t : State) : Prop where
  outside : Outside w t
  cache : t.cache = w.cache
  scan : w.scan.scan = none ∨ w.scan.result = none → t.scan = w.scan
  lists : keepsLists [2, 3, 7, 12, 13, 14] w t

theorem followed_setExe (w : State) (x : Executor) : Followed w (w.setExe x) :=
  ⟨⟨rfl, rfl, rfl, rfl, rfl, rfl, rfl⟩, rfl, fun _ => rfl, keepsLists_of_ports rfl⟩

/-- The entry is driven, with the mast outside tolerance (R55). -/
theorem lowering_drives (taken : Taken .windLowering windLoweringDrafts s w) (high : 3010 < s.pose.position.mast)
    (sound : s.pose.faulted.mast = false) (supply : s.exe.supply = .available) :
    goAhead w = w.setExe (drivenEntry .mast 3000 { loweringEntry s with target := none } [] w) :=
  taken_drives taken (lowering_queue taken) (lowering_passes taken (by omega) sound) supply (mast_far high)

/-- The entry settles, with the mast within tolerance and moving (R55). -/
theorem lowering_settles (taken : Taken .windLowering windLoweringDrafts s w) (high : 3000 < s.pose.position.mast)
    (near : s.pose.position.mast ≤ 3010) (sound : s.pose.faulted.mast = false) (supply : s.exe.supply = .available)
    (moves : s.pose.atRest.mast = false) :
    goAhead w = w.setExe (settlingEntry .mast 3000 { loweringEntry s with target := none } [] w) := by
  obtain ⟨active, closing⟩ := taken_ready taken
  have starts := activate_settles active closing (lowering_queue taken) (lowering_passes taken high sound)
    (by rw [taken.exe]; exact supply) (by rw [taken.outside.pose]; exact mast_near high near)
    (by rw [taken.outside.pose]; exact moves)
  rw [activatedArb_unheld (taken_unheld taken)] at starts
  unfold goAhead
  rw [starts]
  exact advance_still
    (s := (w.setExe (settlingEntry .mast 3000 { loweringEntry s with target := none } [] w)).setArb w.arb) closing

/-- The entry as it becomes active (R54). -/
theorem lowering_activated (taken : Taken .windLowering windLoweringDrafts s w) :
    activated (loweringEntry s) [] w =
      w.setExe { w.exe with queue := [loweringEntry s], active := some (freshOn (loweringEntry s) w) } :=
  activated_unheld (taken_unheld taken)

/-! ### The entry complete at once -/

/-- The entry has completed where the mast stands, and has left (R55, R57). -/
def loweringDone (s w : State) : State :=
  entryGone (loweringEntry s) [] (setDirection .mast 3000 (activated (loweringEntry s) [] w))

theorem lowering_arrives (taken : Taken .windLowering windLoweringDrafts s w) (high : 3000 < s.pose.position.mast)
    (near : s.pose.position.mast ≤ 3010) (sound : s.pose.faulted.mast = false) (supply : s.exe.supply = .available)
    (stands : s.pose.atRest.mast = true) :
    goAhead w =
      takeBoundary { boundary := true, completed := true, halted := 0, discarded := 0 } (loweringDone s w) := by
  obtain ⟨active, closing⟩ := taken_ready taken
  unfold goAhead
  rw [activate_arrives active closing (lowering_queue taken) (lowering_passes taken high sound)
    (by rw [taken.exe]; exact supply) (by rw [taken.outside.pose]; exact mast_near high near)
    (by rw [taken.outside.pose]; exact stands)]
  exact advance_complete_last rfl rfl

theorem loweringDone_eq (taken : Taken .windLowering windLoweringDrafts s w) :
    ∃ drives : Axes Drive, (loweringDone s w) = w.setExe
        { w.exe with queue := [], active := none, closing := none, suspension := none, drives := drives }
      ∧ (drives.mast.enable = false ∧ drives.mast.rate = .stop ∧ drives.mast.brake = true)
      ∧ ∀ a : Axis, a ≠ .mast → drives.get a = w.exe.drives.get a := by
  unfold loweringDone
  rw [lowering_activated taken]
  refine ⟨_, rfl, ⟨rfl, rfl, rfl⟩, fun a other => ?_⟩
  cases a with
  | mast => exact absurd rfl other
  | pan => rfl
  | tilt => rfl
  | pol => rfl

/-! ### The entry failed at its start -/

/-- The entry has failed at its start, and has left (R54, R61). -/
def loweringFailed (s w : State) : State :=
  entryFailed .axisFaulted (loweringEntry s) 0 (activated (loweringEntry s) [] w)

theorem lowering_fails (taken : Taken .windLowering windLoweringDrafts s w) (faulted : s.pose.faulted.mast = true) :
    goAhead w = takeBoundary (failedEnding (loweringEntry s) w) (loweringFailed s w) := by
  obtain ⟨active, closing⟩ := taken_ready taken
  have check : startCheck (loweringEntry s) (activated (loweringEntry s) [] w) = some .axisFaulted := by
    refine if_pos ?_
    rw [lowering_activated taken]
    show w.pose.faulted.mast = true
    rw [taken.outside.pose]
    exact faulted
  have begins : activate w = failActive .axisFaulted false (activated (loweringEntry s) [] w) := by
    rw [activate_cons active closing (lowering_queue taken)]
    show begun (loweringEntry s) (activated (loweringEntry s) [] w) = _
    unfold begun
    rw [check]
  have safe : (activated (loweringEntry s) [] w).safe = w.safe := rfl
  unfold goAhead
  rw [begins, advance_fail false rfl rfl]
  refine (if_pos rfl).trans ?_
  unfold failedEnding failedGroup
  rw [safe]
  rfl

/-- A failure of SAFETY is told to no port (R61). -/
theorem entryFailed_safety_keeps (safety : e.origin = .safety) (why : EndReason) (n : Nat) (s : State) :
    keepsLists [7, 12] s (entryFailed why e n s) := by
  have ended : keepsLists [7, 12] s (dropActive e (finishScan why false s)) :=
    keepsLists_trans (finishScan_keeps why false s (by decide)) (dropActive_keeps e (finishScan why false s))
  unfold entryFailed
  rw [safety]
  exact fun q => keepsLists_trans ended (tellSafety_keeps .safety (dropActive e (finishScan why false s)) (by decide)) q

/-- Where no scan has begun none ends. -/
theorem finishScan_quiet (quiet : s.scan.scan = none ∨ s.scan.result = none) (why : EndReason) (learned : Bool) :
    finishScan why learned s = s := by
  unfold finishScan
  split
  · next scan result _ =>
    rcases quiet with none_ | none_
    · rw [none_] at scan
      cases scan
    · rw [none_] at result
      cases result
  · rfl

theorem quiet_of_scanEnds (why : EndReason) (ended : scanEnds why s w) : w.scan.scan = none ∨ w.scan.result = none := by
  unfold scanEnds at ended
  split at ended
  · rw [ended]
    exact Or.inl rfl
  · next none_ =>
    rw [ended]
    cases scan : s.scan.scan with
    | none => exact Or.inl rfl
    | some z =>
      cases result : s.scan.result with
      | none => exact Or.inr rfl
      | some r => exact (none_ z r scan result).elim

end Sys2Proof.Machine
end

section
/-! The outcomes of a wind lowering, seen from before SAFETY took authority (R38, R41, R73, R82, R93, R94, R100). -/

namespace Sys2Proof.Machine

variable {s t u v w b g : State} {p q : Port} {k : Nat} {left : Reasons} {ending : Ending} {body : NoticeBody} {e : Entry}

theorem beside_then (h : Beside v w) (arb : g.arb = w.arb) (outside : Outside w g) (lists : keepsLists [7, 12] w g)
    (hidden : masked 12 w g) : Beside v g := by
  obtain ⟨arbW, outsideW, claims, refused, crank, conditions⟩ := h
  have same (k : Nat) (other : k ∉ [7, 12]) : sameNotices k w g := sameNotices_of_keeps lists other
  exact ⟨arb.trans arbW, outside_trans outsideW outside,
    fun q listed => spares_trans (claims q listed) (spares_of_same (same 2 (by decide)) q),
    sameNotices_trans refused (same 3 (by decide)), sameNotices_trans crank (same 13 (by decide)),
    masked_trans (fun p => (refused p).2) conditions hidden⟩

/-- SAFETY is at work once it has taken authority. -/
theorem taken_works (taken : Taken .windLowering windLoweringDrafts s w) :
    w.arb.holder = some .safety ∧ (w.arb.auth = .moving ∨ w.arb.auth = .manualPending) := by
  rw [taken.arb]
  refine ⟨rfl, ?_⟩
  show (if s.arb.auth = .manualPending then AuthState.manualPending else .moving) = .moving
    ∨ (if s.arb.auth = .manualPending then AuthState.manualPending else .moving) = .manualPending
  split
  · exact Or.inr rfl
  · exact Or.inl rfl

/-! ### Complete at once -/

/-- The end of a lowering leaves the PARK cause alone on the alarm output (R94, R100). -/
theorem takeBoundary_lowered_alarm (holder : s.arb.holder = some .safety)
    (auth : s.arb.auth = .moving ∨ s.arb.auth = .manualPending) (group : s.safe.group = some .windLowering) :
    (takeBoundary ending s).safe.alarm = s.safe.alarmPark := by
  have ended : (groupEnded ending s).safe.alarm = s.safe.alarmPark := by
    obtain ⟨-, -, alarm⟩ := setAlarmCauses_causes s.safe.alarmPark false (s.setSafe { s.safe with group := none })
    unfold groupEnded
    rw [group]
    exact alarm.trans (Bool.or_false _)
  rw [takeBoundary_of_safety holder auth, (afterGroup_frame _).2.2.2.1]
  exact ended

/-- What the entry complete at once leaves (R55, R57). -/
theorem lowering_arrives_left (taken : Taken .windLowering windLoweringDrafts s w) (beside : Beside v w)
    (exe : v.exe = { w.exe with queue := [loweringEntry s] }) (group : v.safe.group = some .windLowering)
    (high : 3000 < s.pose.position.mast) (near : s.pose.position.mast ≤ 3010) (sound : s.pose.faulted.mast = false)
    (supply : s.exe.supply = .available) (stands : s.pose.atRest.mast = true) :
    Followed w (goAhead w) ∧ EntryDone (loweringEntry s) v (goAhead w) ∧ (goAhead w).safe.alarm = w.safe.alarmPark
      ∧ ∀ q, q ∉ w.arb.claims → spares 2 q w (goAhead w) := by
  obtain ⟨holder, auth⟩ := taken_works taken
  obtain ⟨drives, gone, ⟨enable, rate, brake⟩, others⟩ := loweringDone_eq taken
  have made := lowering_arrives taken high near sound supply stands
  obtain ⟨g, g_eq⟩ : ∃ g, g = loweringDone s w := ⟨_, rfl⟩
  obtain ⟨ending, ending_eq⟩ : ∃ ending : Ending, ending = { boundary := true, completed := true, halted := 0, discarded := 0 } :=
    ⟨_, rfl⟩
  rw [← g_eq] at gone made
  rw [← ending_eq] at made
  have holderG : g.arb.holder = some .safety := by rw [gone]; exact holder
  have authG : g.arb.auth = .moving ∨ g.arb.auth = .manualPending := by rw [gone]; exact auth
  have groupG : g.safe.group = some .windLowering := by rw [gone]; exact taken.group
  have outsideG : Outside w g := by
    rw [gone]
    exact ⟨rfl, rfl, rfl, rfl, rfl, rfl, rfl⟩
  have before : Beside v g := by
    rw [gone]
    exact beside_then beside rfl ⟨rfl, rfl, rfl, rfl, rfl, rfl, rfl⟩ (keepsLists_of_ports rfl) (masked_of_ports rfl)
  obtain ⟨work, scan⟩ := takeBoundary_work (ending := ending) (s := g) (by rw [gone]; rfl)
  have left : reasonsLeft ending g = reasonsAfter (some .windLowering) true v := by
    unfold reasonsLeft
    rw [groupG]
    dsimp only
    rw [reasonsAfter_other (by simp), reasonsAfter_other (by simp), before.arb]
  have boundary := takeBoundary_safety (ending := ending) holderG authG
  rw [left] at boundary
  rw [made]
  refine ⟨⟨?_, ?_, fun _ => ?_, ?_⟩, ⟨?_, ?_, fun a driven => ?_, fun a other => ?_, ?_, fun p owner => ?_, fun p port => ?_,
    fun _ _ => ⟨?_, fun _ => ?_⟩⟩, ?_, fun q spared => ?_⟩
  · exact outside_trans outsideG (takeBoundary_outside _ _)
  · rw [gone]
    simp
  · rw [scan, gone]
    rfl
  · rw [gone]
    exact keepsLists_before rfl (takeBoundary_keeps _ _ (by decide) (by decide) (by decide) (by decide))
  · rw [work, gone]
    exact ⟨rfl, rfl, rfl, rfl⟩
  · rw [work, gone, exe]
    exact ⟨rfl, rfl, rfl⟩
  · have mast : a = .mast := by
      cases a with
      | mast => rfl
      | pan => cases driven
      | tilt => cases driven
      | pol => cases driven
    rw [work, gone, mast]
    exact ⟨enable, rate, brake⟩
  · rw [work, gone, exe]
    refine others a fun mast => ?_
    rw [mast] at other
    cases other
  · exact outside_trans before.outside (takeBoundary_outside _ _)
  · cases owner
  · rw [← before.arb, holderG] at port
    cases port
  · rw [group]
    exact safetyBoundary_beside before boundary
  · exact takeBoundary_lowered holderG authG groupG
  · rw [takeBoundary_lowered_alarm holderG authG groupG, gone]
    rfl
  · exact spares_trans (spares_of_ports (by rw [gone]; rfl))
      (takeBoundary_spares holderG authG (by rw [gone]; exact spared))

/-! ### Failed at its start -/

/-- What the entry failed at its start leaves (R54, R61, R94). -/
theorem lowering_fails_left (taken : Taken .windLowering windLoweringDrafts s w) (beside : Beside v w)
    (faulted : s.pose.faulted.mast = true) :
    Followed w (goAhead w)
      ∧ ((goAhead w).exe.queue = [] ∧ (goAhead w).exe.active = none ∧ (goAhead w).exe.closing = none)
      ∧ SafetyBoundary v.arb.reasons v (goAhead w)
      ∧ ((goAhead w).safe.alarmWind = true ∧ (goAhead w).safe.alarm = true)
      ∧ (w.safe.alarm = false →
          tellsAll (.condition .alarm w.arb.reasons w.pose.latch w.safe.alarmPark true w.settings.defaulted) w (goAhead w))
      ∧ ∀ q, q ∉ w.arb.claims → spares 2 q w (goAhead w) := by
  obtain ⟨holder, auth⟩ := taken_works taken
  obtain ⟨b, b_eq⟩ : ∃ b, b = activated (loweringEntry s) [] w := ⟨_, rfl⟩
  obtain ⟨g, g_eq⟩ : ∃ g, g = loweringFailed s w := ⟨_, rfl⟩
  obtain ⟨ending, ending_eq⟩ : ∃ ending, ending = failedEnding (loweringEntry s) w := ⟨_, rfl⟩
  have made := lowering_fails taken faulted
  have opened : b = w.setExe { w.exe with queue := [loweringEntry s], active := some (freshOn (loweringEntry s) w) } := by
    rw [b_eq]
    exact lowering_activated taken
  have failed : g = entryFailed .axisFaulted (loweringEntry s) 0 b := by rw [g_eq, b_eq]; rfl
  have like := entryFailed_like .axisFaulted (loweringEntry s) 0 b
  have lists : keepsLists [7, 12] b (entryFailed .axisFaulted (loweringEntry s) 0 b) :=
    entryFailed_safety_keeps rfl .axisFaulted 0 b
  have cache : (entryFailed .axisFaulted (loweringEntry s) 0 b).cache = b.cache := by simp [entryFailed]
  obtain ⟨group, alarms⟩ := entryFailed_group (e := loweringEntry s) .axisFaulted 0 rfl b
  have sounds := entryFailed_alarm (e := loweringEntry s) (s := b) .axisFaulted 0 rfl
  have ports : b.ports = w.ports := by rw [opened]; rfl
  have safeB : b.safe = w.safe := by rw [opened]; rfl
  have arbB : b.arb = w.arb := by rw [opened]; rfl
  have outsideB : Outside w b := by
    rw [opened]
    exact ⟨rfl, rfl, rfl, rfl, rfl, rfl, rfl⟩
  have groupB : b.safe.group = some .windLowering := by rw [safeB]; exact taken.group
  rw [← g_eq, ← ending_eq] at made
  rw [← failed] at like lists cache group alarms sounds
  obtain ⟨arb, outside, -, hidden⟩ := like
  have arbG : g.arb = w.arb := arb.trans arbB
  have outsideG : Outside w g := outside_trans outsideB outside
  have listsG : keepsLists [7, 12] w g := keepsLists_before ports lists
  have hiddenG : masked 12 w g := by
    intro q off
    rw [← ports] at off ⊢
    exact hidden q off
  have before : Beside v g := beside_then beside arbG outsideG listsG hiddenG
  have holderG : g.arb.holder = some .safety := by rw [arbG]; exact holder
  have authG : g.arb.auth = .moving ∨ g.arb.auth = .manualPending := by rw [arbG]; exact auth
  have endingFailed : ending.failed = some .windLowering := by
    rw [ending_eq]
    exact taken.group
  have left : reasonsLeft ending g = v.arb.reasons := by
    unfold reasonsLeft
    rw [group]
    dsimp only
    rw [endingFailed, reasonsAfter_other (by simp), before.arb]
  have boundary := takeBoundary_safety (ending := ending) holderG authG
  rw [left] at boundary
  have exeG : g.exe = goneExe (loweringEntry s) [] b := by rw [failed]; rfl
  obtain ⟨work, scan⟩ := takeBoundary_work (ending := ending) (s := g) (by rw [exeG]; rfl)
  have untold : keepsLists [2, 3, 13] g (takeBoundary ending g) :=
    takeBoundary_untold group (by rw [endingFailed]; exact fun hit => by cases hit)
  rw [made]
  refine ⟨⟨outside_trans outsideG (takeBoundary_outside _ _), ?_, fun quiet => ?_, ?_⟩, ?_, safetyBoundary_beside before boundary,
    ?_, fun silent => ?_, fun q spared => ?_⟩
  · have kept : (takeBoundary ending g).cache = g.cache := by simp
    rw [kept, cache, opened]
    rfl
  · have same : (entryFailed .axisFaulted (loweringEntry s) 0 b).scan = (finishScan .axisFaulted false b).scan := by
      simp [entryFailed]
    rw [scan, failed, same, finishScan_quiet (by rw [opened]; exact quiet), opened]
    rfl
  · exact keepsLists_trans (keepsLists_mono (by decide) listsG) (keepsLists_mono (by decide) untold)
  · rw [work, exeG]
    exact ⟨rfl, rfl, rfl⟩
  · rw [takeBoundary_ungrouped ending group]
    exact alarms groupB
  · have told := sounds groupB (by rw [safeB]; exact silent)
    rw [arbB, safeB, outsideB.pose, outsideB.settings] at told
    exact tellsAll_same (tellsAll_of_ports ports.symm rfl told) (sameNotices_of_keeps untold (show 12 ∉ [2, 3, 13] by decide))
  · exact spares_trans (spares_of_same (sameNotices_of_keeps listsG (show 2 ∉ [7, 12] by decide)) q)
      (takeBoundary_spares holderG authG (by rw [arbG]; exact spared))

/-! ### Suspended -/

/-- An entry of SAFETY abandoned for the crank costs no port its authority (R81, R82). -/
theorem advance_abandoned_unowned {x : Active} {rest : List Entry} (h : activeIs x e rest s)
    (unowned : ∀ p : Port, s.arb.holder ≠ some (.port p)) : keepsLists [7, 12, 13] s (advance (abandonForCrank s)) := by
  obtain ⟨closing, ends⟩ := advance_abandonForCrank h
  obtain ⟨b, b_eq⟩ : ∃ b, b = abandoned e rest.length s := ⟨_, rfl⟩
  have arb : (groupCut b).arb = s.arb := by rw [b_eq]; simp [abandoned]
  have ended : keepsLists [7, 12, 13] s b := by
    rw [b_eq]
    exact fun p => finishScan_keeps (kinds := [7, 12, 13]) .endedManual false s (by decide) p
  have granted := grantCrank_unowned (s := groupCut b) (by rw [arb]; exact unowned) e.tag rest.length e.tag rest.length
  rw [ends, abandonForCrank_eq h, ← b_eq]
  exact keepsLists_then (keepsLists_trans (keepsLists_trans ended (groupCut_keeps b (by decide)))
    (keepsLists_mono (by decide) granted)) rfl

theorem advance_abandoned_outside (s : State) :
    Outside s (advance (abandonForCrank s)) ∧ (advance (abandonForCrank s)).cache = s.cache :=
  ⟨⟨by simp, by simp, by simp, by simp, by simp, by simp,
    sensed_of (by simp) (by simp) (by simp) (by simp) (by simp) (by simp) (by simp) (by simp) (by simp) (by simp)⟩, by simp⟩

/-- What the entry suspended at its start leaves (R73). -/
theorem lowering_suspends_left (taken : Taken .windLowering windLoweringDrafts s w) (high : 3000 < s.pose.position.mast)
    (sound : s.pose.faulted.mast = false) (supply : s.exe.supply ≠ .available) :
    Followed w (goAhead w)
      ∧ (∀ q : Port, spares 2 q w (goAhead w))
      ∧ tellsAll (.supplySuspended s.exe.nextTag .safety .lower w.settings.inForce.suspension) w (goAhead w)
      ∧ (s.arb.auth ≠ .manualPending →
          (goAhead w).arb = w.arb ∧ (goAhead w).safe = w.safe
            ∧ (goAhead w).exe.queue = [loweringEntry s]
            ∧ (goAhead w).exe.active = some (activeOn .mast 3000 .suspended (Axes.all .idle) w)
            ∧ (goAhead w).exe.suspension = some w.settings.inForce.suspension ∧ (goAhead w).exe.closing = none)
      ∧ (s.arb.auth = .manualPending →
          (goAhead w).arb = crankGranted w ∧ (goAhead w).safe.group = none
            ∧ (goAhead w).exe.queue = [] ∧ (goAhead w).exe.active = none ∧ (goAhead w).exe.suspension = none
            ∧ (goAhead w).safe.alarmWind = true ∧ (goAhead w).safe.alarm = true
            ∧ tellsAll (.manualBegun w.arb.auth w.arb.holder s.exe.nextTag 0) w (goAhead w)) := by
  have made := taken_suspends taken (lowering_queue taken) (lowering_passes taken high sound) supply
  obtain ⟨b, b_eq⟩ : ∃ b, b = activated (loweringEntry s) [] w := ⟨_, rfl⟩
  have opened : b = w.setExe { w.exe with queue := [loweringEntry s], active := some (freshOn (loweringEntry s) w) } := by
    rw [b_eq]
    exact lowering_activated taken
  have madeNow : goAhead w = advance (suspendOrAbandon b) := by
    rw [b_eq]
    exact made
  have active : b.exe.active = some (freshOn (loweringEntry s) w) := by rw [opened]; rfl
  have entry : activeEntry b = some (loweringEntry s) := activeEntry_of (by rw [active]; rfl) (by rw [opened]; rfl)
  obtain ⟨only, told⟩ := suspendActive_told entry
  obtain ⟨c, c_eq⟩ : ∃ c, c = suspendActive b := ⟨_, rfl⟩
  rw [← c_eq] at only told
  obtain ⟨pending, powered, arb, exe, pose, safe, store, cache, heading, scan, settings⟩ := onlyOutputs_frame only
  have ports : b.ports = w.ports := by rw [opened]; rfl
  have arbC : c.arb = w.arb := by rw [arb, opened]; rfl
  have safeC : c.safe = w.safe := by rw [safe, opened]; rfl
  have scanC : c.scan = w.scan := by rw [scan, opened]; rfl
  have cacheC : c.cache = w.cache := by rw [cache, opened]; rfl
  have settingsC : c.settings = w.settings := by rw [settings, opened]; rfl
  have outsideC : Outside w c := by
    refine ⟨by rw [pending, opened]; rfl, by rw [powered, opened]; rfl, by rw [pose, opened]; rfl, by rw [store, opened]; rfl,
      by rw [heading, opened]; rfl, settingsC, by rw [safeC]⟩
  have listsC : keepsLists [14] w c := keepsLists_before ports fun q => keepsLists_of_onlyOutputs only q
  have toldC : tellsAll (.supplySuspended s.exe.nextTag .safety .lower w.settings.inForce.suspension) w c := by
    have limit : b.settings = w.settings := by rw [opened]; rfl
    rw [limit] at told
    exact tellsAll_of_ports ports.symm rfl told
  have queueC : c.exe.queue = [loweringEntry s] := by rw [exe, State.setExe_exe, opened]; rfl
  have fresh : freshOn (loweringEntry s) w = activeOn .mast 3000 .running (Axes.all .idle) w :=
    freshOn_move (e := { loweringEntry s with target := none }) rfl
  have activeC : c.exe.active = some (activeOn .mast 3000 .suspended (Axes.all .idle) w) := by
    rw [exe]
    show b.exe.active.map _ = _
    rw [active, fresh]
    rfl
  have closingC : c.exe.closing = none := by
    rw [exe, State.setExe_exe, opened]
    exact (taken_ready taken).2
  have authB : b.arb.auth = if s.arb.auth = .manualPending then .manualPending else .moving := by
    rw [opened]
    show w.arb.auth = _
    rw [taken.arb]
    rfl
  rw [madeNow]
  unfold suspendOrAbandon
  dsimp only
  rw [← c_eq]
  by_cases waits : s.arb.auth = .manualPending
  · have activeNow : activeIs (activeOn .mast 3000 .suspended (Axes.all .idle) w) (loweringEntry s) [] c :=
      ⟨activeC, closingC, queueC⟩
    obtain ⟨holder, -⟩ := taken_works taken
    have unowned := advance_abandoned_unowned activeNow
      (fun p => by rw [arbC, holder]; exact fun hit => by cases hit)
    obtain ⟨⟨closing, exeT⟩, scanT, arbT, begun, -, lists, group, -, raised⟩ := advance_abandoned activeNow
    obtain ⟨outsideT, cacheT⟩ := advance_abandoned_outside c
    obtain ⟨wind, alarm, -⟩ := raised (by rw [safeC]; exact taken.group)
    rw [arbC] at begun
    rw [if_pos (by rw [authB, if_pos waits])]
    refine ⟨⟨outside_trans outsideC outsideT, cacheT.trans cacheC, fun quiet => ?_,
      keepsLists_trans (keepsLists_mono (by decide) listsC) (keepsLists_mono (by decide) lists)⟩,
      fun q => spares_of_same (sameNotices_trans (sameNotices_of_keeps listsC (show 2 ∉ [14] by decide))
        (sameNotices_of_keeps unowned (show 2 ∉ [7, 12, 13] by decide))) q,
      tellsAll_same toldC (sameNotices_of_keeps unowned (show 14 ∉ [7, 12, 13] by decide)), fun other => absurd waits other,
      fun _ => ⟨arbT.trans (crankGranted_of_arb arbC), group, by rw [exeT]; rfl, by rw [exeT]; rfl, by rw [exeT]; rfl, wind, alarm,
        tellsAll_after (sameNotices_of_keeps listsC (show 13 ∉ [14] by decide)) begun⟩⟩
    rw [scanT, finishScan_quiet (by rw [scanC]; exact quiet), scanC]
  · rw [if_neg (by rw [authB, if_neg waits]; exact fun hit => by cases hit), advance_still closingC]
    exact ⟨⟨outsideC, cacheC, fun _ => scanC, keepsLists_mono (by decide) listsC⟩,
      fun q => spares_of_same (sameNotices_of_keeps listsC (show 2 ∉ [14] by decide)) q, toldC,
      fun _ => ⟨arbC, safeC, queueC, activeC, by rw [exe, State.setExe_exe, opened]; rfl, closingC⟩,
      fun hit => absurd hit waits⟩

end Sys2Proof.Machine
end

section
/-! Entry into LIMIT with the mast high (R38, R40, R41, R54, R55, R73, R82, R89, R92 to R94, R100). -/

namespace Sys2Proof.Machine

variable {s t u v w b g : State} {p q : Port} {previous : WindClass}

/-! ### The offer -/

theorem holdsParkStow_iff (s : State) :
    holdsParkStow s = true ↔ s.safe.group = some .parkStow ∨ closingFailed s = some .parkStow := by
  rw [holdsParkStow_eq, decide_eq_true_iff]

/-- The rows of the offer of a lowering (R93). -/
theorem offerLowering_cases (s : State) :
    offerLowering s = raiseWindAlarm s ∨ offerLowering s = s
      ∨ (s.safe.group = none ∧ offerLowering s = takeSafety .windLowering windLoweringDrafts s) := by
  unfold offerLowering
  split
  · exact Or.inl rfl
  · exact Or.inl rfl
  · exact Or.inr (Or.inl rfl)
  · next other =>
    by_cases holds : holdsParkStow s = true
    · rw [if_pos holds]
      exact Or.inl rfl
    · rw [if_neg holds]
      refine Or.inr (Or.inr ⟨?_, rfl⟩)
      cases group : s.safe.group with
      | none => rfl
      | some g =>
        cases g with
        | parkStow => exact absurd ((holdsParkStow_iff s).mpr (Or.inl group)) holds
        | windLowering => exact (other group).elim

/-- Where a port or nobody is at work, SAFETY takes authority with the lowering (R93). -/
theorem offerLowering_takes (auth : s.arb.auth ≠ .manual ∧ s.arb.auth ≠ .lockout) (group : s.safe.group = none)
    (failed : closingFailed s = none) : offerLowering s = takeSafety .windLowering windLoweringDrafts s := by
  obtain ⟨manual, lockout⟩ := auth
  have free : ¬holdsParkStow s = true := by
    rw [holdsParkStow_iff, group, failed]
    rintro (hit | hit) <;> cases hit
  unfold offerLowering
  split
  · next hit => exact absurd hit manual
  · next hit => exact absurd hit lockout
  · next lowering _ _ =>
    rw [group] at lowering
    cases lowering
  · exact if_neg free

/-- In MANUAL, in LOCKOUT and beside a park stow the WIND cause alone is set (R93). -/
theorem offerLowering_raises
    (alone : s.arb.auth = .manual ∨ s.arb.auth = .lockout
      ∨ (s.safe.group = some .parkStow ∨ (s.safe.group = none ∧ closingFailed s = some .parkStow))) :
    offerLowering s = raiseWindAlarm s := by
  unfold offerLowering
  split
  · rfl
  · rfl
  · next lowering manual lockout =>
    rcases alone with hit | hit | hit | ⟨hit, -⟩
    · exact absurd hit manual
    · exact absurd hit lockout
    · rw [lowering] at hit
      cases hit
    · rw [lowering] at hit
      cases hit
  · next manual lockout _ =>
    refine if_pos ((holdsParkStow_iff s).mpr ?_)
    rcases alone with hit | hit | hit | ⟨-, hit⟩
    · exact absurd hit manual
    · exact absurd hit lockout
    · exact Or.inl hit
    · exact Or.inr hit

theorem raiseWindAlarm_followed (s : State) : Followed s (raiseWindAlarm s) :=
  ⟨⟨by simp, by simp, by simp, by simp, by simp, by simp,
    sensed_of (by simp) (by simp) (by simp) (by simp) (by simp) (by simp) (by simp) (by simp) (by simp) (by simp)⟩, by simp,
    fun _ => by simp, setAlarmCauses_keeps _ _ s (by decide)⟩

/-- The outcomes of the lowering leave everything else as it stands. -/
theorem lowering_followed (taken : Taken .windLowering windLoweringDrafts s w) (high : 3000 < s.pose.position.mast) :
    Followed w (goAhead w) := by
  have same : Beside w w :=
    ⟨rfl, ⟨rfl, rfl, rfl, rfl, rfl, rfl, rfl⟩, fun _ _ => spares_of_ports rfl, sameNotices_refl 3 w, sameNotices_refl 13 w,
      masked_of_ports rfl⟩
  by_cases faulted : s.pose.faulted.mast = true
  · obtain ⟨followed, -⟩ := lowering_fails_left taken same faulted
    exact followed
  have sound : s.pose.faulted.mast = false := eq_false_of_ne_true faulted
  by_cases supply : s.exe.supply = .available
  · by_cases far : 3010 < s.pose.position.mast
    · rw [lowering_drives taken far sound supply]
      exact followed_setExe w _
    · by_cases stands : s.pose.atRest.mast = true
      · have queued : Beside (w.setExe { w.exe with queue := [loweringEntry s] }) w :=
          ⟨rfl, ⟨rfl, rfl, rfl, rfl, rfl, rfl, rfl⟩, fun _ _ => spares_of_ports rfl, sameNotices_of_ports rfl,
            sameNotices_of_ports rfl, masked_of_ports rfl⟩
        obtain ⟨followed, -⟩ :=
          lowering_arrives_left taken queued rfl taken.group high (Int.not_lt.mp far) sound supply stands
        exact followed
      · rw [lowering_settles taken high (Int.not_lt.mp far) sound supply (eq_false_of_ne_true stands)]
        exact followed_setExe w _
  · obtain ⟨followed, -⟩ := lowering_suspends_left taken high sound supply
    exact followed

/-- What the offer leaves, whatever its row (R93). -/
theorem offerLowering_left (high : 3000 < s.pose.position.mast) :
    Outside s (offerLowering s) ∧ (offerLowering s).cache = s.cache
      ∧ keepsLists [2, 3, 7, 12, 13, 14] s (offerLowering s) := by
  rcases offerLowering_cases s with same | same | ⟨-, same⟩
  · obtain ⟨outside, cache, -, lists⟩ := raiseWindAlarm_followed s
    rw [same]
    exact ⟨outside, cache, lists⟩
  · rw [same]
    exact ⟨outside_refl s, rfl, keepsLists_refl _ s⟩
  · have taken := taken_takenBy .windLowering windLoweringDrafts s
    obtain ⟨outside, cache, -, lists⟩ := lowering_followed taken high
    rw [same, takeSafety_eq]
    exact ⟨outside_trans taken.outside outside, cache.trans taken.cache,
      keepsLists_trans (keepsLists_mono (by decide) taken.lists) lists⟩

/-! ### The sample -/

theorem classRule_limit {c : WindClass} (calm ease : Nat) {speed : Nat} (other : c ≠ .limit) (strong : 65 ≤ speed) :
    classRule ⟨c, calm, ease⟩ speed = ⟨.limit, 0, 0⟩ := by
  cases c with
  | normal => exact if_pos strong
  | caution => exact if_pos strong
  | limit => exact absurd rfl other

/-- The state of a sample that enters LIMIT (R89, R90). -/
def limitState (s : State) : State := sampled (sampleSpeed s) ⟨.limit, 0, 0⟩ s

/-- A sample that enters LIMIT with the mast high offers a lowering, after it has told of the class (R92, R93). -/
theorem windSample_limits (on : s.powered = true) (other : s.safe.windClass ≠ .limit) (strong : 65 ≤ sampleSpeed s)
    (high : 3000 < s.pose.position.mast) :
    exec .windSample s = .next (offerLowering (windTold s.safe.windClass (limitState s))) := by
  rw [windSample_eq on rfl, classRule_limit _ _ other strong, if_neg (fun same => other same.symm), windChanged_eq]
  exact congrArg _ ((if_pos rfl).trans (if_pos high))

theorem windTold_ports (previous : WindClass) (s : State) : ∃ ports, windTold previous s = s.setPorts ports := by
  obtain ⟨cab, rack, link, -, -, -, made⟩ := (windTold_told previous s).1
  exact ⟨_, made⟩

/-- The taking seen from the state of the sample, where the old holder claims nothing (R38, R40). -/
theorem lowering_beside {ports : Ports PortState} (told : v = u.setPorts ports) (lists : keepsLists [11] u v)
    (taken : Taken .windLowering windLoweringDrafts v (takenBy .windLowering windLoweringDrafts v)) (group : u.safe.group = none)
    (unclaimed : ∀ p : Port, u.arb.holder = some (.port p) → p ∉ u.arb.claims) :
    Beside (loweringState u) (takenBy .windLowering windLoweringDrafts v) := by
  obtain ⟨-, -, kept⟩ := taken.kept (by rw [told, State.setPorts_safe, group]; exact fun hit => by cases hit)
  have same (k : Nat) (other : k ∉ [11]) : sameNotices k (loweringState u) v :=
    sameNotices_before _ u rfl (sameNotices_of_keeps lists other)
  have outside : Outside (loweringState u) v := by
    rw [told]
    exact ⟨rfl, rfl, rfl, rfl, rfl, rfl, rfl⟩
  refine ⟨?_, outside_trans outside taken.outside, fun q listed => ?_,
    sameNotices_trans (same 3 (by decide)) (sameNotices_of_keeps kept (show 3 ∉ [2, 7] by decide)),
    sameNotices_trans (same 13 (by decide)) (sameNotices_of_keeps kept (show 13 ∉ [2, 7] by decide)),
    masked_trans (fun p => (same 3 (by decide) p).2) (masked_of_same (same 12 (by decide))) taken.masked⟩
  · rw [taken.arb, told]
    rfl
  · refine spares_trans (spares_of_same (same 2 (by decide)) q) (takenBy_spares (fun holder => ?_) ?_)
    · rw [told] at holder
      exact unclaimed q holder listed
    · rw [told]
      exact group

/-- Above its target an axis settles toward falling counts (R3). -/
theorem settlingToward_above {a : Axis} {target : Int} (above : target < s.pose.position.get a) :
    settlingToward target a s = { enable := !s.safe.estop, increasing := false, rate := .stop, brake := false } := by
  unfold settlingToward
  rw [if_neg (by omega), if_pos above]

theorem drivingOn_of_pose {a : Axis} (pose : t.pose = s.pose) : drivingOn a t = drivingOn a s := by
  unfold drivingOn
  rw [pose]

end Sys2Proof.Machine
end

section
/-! The wind, sample by sample (R38, R40, R41, R54, R55, R73, R81, R82, R89, R92 to R94, R100). -/

namespace Sys2Proof.Machine

variable {s t u v w : State} {p q : Port}

/-- Where the old holder stood, AUTHORITY LOST stands (R38, R40). -/
theorem lowering_lost {ports : Ports PortState} (sampledPorts : u.ports = s.ports) (arb : u.arb = s.arb) (exe : u.exe = s.exe)
    (told : v = u.setPorts ports) (lists : keepsLists [11] u v) (taken : Taken .windLowering windLoweringDrafts v w)
    (holder : s.arb.holder = some (.port p)) (spared : spares 2 p w t) :
    tells p (.authority .lost (some .safety) (activeTag s) (waitingCount s)) s t := by
  have lost := taken.told p (by rw [told]; exact (congrArg Arbiter.holder arb).trans holder)
  have exeV : v.exe = s.exe := by rw [told]; exact exe
  rw [activeTag_of_exe exeV, waitingCount_of_exe exeV] at lost
  have before : sameNotices 2 s v := sameNotices_before s u sampledPorts (sameNotices_of_keeps lists (by decide))
  exact tells_spared (tells_after before lost) spared

theorem anemometerPulse_counts (on : s.powered = true) :
    exec .anemometerPulse s =
      .next (s.setSafe { s.safe with pulses := { s.safe.pulses with current := s.safe.pulses.current + 1 } }) :=
  exec_of_powered (f := fun s => s.setSafe { s.safe with pulses := { s.safe.pulses with current := s.safe.pulses.current + 1 } })
    rfl on

/-- The WIND cause is set, and a changed output told (R93, R100). -/
theorem raiseWindAlarm_raised (s : State) :
    (raiseWindAlarm s).safe.alarmWind = true ∧ (raiseWindAlarm s).safe.alarm = true ∧ (raiseWindAlarm s).arb = s.arb
      ∧ (raiseWindAlarm s).exe = s.exe ∧ (raiseWindAlarm s).safe.group = s.safe.group
      ∧ (s.safe.alarm = false →
          tellsAll (.condition .alarm s.arb.reasons s.pose.latch s.safe.alarmPark true s.settings.defaulted) s
            (raiseWindAlarm s)) := by
  obtain ⟨-, wind, alarm⟩ := setAlarmCauses_causes s.safe.alarmPark true s
  refine ⟨wind, alarm.trans (Bool.or_true _), by simp, by simp, by simp, fun silent => ?_⟩
  exact setAlarmCauses_tells (by rw [silent, Bool.or_true]; decide)

/-- What a sample that enters LIMIT leaves, whatever the lowering comes to. -/
theorem limit_left (high : 3000 < s.pose.position.mast) {t : State}
    (made : t = offerLowering (windTold s.safe.windClass (limitState s))) :
    Outside (limitState s) t
      ∧ tellsAll (.wind .limit s.safe.windClass t.safe.speed 3000 s.pose.position.mast) s t
      ∧ sameBesides [2, 3, 7, 11, 12, 13, 14] s t ∧ t.cache = s.cache := by
  obtain ⟨ports, told_eq⟩ := windTold_ports s.safe.windClass (limitState s)
  obtain ⟨only, told⟩ := windTold_told s.safe.windClass (limitState s)
  rw [made]
  obtain ⟨p, named⟩ : ∃ p, p = windTold s.safe.windClass (limitState s) := ⟨_, rfl⟩
  rw [← named] at told_eq only told ⊢
  have before : Outside (limitState s) p := by
    rw [told_eq]
    exact ⟨rfl, rfl, rfl, rfl, rfl, rfl, rfl⟩
  have lists : keepsLists [11] (limitState s) p := fun q => keepsLists_of_onlyOutputs only q
  obtain ⟨outside, cache, after⟩ := offerLowering_left (s := p) (by rw [told_eq]; exact high)
  have whole := outside_trans before outside
  have speed : (offerLowering p).safe.speed = (limitState s).safe.speed := by rw [whole.sensed]
  refine ⟨whole, ?_, sameBesides_of_keeps ?_, ?_⟩
  · rw [speed]
    exact tellsAll_of_ports rfl rfl (tellsAll_same told (sameNotices_of_keeps after (show 11 ∉ [2, 3, 7, 12, 13, 14] by decide)))
  · exact keepsLists_before rfl (keepsLists_trans (keepsLists_mono (by decide) lists) (keepsLists_mono (by decide) after))
  · rw [cache, told_eq]
    rfl

/-- Settles O34. -/
theorem windIsSampled : Obligations.WindIsSampled := by
  refine ⟨fun s u speed next on speed_eq next_eq u_eq => ⟨anemometerPulse_counts on, fun same => ?_, fun changed free => ?_,
    windSpeed_bounds⟩, fun e taken s u v on other strong high e_eq taken_eq u_eq v_eq => ?_⟩
  · subst speed_eq
    rw [windSample_eq on next_eq, if_pos same, u_eq]
    rfl
  · subst speed_eq
    have sampled_eq : sampled (sampleSpeed s) next s = u := by
      rw [u_eq]
      rfl
    refine ⟨windChanged s.safe.windClass u, ?_, ?_⟩
    · rw [windSample_eq on next_eq, if_neg changed, sampled_eq]
    obtain ⟨told, sounds, only⟩ := windChanged_told (s := u) (previous := s.safe.windClass) (by rw [u_eq]; exact changed)
      (by rw [u_eq]; exact free)
    subst u_eq
    exact ⟨tellsAll_of_ports rfl rfl told, fun ends changes => tellsAll_of_ports rfl rfl (sounds ends changes), only⟩
  · obtain rfl : u = limitState s := u_eq
    obtain rfl : taken = takenArb (limitState s) := taken_eq
    obtain rfl : e = loweringEntry (limitState s) := e_eq
    obtain rfl : v = loweringState (limitState s) := v_eq
    obtain ⟨ports, p_eq⟩ := windTold_ports s.safe.windClass (limitState s)
    obtain ⟨only, told⟩ := windTold_told s.safe.windClass (limitState s)
    obtain ⟨p, named⟩ : ∃ p, p = windTold s.safe.windClass (limitState s) := ⟨_, rfl⟩
    have made := windSample_limits on other strong high
    obtain ⟨outside, wind, lists, cache⟩ := limit_left high rfl
    rw [← named] at p_eq only made outside wind lists cache
    obtain ⟨t, t_eq⟩ : ∃ t, t = offerLowering p := ⟨_, rfl⟩
    rw [← t_eq] at made outside wind lists cache
    have listsP : keepsLists [11] (limitState s) p := fun q => keepsLists_of_onlyOutputs only q
    have sameP (k : Nat) (new : k ∉ [11]) : sameNotices k s p := sameNotices_before s _ rfl (sameNotices_of_keeps listsP new)
    refine ⟨t, made, outside, wind, lists, cache, fun alone => ?_, fun auth group failed => ?_⟩
    · have aloneP : p.arb.auth = .manual ∨ p.arb.auth = .lockout
          ∨ (p.safe.group = some .parkStow ∨ (p.safe.group = none ∧ closingFailed p = some .parkStow)) := by
        rw [p_eq]
        exact alone.imp id fun rest => rest.imp id fun ⟨_, _, stow⟩ => stow
      obtain ⟨windOn, alarmOn, arb, exe, groupKept, sounds⟩ := raiseWindAlarm_raised p
      rw [← offerLowering_raises aloneP, ← t_eq] at windOn alarmOn arb exe groupKept sounds
      refine ⟨windOn, alarmOn, by rw [arb, p_eq]; rfl, by rw [exe, p_eq]; rfl, by rw [groupKept, p_eq]; rfl, fun silent => ?_⟩
      have told := sounds (by rw [p_eq]; exact silent)
      rw [p_eq] at told
      rw [p_eq] at sameP
      exact tellsAll_after (sameP 12 (by decide)) told
    · obtain ⟨w, w_eq⟩ : ∃ w, w = takenBy .windLowering windLoweringDrafts p := ⟨_, rfl⟩
      have taken := taken_takenBy .windLowering windLoweringDrafts p
      have authP : p.arb.auth ≠ .manual ∧ p.arb.auth ≠ .lockout := by
        rw [p_eq]
        show s.arb.auth ≠ .manual ∧ s.arb.auth ≠ .lockout
        rcases auth with auth | auth | auth | auth | auth <;> rw [auth] <;> decide
      have goes : t = goAhead w := by
        rw [t_eq, offerLowering_takes authP (by rw [p_eq]; exact group) (by rw [p_eq]; exact failed), takeSafety_eq, w_eq]
      rw [← w_eq] at taken
      have highP : 3000 < p.pose.position.mast := by rw [p_eq]; exact high
      have entryP : loweringEntry p = loweringEntry (limitState s) := by rw [p_eq]; rfl
      have besideW (unclaimed : ∀ q : Port, s.arb.holder = some (.port q) → q ∉ s.arb.claims) :
          Beside (loweringState (limitState s)) w := by
        rw [w_eq]
        rw [w_eq] at taken
        exact lowering_beside p_eq listsP taken group unclaimed
      have lost (q : Port) (holder : s.arb.holder = some (.port q)) (spared : spares 2 q w t) :=
        lowering_lost (s := s) (u := limitState s) rfl rfl rfl p_eq listsP taken holder spared
      have poseW : w.pose = s.pose := taken.outside.pose.trans (by rw [p_eq]; rfl)
      have settingsW : w.settings = s.settings := taken.outside.settings.trans (by rw [p_eq]; rfl)
      have estopW : w.safe.estop = s.safe.estop := (outside_estop taken.outside).trans (by rw [p_eq]; rfl)
      have arbW : w.arb = takenArb (limitState s) := taken.arb.trans (by rw [p_eq]; rfl)
      obtain ⟨-, alarmW, keptW⟩ := taken.kept (by rw [p_eq]; show s.safe.group ≠ _; rw [group]; exact fun hit => by cases hit)
      have maskedW : masked 12 s w :=
        masked_trans (fun q => (sameP 12 (by decide) q).2) (masked_of_same (sameP 12 (by decide))) taken.masked
      have masksW (q : Port) : (w.ports.get q).mask = (s.ports.get q).mask :=
        (taken.lists q).2.trans (sameP 12 (by decide) q).2
      refine ⟨fun x f rest active => ?_, fun sound supply => ⟨fun drives => ?_, fun near stands unclaimed => ?_⟩,
        fun faulted unclaimed => ?_, fun sound supply => ?_⟩
      · have followed := lowering_followed taken highP
        have activeP : activeIs x f rest p := by
          rw [p_eq]
          exact active
        have ended := taken.scan x f rest activeP
        rw [← goes] at followed
        exact scanEnds_around (by rw [p_eq]; rfl) (followed.scan (quiet_of_scanEnds .safety ended)) ended
      · have supplyP : p.exe.supply = .available := by rw [p_eq]; exact supply
        have soundP : p.pose.faulted.mast = false := by rw [p_eq]; exact sound
        have idle : w.exe.suspension = none := by rw [taken.exe]; rfl
        have closing : w.exe.closing = none := (taken_ready taken).2
        by_cases far : 3010 < s.pose.position.mast
        · have left := goes.trans (lowering_drives taken (by rw [p_eq]; exact far) soundP supplyP)
          rw [entryP] at left
          rw [left]
          refine ⟨arbW, taken.group, rfl, idle, closing, fun _ => ⟨?_, ?_⟩, fun near => absurd far (by omega), fun q holder => ?_⟩
          · rw [← activeOn_of_pose poseW, ← drivingOn_of_pose poseW]
            rfl
          · exact drivenToward_of poseW estopW
          · rw [← left]
            exact lost q holder (spares_of_ports (by rw [left]; rfl))
        · have near : s.pose.position.mast ≤ 3010 := Int.not_lt.mp far
          have moves : s.pose.atRest.mast = false := drives.resolve_left far
          have left := goes.trans
            (lowering_settles taken highP (by rw [p_eq]; exact near) soundP supplyP (by rw [p_eq]; exact moves))
          rw [entryP] at left
          rw [left]
          refine ⟨arbW, taken.group, rfl, idle, closing, fun hit => absurd hit far, fun _ => ⟨?_, ?_⟩, fun q holder => ?_⟩
          · rw [← activeOn_of_pose poseW]
            rfl
          · have aboveW : (3000 : Int) < w.pose.position.get .mast := by rw [poseW]; exact high
            show settlingToward 3000 .mast w = _
            rw [settlingToward_above aboveW, settlingToward_above (s := s) (a := .mast) high, estopW]
          · rw [← left]
            exact lost q holder (spares_of_ports (by rw [left]; rfl))
      · have exeV : (loweringState (limitState s)).exe = { w.exe with queue := [loweringEntry p] } := by
          rw [← loweringState_exe taken, p_eq]
          rfl
        obtain ⟨-, done, alarm, spared⟩ := lowering_arrives_left taken (besideW unclaimed) exeV rfl highP
          (by rw [p_eq]; exact near) (by rw [p_eq]; exact sound) (by rw [p_eq]; exact supply) (by rw [p_eq]; exact stands)
        rw [← goes, entryP] at done
        rw [← goes] at alarm spared
        refine ⟨done, by rw [alarm, taken.park, p_eq]; rfl, fun q holder => lost q holder (spared q ?_)⟩
        rw [arbW]
        exact unclaimed q holder
      · obtain ⟨-, ⟨queue, active, closing⟩, boundary, ⟨windOn, alarmOn⟩, sounds, spared⟩ :=
          lowering_fails_left taken (besideW unclaimed) (by rw [p_eq]; exact faulted)
        rw [← goes] at queue active closing boundary windOn alarmOn sounds spared
        refine ⟨queue, active, closing, boundary, windOn, alarmOn, fun silent => ?_, fun q holder => lost q holder (spared q ?_)⟩
        · have told := sounds (by rw [alarmW, p_eq]; exact silent)
          rw [arbW, poseW, settingsW, taken.park, p_eq] at told
          exact tellsAll_masked (plain_condition _ _ _ _ _ _) masksW maskedW told
        · rw [arbW]
          exact unclaimed q holder
      · obtain ⟨-, spared, suspended, stays, cranks⟩ := lowering_suspends_left taken highP (by rw [p_eq]; exact sound)
          (by rw [p_eq]; exact supply)
        rw [← goes, settingsW] at suspended stays
        rw [← goes] at spared cranks
        have tagP : p.exe.nextTag = s.exe.nextTag := by rw [p_eq]; rfl
        have authS : p.arb.auth = s.arb.auth := by rw [p_eq]; rfl
        have sameW (k : Nat) (new : k ∉ [11]) (kept : k ∉ [2, 7]) : sameNotices k s w :=
          sameNotices_trans (sameP k new) (sameNotices_of_keeps keptW kept)
        rw [entryP, authS] at stays
        rw [tagP] at suspended cranks
        rw [authS] at cranks
        refine ⟨fun q holder => lost q holder (spared q), tellsAll_after (sameW 14 (by decide) (by decide)) suspended,
          fun other => ?_, fun pending => ?_⟩
        · obtain ⟨arb, safe, queue, active, suspension, closing⟩ := stays other
          rw [activeOn_of_pose poseW] at active
          exact ⟨arb.trans arbW, by rw [safe]; exact taken.group, queue, active, suspension, closing⟩
        · obtain ⟨arb, groupT, queue, active, suspension, windOn, alarmOn, begun⟩ := cranks pending
          have authW : w.arb.auth = .manualPending := by
            rw [arbW]
            exact if_pos pending
          rw [authW, show w.arb.holder = some .safety by rw [arbW]; rfl] at begun
          exact ⟨arb.trans (crankGranted_of_arb arbW), groupT, queue, active, suspension, windOn, alarmOn,
            tellsAll_after (sameW 13 (by decide) (by decide)) begun⟩

end Sys2Proof.Machine
end

section
/-! The lines that a start finds, read in any order: what reads none of them leaves them as they stand (R88, R168). -/

namespace Sys2Proof.Machine

variable {s t u v w : State} {e : Entry} {rest : List Entry} {a : Axis} {k : LockReason} {estop park manual : Bool}

/-! ### The lines replaced -/

/-- The ESTOP, PARK and MANUAL REQ lines replaced (R88). -/
def relined (estop park manual : Bool) (s : State) : State :=
  s.setSafe { s.safe with estop := estop, park := park, manualReq := manual }

theorem relined_relined (e p m : Bool) (s : State) : relined estop park manual (relined e p m s) = relined estop park manual s := rfl

theorem placeOn_setSafe (p : Port) (body : NoticeBody) (m : SafetyMonitor) (s : State) :
    placeOn p body (s.setSafe m) = (placeOn p body s).setSafe m := by
  unfold placeOn
  rw [apply_ite (State.setSafe · m)]
  rfl

theorem placeAll_setSafe (body : NoticeBody) (m : SafetyMonitor) (s : State) :
    placeAll body (s.setSafe m) = (placeAll body s).setSafe m := by
  unfold placeAll
  rw [placeOn_setSafe, placeOn_setSafe, placeOn_setSafe]

theorem placeAll_relined (body : NoticeBody) (s : State) :
    placeAll body (relined estop park manual s) = relined estop park manual (placeAll body s) := by
  unfold relined
  rw [placeAll_setSafe, (placeAll_frame body s).2.2.2.2.2.1]

theorem ite_relined {P : Prop} [Decidable P] (s t : State) :
    (if P then relined estop park manual s else relined estop park manual t) = relined estop park manual (if P then s else t) :=
  (apply_ite _ _ _ _).symm

/-! ### The end of a start before its lines are read -/

theorem noteDefaulted_relined (s : State) :
    noteDefaulted (relined estop park manual s) = relined estop park manual (noteDefaulted s) := by
  unfold noteDefaulted
  rw [← ite_relined]
  exact ite_congr rfl (fun _ => placeAll_relined _ s) (fun _ => rfl)

theorem keptLockout_relined (s : State) : keptLockout (relined estop park manual s) = relined estop park manual (keptLockout s) := by
  unfold keptLockout
  rw [← ite_relined]
  rfl

theorem startBegun_relined (cause : StartCause) (i : StartInputs) (s : State) :
    startBegun cause i (relined estop park manual s) = relined estop park manual (startBegun cause i s) := by
  unfold startBegun
  rw [← keptLockout_relined, ← noteDefaulted_relined]
  rfl

/-! ### Alarms and reasons -/

theorem setAlarmCauses_relined (parkCause wind : Bool) (s : State) :
    setAlarmCauses parkCause wind (relined estop park manual s) = relined estop park manual (setAlarmCauses parkCause wind s) := by
  unfold setAlarmCauses
  dsimp only
  rw [← ite_relined]
  exact ite_congr rfl (fun _ => rfl) (fun _ => placeAll_relined _ (withAlarm parkCause wind s))

theorem raiseParkAlarm_relined (s : State) :
    raiseParkAlarm (relined estop park manual s) = relined estop park manual (raiseParkAlarm s) := by
  unfold raiseParkAlarm
  rw [← ite_relined]
  exact ite_congr rfl (fun _ => rfl) (fun _ => setAlarmCauses_relined _ _ s)

theorem foundWind_relined (s : State) : foundWind (relined estop park manual s) = relined estop park manual (foundWind s) := by
  unfold foundWind
  rw [← ite_relined]
  exact ite_congr rfl (fun _ => setAlarmCauses_relined _ _ s) (fun _ => rfl)

theorem flushCache_relined (cause : FlushCause) (requester : Option Port) (s : State) :
    flushCache cause requester (relined estop park manual s) = relined estop park manual (flushCache cause requester s) :=
  placeAll_relined _ (s.setCache Cache.start)

theorem enlistReason_relined (k : LockReason) (s : State) :
    enlistReason k (relined estop park manual s) = relined estop park manual (enlistReason k s) :=
  placeAll_relined _ (s.setArb { s.arb with reasons := s.arb.reasons.put k true })

theorem refuseClaims_relined (ps : List Port) (s : State) :
    refuseClaims ps (relined estop park manual s) = relined estop park manual (refuseClaims ps s) := by
  induction ps generalizing s with
  | nil => rfl
  | cons p ps ih => exact ih (placeAlways p .claimRefused s)

theorem enterLockout_relined (s : State) :
    enterLockout (relined estop park manual s) = relined estop park manual (enterLockout s) := by
  unfold enterLockout
  dsimp only
  rw [show (relined estop park manual s).arb.claims = s.arb.claims from rfl, refuseClaims_relined]
  rfl

/-! ### A controller that has just started -/

/-- Nobody holds authority and nothing is under way, in FREE or in LOCKOUT (R20, R42, R168). -/
structure JustStarted (s : State) : Prop where
  auth : s.arb.auth = .free ∨ s.arb.auth = .lockout
  holder : s.arb.holder = none
  active : s.exe.active = none
  closing : s.exe.closing = none
  scan : s.scan.scan = none
  group : s.safe.group = none
  low : 0 ≤ s.pose.position.mast

theorem idle_relined (idle : JustStarted s) : JustStarted (relined estop park manual s) := by
  obtain ⟨auth, holder, active, closing, scan, group, low⟩ := idle
  exact ⟨auth, holder, active, closing, scan, group, low⟩

/-- A reason joins the set, and locks out in FREE (R42). -/
theorem addReason_idle (idle : JustStarted s) (k : LockReason) :
    addReason k s =
      if s.arb.reasons.has k = true then s else if s.arb.auth = .free then enterLockout (enlistReason k s) else enlistReason k s := by
  by_cases held : s.arb.reasons.has k = true
  · rw [if_pos held]
    exact addReason_held held
  have new : s.arb.reasons.has k = false := eq_false_of_ne_true held
  rw [if_neg held]
  rcases idle.auth with free | lockout
  · rw [if_pos free]
    exact addReason_free new free
  · rw [if_neg (by rw [lockout]; decide)]
    exact addReason_joins new (Or.inr lockout)

theorem addReason_relined (idle : JustStarted s) (k : LockReason) :
    addReason k (relined estop park manual s) = relined estop park manual (addReason k s) := by
  rw [addReason_idle idle, addReason_idle (idle_relined idle), ← ite_relined, ← ite_relined, ← enlistReason_relined,
    ← enterLockout_relined, ← enlistReason_relined]
  rfl

theorem foundEstop_relined (idle : JustStarted s) (asserted : Bool) :
    foundEstop asserted (relined estop park manual s) = relined asserted park manual (foundEstop asserted s) := by
  cases asserted with
  | false => rfl
  | true =>
    have stopped : JustStarted (stopAxes (Axes.all true) (setEstop true s)) := by
      obtain ⟨auth, holder, active, closing, scan, group, low⟩ := idle
      exact ⟨auth, holder, active, closing, scan, group, low⟩
    exact addReason_relined stopped .estop

theorem addReason_justStarted (idle : JustStarted s) (k : LockReason) : JustStarted (addReason k s) := by
  have enlisted : JustStarted (enlistReason k s) := by
    obtain ⟨auth, holder, active, closing, scan, group, low⟩ := idle
    obtain ⟨only, -⟩ := enlistReason_told k s
    obtain ⟨-, -, arb, exe, pose, safe, -, -, -, scanKept, -⟩ := onlyOutputs_frame only
    exact ⟨by rw [arb]; exact auth, by rw [arb]; exact holder, by rw [exe]; exact active, by rw [exe]; exact closing,
      by rw [scanKept]; exact scan, by rw [safe]; exact group, by rw [pose]; exact low⟩
  have entered : JustStarted (enterLockout (enlistReason k s)) := by
    obtain ⟨-, -, active, -, scan, group, low⟩ := enlisted
    refine ⟨Or.inr ?_, ?_, ?_, ?_, ?_, ?_, ?_⟩
    · rw [enterLockout_arb]
      rfl
    · rw [enterLockout_arb]
      rfl
    · rw [enterLockout_exe]
      exact active
    · rw [enterLockout_exe]
    · rw [← scan]
      simp
    · rw [← group]
      simp
    · have pose : (enterLockout (enlistReason k s)).pose = (enlistReason k s).pose := by simp
      rw [pose]
      exact low
  rw [addReason_idle idle]
  exact ite_keeps idle (ite_keeps entered enlisted)

theorem foundEstop_justStarted (idle : JustStarted s) (asserted : Bool) : JustStarted (foundEstop asserted s) := by
  obtain ⟨auth, holder, active, closing, scan, group, low⟩ := idle
  cases asserted with
  | false => exact ⟨auth, holder, active, closing, scan, group, low⟩
  | true =>
    have stopped : JustStarted (stopAxes (Axes.all true) (setEstop true s)) :=
      ⟨auth, holder, active, closing, scan, group, low⟩
    exact addReason_justStarted stopped .estop

end Sys2Proof.Machine
end

section
/-! The park rule of a start does not read MANUAL REQ (R88, R96, R97, R168). -/

namespace Sys2Proof.Machine

variable {s t u v w : State} {e : Entry} {rest : List Entry} {a : Axis} {k : LockReason} {estop park manual asserted : Bool}
  {group : SafetyGroup} {ds : List Draft}

/-! ### SAFETY takes authority from nobody -/

theorem haltByOrder_idle (active : s.exe.active = none) (scan : s.scan.scan = none) (why : EndReason) :
    haltByOrder why s = s.setExe (haltedExe s) := by
  have halted := haltByOrder_exe why s
  have entry : activeEntry s = none := activeEntry_none active
  have quiet : finishScan why false s = s := finishScan_quiet (Or.inl scan) why false
  have made : haltByOrder why s = s.setExe (haltByOrder why s).exe := by
    unfold haltByOrder haltAll
    rw [quiet, entry]
    rfl
  rw [made, halted]

/-- The taking of authority from nobody, with nothing under way (R38, R40). -/
theorem takenBy_idle (idle : JustStarted s) (group : SafetyGroup) (ds : List Draft) :
    takenBy group ds s =
      (((s.setExe
            { haltedExe s with
              queue := entriesOf s.exe.nextTag .safety s.exe.nextTag ds, nextTag := tagsAfter s.exe.nextTag ds.length }).setArb
          (takenArb s)).setSafe { s.safe with group := some group }) := by
  obtain ⟨-, holder, active, -, scan, ungrouped, -⟩ := idle
  have halted : haltedFor .safety .safety s = (s.setExe (haltedExe s)).setSafe { s.safe with group := none } := by
    unfold haltedFor
    rw [haltByOrder_idle active scan, holder]
    unfold groupCut placeAuthority
    dsimp only
    rw [State.setExe_safe, ungrouped]
  unfold takenBy
  dsimp only
  rw [halted]
  rfl

theorem setManualReq_eq (estopLine : s.safe.estop = estop) (parkLine : s.safe.park = park) :
    setManualReq manual s = relined estop park manual s := by
  subst estopLine parkLine
  rfl

theorem takenBy_manualReq (idle : JustStarted s) (group : SafetyGroup) (ds : List Draft) :
    takenBy group ds (setManualReq manual s) = setManualReq manual (takenBy group ds s) := by
  have idleNow : JustStarted (setManualReq manual s) := idle_relined (estop := s.safe.estop) (park := s.safe.park) idle
  rw [takenBy_idle idle, takenBy_idle idleNow]
  rfl

theorem placeAll_manualReq (body : NoticeBody) (s : State) :
    placeAll body (setManualReq manual s) = setManualReq manual (placeAll body s) := by
  unfold setManualReq
  rw [placeAll_setSafe, (placeAll_frame body s).2.2.2.2.2.1]

/-- The park stow that begins as a start finds PARK negated (R96, R97). -/
theorem takeSafety_manualReq (idle : JustStarted s) (free : s.arb.auth = .free) (needed : stowAxes s.pose.position ≠ [])
    (can : stowable s.pose.position s.pose.faulted = true) :
    takeSafety .parkStow (parkStowDrafts s.pose.position) (setManualReq manual s) =
      setManualReq manual (takeSafety .parkStow (parkStowDrafts s.pose.position) s) := by
  have low := idle.low
  obtain ⟨a, others, first⟩ := List.exists_cons_of_ne_nil needed
  obtain ⟨-, -, far⟩ := stow_first first can low
  obtain ⟨w, w_eq⟩ : ∃ w, w = takenBy .parkStow (parkStowDrafts s.pose.position) s := ⟨_, rfl⟩
  have taken : Taken .parkStow (parkStowDrafts s.pose.position) s w := by
    rw [w_eq]
    exact taken_takenBy ..
  have takenNow : Taken .parkStow (parkStowDrafts s.pose.position) (setManualReq manual s) (setManualReq manual w) := by
    rw [w_eq, ← takenBy_manualReq idle]
    exact taken_takenBy ..
  obtain ⟨e, rest, queue, -, sound, -⟩ := parkStow_ready taken first can low
  have soundNow : passes e a (parkValue a) (setManualReq manual w) := sound
  rw [takeSafety_eq, takeSafety_eq, takenBy_manualReq idle, ← w_eq]
  by_cases supply : s.exe.supply = .available
  · rw [taken_drives taken queue sound supply far, taken_drives takenNow queue soundNow supply far]
    rfl
  · have unpending : s.arb.auth ≠ .manualPending := by
      rw [free]
      decide
    rw [taken_stays taken queue sound supply unpending, taken_stays takenNow queue soundNow supply unpending,
      suspendActive_eq (firstActive_entry _ rest w), suspendActive_eq (firstActive_entry _ rest (setManualReq manual w)),
      ← placeAll_manualReq]
    rfl

/-! ### The park rule -/

theorem ite_manualReq {P : Prop} [Decidable P] (s t : State) :
    (if P then setManualReq manual s else setManualReq manual t) = setManualReq manual (if P then s else t) :=
  (apply_ite _ _ _ _).symm

theorem addReason_manualReq (idle : JustStarted s) (k : LockReason) :
    addReason k (setManualReq manual s) = setManualReq manual (addReason k s) := by
  rw [setManualReq_eq (s := addReason k s) (estop := s.safe.estop) (park := s.safe.park) (by simp) (by simp)]
  exact addReason_relined idle k

theorem parkRuleAlarms_manualReq (position : Axes Int) (alarmOnly : Bool) (s : State) :
    parkRuleAlarms position alarmOnly (setManualReq manual s) = setManualReq manual (parkRuleAlarms position alarmOnly s) := by
  have raised : raiseParkAlarm (setManualReq manual s) = setManualReq manual (raiseParkAlarm s) := by
    rw [setManualReq_eq (s := raiseParkAlarm s) (estop := s.safe.estop) (park := s.safe.park) (by simp) (by simp)]
    exact raiseParkAlarm_relined s
  unfold parkRuleAlarms
  rw [raised, ite_manualReq]

theorem parkActed_manualReq (idle : JustStarted s) :
    parkActed (setManualReq manual s) = setManualReq manual (parkActed s) := by
  have added (k : LockReason) := addReason_manualReq (manual := manual) idle k
  have noStow : ¬(s.arb.auth = .manual ∨ holdsParkStow s = true) := by
    rw [holdsParkStow_iff, idle.group]
    unfold closingFailed
    rw [idle.closing]
    rintro (manual | hit | hit)
    · rcases idle.auth with auth | auth <;> exact absurd (auth.symm.trans manual) (by decide)
    · cases hit
    · cases hit
  unfold parkActed
  rw [if_neg noStow]
  refine (if_neg noStow).trans ?_
  show (if s.arb.auth = .lockout then
      (if stowAxes s.pose.position = [] then addReason .interlock (setManualReq manual s) else setManualReq manual s)
    else parkRuleAct s.pose.position (setManualReq manual s)) = _
  unfold parkRuleLockout
  by_cases lockout : s.arb.auth = .lockout
  · rw [if_pos lockout, if_pos lockout, added, ite_manualReq]
  have free : s.arb.auth = .free := idle.auth.resolve_right lockout
  rw [if_neg lockout, if_neg lockout]
  unfold parkRuleAct
  by_cases stowed : stowAxes s.pose.position = []
  · rw [if_pos stowed, if_pos stowed]
    exact added .interlock
  · rw [if_neg stowed, if_neg stowed]
    by_cases can : stowable s.pose.position s.pose.faulted = true
    · rw [if_pos can]
      exact (if_pos can).trans (takeSafety_manualReq idle free stowed can)
    · rw [if_neg can]
      exact (if_neg can).trans (added .stowBlocked)

theorem parkRule_manualReq (idle : JustStarted s) :
    parkRule s.pose.position false (setManualReq manual s) = setManualReq manual (parkRule s.pose.position false s) := by
  have acted := parkActed_manualReq (manual := manual) idle
  have now := parkRule_split (setManualReq manual s)
  rw [acted, parkRuleAlarms_manualReq] at now
  rw [parkRule_split s]
  exact now

/-! ### The lines found -/

theorem foundPark_relined (idle : JustStarted s) (line : s.safe.estop = estop) (seen : Bool) :
    foundPark asserted seen (relined estop park manual s) = relined estop asserted manual (foundPark asserted seen s) := by
  cases asserted with
  | true =>
    unfold foundPark
    dsimp only
    rw [if_pos rfl, if_pos rfl, ← ite_relined, ← flushCache_relined]
    rfl
  | false =>
    obtain ⟨n, n_eq⟩ : ∃ n, n = flushCache .park none ((setPark false s).setHeading none) := ⟨_, rfl⟩
    have work : SameWork s n ∧ n.safe = { s.safe with park := false } := by
      obtain ⟨only, -⟩ := flushCache_told .park none ((setPark false s).setHeading none)
      obtain ⟨-, -, arb, exe, pose, safe, -, -, -, scan, -⟩ := onlyOutputs_frame only
      rw [← n_eq] at arb exe pose safe scan
      exact ⟨⟨arb, exe, scan, pose, by rw [safe]; rfl, by rw [safe]; rfl⟩, safe⟩
    obtain ⟨work, safe⟩ := work
    have idleN : JustStarted n := by
      obtain ⟨auth, holder, active, closing, scan, group, low⟩ := idle
      exact ⟨by rw [work.arb]; exact auth, by rw [work.arb]; exact holder, by rw [work.exe]; exact active,
        by rw [work.exe]; exact closing, by rw [work.scan]; exact scan, by rw [work.group]; exact group,
        by rw [work.pose]; exact low⟩
    have flushed : flushCache .park none ((setPark false (relined estop park manual s)).setHeading none) = setManualReq manual n := by
      have both := flushCache_relined (estop := estop) (park := false) (manual := manual) .park none ((setPark false s).setHeading none)
      rw [← n_eq] at both
      exact both.trans (setManualReq_eq (by rw [safe]; exact line) (by rw [safe])).symm
    have ruled := parkRule_manualReq (manual := manual) idleN
    have ruledEstop : (parkRule n.pose.position false n).safe.estop = n.safe.estop := by simp
    have ruledPark : (parkRule n.pose.position false n).safe.park = n.safe.park := by simp
    have made : foundPark false seen s = parkRule n.pose.position false n := by
      rw [n_eq]
      rfl
    have madeLined : foundPark false seen (relined estop park manual s) =
        parkRule n.pose.position false (setManualReq manual n) := by
      rw [← flushed]
      have pose : (flushCache .park none ((setPark false (relined estop park manual s)).setHeading none)).pose = n.pose := by
        rw [flushed]
        rfl
      rw [← pose]
      rfl
    rw [made, madeLined, ruled]
    exact setManualReq_eq (by rw [ruledEstop, safe]; exact line) (by rw [ruledPark, safe])

end Sys2Proof.Machine
end

section
/-! The warm start: what it resets and what it keeps, and the lines found at its end (R20, R88, R113, R123, R168, R169). -/

namespace Sys2Proof.Machine

variable {s t u : State} {estop park manual : Bool} {cause : StartCause} {reasons : Reasons} {i : StartInputs} {p : Port}

/-! ### The lines found -/

theorem justStarted_of_started (begun : Started cause reasons i t) : JustStarted t := by
  obtain ⟨-, -, authority, ⟨-, active, closing, -, -, -⟩, -, -, ⟨counts, position, -, -⟩, ⟨-, -, -, -, -, -, group⟩,
    ⟨-, scan, -, -, -⟩⟩ := begun
  have follows : poseFollows t := by
    unfold poseFollows
    rw [position, counts]
  refine ⟨?_, by rw [authority], active, closing, by rw [scan], group, mast_nonneg follows⟩
  rw [authority]
  show (if reasons = Reasons.empty then AuthState.free else .lockout) = .free ∨ _
  by_cases empty : reasons = Reasons.empty
  · exact Or.inl (if_pos empty)
  · exact Or.inr (if_neg empty)

theorem foundEstop_line (asserted : Bool) (s : State) : (foundEstop asserted s).safe.estop = asserted := by
  cases asserted with
  | false => rfl
  | true =>
    show (takeEstop s).safe.estop = true
    simp [takeEstop, setEstop]

theorem foundPark_line (asserted seen : Bool) (s : State) : (foundPark asserted seen s).safe.park = asserted := by
  cases asserted with
  | false =>
    show (takeParkNegation s).safe.park = false
    simp [takeParkNegation, setPark]
  | true =>
    unfold foundPark
    dsimp only
    rw [if_pos rfl]
    refine ite_keeps (P := fun x => x.safe.park = true) ?_ rfl
    simp [setPark]

/-- MANUAL REQ as found replaces the line (R79, R168). -/
theorem foundManual_relined (asserted : Bool) (estopLine : s.safe.estop = estop) (parkLine : s.safe.park = park) :
    foundManual asserted (relined estop park manual s) = foundManual asserted s := by
  subst estopLine parkLine
  rfl

/-- The end of a start does not read the lines that it finds replaced (R88, R168). -/
theorem endOfStart_relined (seen : Bool) (idle : JustStarted (startBegun cause i s)) :
    endOfStart cause seen i (relined estop park manual s) = endOfStart cause seen i s := by
  have stopped := foundEstop_justStarted idle i.estop
  have estopLine := foundEstop_line i.estop (startBegun cause i s)
  have parkLine := foundPark_line i.park seen (foundEstop i.estop (startBegun cause i s))
  rw [endOfStart_eq, endOfStart_eq, startBegun_relined, foundEstop_relined idle, foundPark_relined stopped estopLine,
    foundWind_relined]
  refine foundManual_relined i.manualReq ?_ ?_
  · simpa using estopLine
  · simpa using parkLine

/-! ### What the warm start resets and keeps -/

/-- The warm start before its end, with quiet lines. -/
def warmQuiet (i : StartInputs) (s : State) : State := relined false true false (warmState i s)

theorem finishWrites_frame (back : ReadBack) (s : State) :
    (finishWrites back s).powered = s.powered ∧ (finishWrites back s).arb = s.arb ∧ (finishWrites back s).exe = s.exe
      ∧ (finishWrites back s).pose = s.pose ∧ (finishWrites back s).safe = s.safe
      ∧ (finishWrites back s).cache = s.cache := by
  unfold finishWrites
  dsimp only
  refine ⟨?_, ?_, ?_, ?_, ?_, ?_⟩ <;> rfl

theorem relined_kept (e p m : Bool) (s : State) :
    relined s.safe.estop s.safe.park s.safe.manualReq (relined e p m s) = s := rfl

theorem warmQuiet_frame (i : StartInputs) (s : State) :
    (warmQuiet i s).powered = s.powered
      ∧ (warmQuiet i s).arb = { Arbiter.start with reasons := s.arb.reasons }
      ∧ (warmQuiet i s).exe = warmExecutor s.exe
      ∧ (warmQuiet i s).pose =
          { s.pose with
            counts := i.reading.counts, position := positionsOf i.reading.counts, atRest := i.reading.atRest
            lamp := lampOf (positionsOf i.reading.counts) }
      ∧ (warmQuiet i s).safe = { warmMonitor s.safe with estop := false, park := true, manualReq := false }
      ∧ (warmQuiet i s).store = (finishWrites i.readBack s).store ∧ (warmQuiet i s).cache = s.cache
      ∧ (warmQuiet i s).heading = none ∧ (warmQuiet i s).scan = ScanEngine.start
      ∧ (warmQuiet i s).settings = (finishWrites i.readBack s).settings := by
  obtain ⟨powered, arb, exe, pose, safe, cache⟩ := finishWrites_frame i.readBack s
  rw [← powered, ← arb, ← exe, ← pose, ← safe, ← cache]
  unfold warmQuiet warmState
  generalize finishWrites i.readBack s = f
  exact ⟨rfl, rfl, rfl, rfl, rfl, rfl, rfl, rfl, rfl, rfl⟩

theorem warmQuiet_reset (on : s.powered = true) : Reset s.arb.reasons i (warmQuiet i s) := by
  have engine : (finishWrites i.readBack s).store.engine = .idle := by
    unfold finishWrites
    cases held : s.store.engine <;> simp [held, Store.writeEnded, Store.erased]
  have writing : (finishWrites i.readBack s).settings.writing = none := by
    unfold finishWrites
    cases held : s.settings.writing <;> simp [held, Settings.written]
  have staging : (finishWrites i.readBack s).store.staging = Ports.all none := rfl
  obtain ⟨powered, arb, exe, pose, safe, store, -, heading, scan, settings⟩ := warmQuiet_frame i s
  refine ⟨powered.trans on, arb, ?_, fun a => ?_, ?_, ?_, ?_, heading, scan, ?_, ?_, ?_⟩
  · rw [exe]
    exact ⟨rfl, rfl, rfl, rfl, rfl⟩
  · rw [exe]
    cases a <;> exact ⟨rfl, rfl, rfl⟩
  · rw [pose]
    exact ⟨rfl, rfl, rfl, rfl⟩
  · rw [safe]
    exact ⟨rfl, rfl, rfl, rfl⟩
  · rw [safe]
    exact ⟨rfl, rfl⟩
  · rw [store, engine]
  · rw [store, staging]
  · rw [settings, writing]

theorem warmStart_eq (on : s.powered = true) (cause : StartCause) (i : StartInputs) :
    warmStart cause i s = endOfStart cause i.parkNegatedDuring i (warmQuiet i s) := by
  have idle := justStarted_of_started (startBegun_started (cause := cause) (warmQuiet_reset (i := i) on))
  have quiet := endOfStart_relined (estop := (warmState i s).safe.estop) (park := (warmState i s).safe.park)
    (manual := (warmState i s).safe.manualReq) i.parkNegatedDuring idle
  unfold warmQuiet at quiet ⊢
  rw [relined_kept] at quiet
  exact quiet

theorem finishWrites_settings (back : ReadBack) (s : State) :
    (finishWrites back s).settings.inForce = s.settings.inForce
      ∧ (finishWrites back s).settings.defaulted = s.settings.defaulted
      ∧ (s.settings.writing.isSome = true → (finishWrites back s).settings.stored = storedOf s.settings.inForce)
      ∧ (s.settings.writing = none → (finishWrites back s).settings.stored = s.settings.stored) := by
  unfold finishWrites
  cases held : s.settings.writing <;> simp [Settings.written]

/-- A write in flight has run to its end (R123, R169). -/
theorem finishWrites_write {n : Nat} {who : Port} {retire : Bool} (back : ReadBack)
    (writes : s.store.engine.write = some (n, who, retire)) (m : Nat) :
    (finishWrites back s).store.slotAt m = (s.store.writeEnded n retire back).slotAt m := by
  have engine := engine_write_some writes
  unfold finishWrites
  cases retire <;> rw [engine] <;> rfl

theorem writeEnded_slotAt_same {t : Store} {n : Nat} (retire : Bool) (back : ReadBack) (small : n < t.slots.length) :
    (t.writeEnded n retire back).slotAt n = writtenSlot retire back (t.slotAt n) :=
  slotAt_setSlot_same _ small

/-- A state with the store of a warm start keeps the slots outside the write in flight, which has run to its end (R113,
R123). -/
theorem finishWrites_slots (back : ReadBack) (s : State) (store : t.store = (finishWrites back s).store) :
    (s.store.engine = .idle → t.store.slots = s.store.slots)
      ∧ (∀ who n, s.store.engine = .erase who n →
          t.store.slots = List.replicate 48 { state := .free, recorded := .free, contents := none })
      ∧ ∀ n who retire, s.store.engine.write = some (n, who, retire) → storeFits s →
          onlySlot n s t
            ∧ (back = .good →
                (t.store.slotAt n).state = (if retire = true then .retired else .committed)
                  ∧ (t.store.slotAt n).contents = (s.store.slotAt n).contents)
            ∧ (back ≠ .good → (t.store.slotAt n).state = .damaged) := by
  rw [store]
  refine ⟨fun idle => ?_, fun who n erases => ?_, fun n who retire writes fits => ?_⟩
  · unfold finishWrites
    rw [idle]
    rfl
  · unfold finishWrites
    rw [erases]
    rfl
  · obtain ⟨length, holds⟩ := fits
    obtain ⟨small, -⟩ := holds n who retire writes
    have ended := finishWrites_write back writes
    have reached := (ended n).trans (writeEnded_slotAt_same retire back (length.symm ▸ small))
    rw [reached]
    refine ⟨fun m other => ?_, fun good => ?_, fun bad => (writtenSlot_bad retire bad _).1⟩
    · rw [store, ended, writeEnded_slotAt_other retire back other]
    · subst good
      exact writtenSlot_good retire _

/-- The pose, the cache, the monitor, the settings and the store of a warm start before its lines are read (R168, R169). -/
theorem warmBegun_parts (cause : StartCause) (i : StartInputs) (s : State) :
    (startBegun cause i (warmQuiet i s)).pose =
        { s.pose with
          counts := i.reading.counts, position := positionsOf i.reading.counts, atRest := i.reading.atRest
          lamp := lampOf (positionsOf i.reading.counts), faultLine := i.faultLine
          faulted := (foundFaults i.faultLine s).pose.faulted }
      ∧ (startBegun cause i (warmQuiet i s)).cache = s.cache
      ∧ (startBegun cause i (warmQuiet i s)).safe =
          { warmMonitor s.safe with
            estop := false, park := true, manualReq := false, resetLine := i.resetLine, supplyOk := i.supplyOk }
      ∧ (startBegun cause i (warmQuiet i s)).settings = (finishWrites i.readBack s).settings
      ∧ (startBegun cause i (warmQuiet i s)).store = (finishWrites i.readBack s).store := by
  obtain ⟨-, -, storeKept, cacheKept, -, -, settingsKept⟩ := startBegun_rest cause i (warmQuiet i s)
  obtain ⟨-, -, -, pose, safe, store, cache, -, -, settings⟩ := warmQuiet_frame i s
  refine ⟨?_, cacheKept.trans cache, ?_, settingsKept.trans settings, storeKept.trans store⟩
  · rw [startBegun_pose, foundFaults, State.setPose_pose, pose]
    rfl
  · rw [startBegun_safe, safe]

theorem foundFaults_get (lines : Axes Bool) (s : State) (a : Axis) :
    (foundFaults lines s).pose.faulted.get a = (s.pose.faulted.get a || lines.get a) := by
  cases a <;> rfl

/-! ### The commands of a warm start -/

theorem reset_starts (on : s.powered = true) (negated : s.safe.resetLine = false) :
    exec (.reset i) s = .next (warmStart .warmReset i s) := by
  rw [exec_of_powered (f := fun s => if s.safe.resetLine then s else warmStart .warmReset i s) rfl on]
  exact congrArg _ (if_neg (by rw [negated]; decide))

theorem reset_held (on : s.powered = true) (held : s.safe.resetLine = true) : exec (.reset i) s = .next s := by
  rw [exec_of_powered (f := fun s => if s.safe.resetLine then s else warmStart .warmReset i s) rfl on]
  exact congrArg _ (if_pos held)

theorem restart_starts (taken : takes .rack .restart s) :
    exec (.restart .rack i) s = .next (warmStart .warmRestart i s) :=
  exec_of_takes (f := restartFrom .rack i) rfl taken

theorem restart_refused (taken : takes p .restart s) (other : p ≠ .rack) :
    exec (.restart p i) s = .next (answeredState p .restart .notPermitted [] s) :=
  exec_of_refused (f := restartFrom p i) rfl taken (if_neg other) rfl

/-- Settles O53: the start with quiet lines resets and keeps what is asked, and the lines are read from there, as its end does
not read what stood on them. -/
theorem aWarmStartKeepsWhatItMust : Obligations.AWarmStartKeepsWhatItMust := by
  intro i p s on
  refine ⟨fun c cause starts => ?_, reset_held on, restart_refused, exec_of_powered (f := setResetLine false) rfl on⟩
  have started : exec c s = .next (warmStart cause i s) := by
    rcases starts with ⟨rfl, negated, rfl⟩ | ⟨rfl, taken, rfl⟩
    · exact reset_starts on negated
    · exact restart_starts taken
  have begun := startBegun_started (cause := cause) (warmQuiet_reset (i := i) on)
  obtain ⟨estop, park, manual, -⟩ := begun.lines
  have lines := linesRead_of_quiet i i.parkNegatedDuring begun.on estop park manual
  rw [← endOfStart_eq, ← warmStart_eq on] at lines
  obtain ⟨pose, cache, safe, settings, store⟩ := warmBegun_parts cause i s
  obtain ⟨inForce, defaulted, written, unwritten⟩ := finishWrites_settings i.readBack s
  rw [← settings] at inForce defaulted written unwritten
  refine ⟨_, _, started, lines, begun, ?_, ?_, fun a => ?_, cache, ?_, ?_, ?_, ?_, ?_, ?_, ?_, ?_, inForce, defaulted, written,
    unwritten, finishWrites_slots i.readBack s store⟩
  · rw [pose]
  · rw [pose]
  · rw [pose]
    exact foundFaults_get i.faultLine s a
  all_goals
    rw [safe]
    rfl

end Sys2Proof.Machine
end
